-- ==== Sys2Proof/Word.lean ====
section
/-! DEFINITION. Words of the PX-256 (00_scope.md R1, R3): the native word is 64 bits; tenants are T0 to T255, root
ports 0 to 15. Indices are bounded numbers; registers and descriptor words are bit vectors. -/

namespace Sys2Proof

/-- One byte. -/
abbrev Byte := BitVec 8

/-- The native word: registers, descriptor words, times and counters (00 Table 0.1). -/
abbrev Word := BitVec 64

/-- A tenant number, T0 to T255 (00 Table 0.1). -/
abbrev TenantId := Fin 256

/-- A root port number, 0 to 15. -/
abbrev PortId := Fin 16

/-- A transfer worker, W0 to W31. -/
abbrev WorkerId := Fin 32

/-- A Sedge core, C0 to C3. -/
abbrev CoreId := Fin 4

end Sys2Proof
end

