-- ==== Sys2Proof/Machine/Names.lean ====
section
/-! DEFINITION. The PX-256's named things: functions, modes, status codes, nodes, items, speeds, and the records that
commands and State share. Each carries the code of the spec's table where it has one. -/

namespace Sys2Proof.Machine

/-- A function, and with it the owner of a pair of rings: PF0 (manager software) or the VF of a tenant (04 R74, R76). -/
inductive Fn where
  | pf0
  | vf (t : TenantId)
  deriving DecidableEq, Repr

/-- How a read reaches a register (04 Table 4.6, 00 R5): whole, or one 32-bit half of it. A read of 1 to 3 bytes has the
side effects of the half it lies in. -/
inductive RdHalf where
  | full | low | high
  deriving DecidableEq, Repr

/-- How a write reaches a register (04 Table 4.6): 64-bit aligned, a 32-bit half, or any other size or alignment. -/
inductive WrAcc where
  | full | low | high | other
  deriving DecidableEq, Repr

/-- Tenant states (11 Table 11.1); the code is T_STATUS.STATE. -/
inductive TenantState where
  | vacant | standby | active | quiescing | quiesced | fenced | resetting
  deriving DecidableEq, Repr

/-- Handle states (05 Table 5.3). -/
inductive HandleState where
  | running | halted | detached | lost
  deriving DecidableEq, Repr

/-- Status codes of completions (05 Table 5.6). -/
inductive Status where
  | success | shortPacket | stall | busError | babble | timeout | policed | gateTooLong | missedService
  | detached | sealFailed | aborted | contextLost | dmaFault | badDescriptor | noBandwidth | overQuota
  | notPermitted | outOfEnvelope | peatUnavailable | epochExhausted | fenced | gateConflict
  deriving DecidableEq, Repr

/-- Endpoint transfer types. -/
inductive EpType where
  | control | bulk | interrupt | iso
  deriving DecidableEq, Repr

/-- Speeds, coded as T_VP_STATUS.SPEED (05 R136). -/
inductive Speed where
  | low | full | high | gen1 | gen2
  deriving DecidableEq, Repr

/-- Graph nodes (08 Table 8.5). -/
inductive Node where
  | fetch | check | move | seal | issue | unseal | retire | notify
  deriving DecidableEq, Repr

/-- Items of the Sedge cores (08 Table 8.7). -/
inductive ItemCode where
  | peatMount | imageSelect | tableBuild | portPower | enumerate | wake | leaseCommit | logWrite | compactStep
  | faultRecover | selfTestMbist | selfTestLoopback | sealArith
  deriving DecidableEq, Repr

/-- A unit that runs operations: a worker or a Sedge core (01 R8). -/
inductive UnitId where
  | worker (w : WorkerId)
  | core (c : CoreId)
  deriving DecidableEq, Repr

/-- The fourteen islands, in the order of 01 Table 1.3. -/
inductive Island where
  | aon | hostlink | func | sched | lode | worka | workb | seal | ssport | hsport | svc | mgmt | nvm | test
  deriving DecidableEq, Repr

/-- Power states LP0 to LP3 (13 Table 13.1). -/
inductive LpState where
  | lp0 | lp1 | lp2 | lp3
  deriving DecidableEq, Repr

/-- Operating points OPP0 to OPP2 (13 Table 13.8). -/
inductive Opp where
  | opp0 | opp1 | opp2
  deriving DecidableEq, Repr

/-- Discipline states of Keeper time (04 Table 4.9). -/
inductive TimeState where
  | free | acquiring | locked | holdover
  deriving DecidableEq, Repr

/-- GBL_TIME_STATUS.ACTIVE_SOURCE. -/
inductive ActiveSource where
  | none | ptm | pps
  deriving DecidableEq, Repr

/-- SCH_MF_STATUS.LOCK (07 R175 to R177). -/
inductive MfLock where
  | locked | slewing | freeRun
  deriving DecidableEq, Repr

/-- PEAT_STATUS.STATE (14 R374). -/
inductive PeatState where
  | mounted | degraded | locked | absent
  deriving DecidableEq, Repr

/-- PEAT_STATUS.REASON. -/
inductive PeatReason where
  | none | noFlash | unformatted | notMounted | custody | rollback | epochMismatch | fuseFail | lowSpace | worn | retired
  deriving DecidableEq, Repr

/-- Thermal stages (09 Table 9.9). -/
inductive Thermal where
  | normal | soft | hard | crit
  deriving DecidableEq, Repr

/-- Mode of a plane area (08 R228). -/
inductive AreaMode where
  | graph | item
  deriving DecidableEq, Repr

/-- SCH_MODE.CAUSE (08 R228). -/
inductive ModeCause where
  | none | startUp | custody | selfTest | recovery
  deriving DecidableEq, Repr

/-- SLC_PORT_STATUS.ADMIN_STATE (09 Table 9.7). -/
inductive AdminState where
  | empty | staged | pending
  deriving DecidableEq, Repr

/-- Energy classes (09 Table 9.9). -/
inductive EnergyClass where
  | essential | standard | deferrable
  deriving DecidableEq, Repr

/-- PRT_DEV_INFO.STATE of a present device (06 R173). -/
inductive DevState where
  | enumerating | unmatched | granted | hub | failed | refused
  deriving DecidableEq, Repr

/-- Where a device sits (06 R137, R139): root port, side, and the hub port numbers below it, nearest hub first. -/
structure DevId where
  port : PortId
  ss : Bool
  path : List Nat
  deriving DecidableEq, Repr

/-- An interrupt source (12 Table 12.1). -/
inductive Src where
  | vf (t : TenantId) (n : Fin 32)
  | pf (n : Fin 64)
  | shared (n : Fin 96)
  | core (c : CoreId) (n : Fin 16)
  deriving DecidableEq, Repr

/-- An over-current unit (06 R169, R171): a root port (with its gang, if any) or a hub's downstream port. -/
inductive OcRef where
  | root (p : PortId)
  | hub (d : DevId) (port : Nat)
  deriving DecidableEq, Repr

/-- What a full reset comes from (02 R31): POR_N low for a number of ns, or VAON below 0.70 V. -/
inductive FullResetSrc where
  | por (lowNs : Nat)
  | vaonLow
  deriving DecidableEq, Repr

/-- A configuration request to one dword of a function's configuration space (03 R54, 04 R82). -/
inductive CfgReq where
  | read (off : Nat)
  | write (off : Nat) (v : BitVec 32)
  deriving DecidableEq, Repr

/-- A change of an MSI-X mask or enable (12 R318). -/
inductive MsixCtl where
  | enable (on : Bool)
  | functionMask (on : Bool)
  | entryMask (n : Fin 64) (on : Bool)
  deriving DecidableEq, Repr

/-- An access to a register of a function (04 Table 4.6): a write, or a read of so many bytes at an offset. -/
inductive Access where
  | write (f : Fn) (off : Nat) (a : WrAcc) (v : BitVec 64)
  | read (f : Fn) (off size : Nat)
  deriving DecidableEq, Repr

/-- A request that crosses a culvert (01 Table 1.4): a register access, a configuration request, a write or a read of an MSI-X table, the
operation in a unit's slot, or another, by number. -/
inductive CulvertReq where
  | access (x : Access)
  | config (f : Fn) (r : CfgReq)
  | tableWrite (f : Fn) (off size : Nat) (v : BitVec 64)
  | tableRead (f : Fn) (off size : Nat)
  | slot (u : UnitId)
  | other (n : Nat)
  deriving DecidableEq, Repr

/-- What lets held writes go out (04 R417). -/
inductive LinkUp where
  | link
  | busMaster (f : Fn)
  deriving DecidableEq, Repr

/-- One endpoint descriptor: address, type, maximum packet size, burst or multiplier, bInterval (05 R132). -/
structure EpDesc where
  addr : Byte
  kind : EpType
  mps : Nat
  burst : Nat
  bInterval : Nat
  deriving DecidableEq, Repr

/-- One alternate setting of an interface, with its class triple and endpoints. -/
structure AltSetting where
  iface : Nat
  alt : Nat
  cls : Byte
  sub : Byte
  proto : Byte
  eps : List EpDesc
  deriving DecidableEq, Repr

/-- One configuration descriptor read in full (06 Table 6.1 step 8). -/
structure ConfigDesc where
  value : Byte
  alts : List AltSetting
  deriving DecidableEq, Repr

/-- The fields of a device descriptor that the controller uses (06 R141, R145, R152). -/
structure DevDesc where
  vid : BitVec 16
  pid : BitVec 16
  bcd : BitVec 16
  bcdUsb : BitVec 16
  cls : Byte
  sub : Byte
  proto : Byte
  numConfigs : Nat
  iSerial : Nat
  deriving DecidableEq, Repr

/-- The BOS facts that the controller uses: the device capabilities as read, of which 10 Table 10.1 is one, the USB 2.0
extension's LPM facts (07 R205) and the U2 system exit latency in us (07 R206). -/
structure BosDesc where
  caps : List (List Byte)
  lpm : Bool
  besl : Option Nat
  u2Exit : Nat
  deriving DecidableEq, Repr

/-- A hub descriptor: downstream ports, bPwrOn2PwrGood, ganged power, and whether the hub declares LPM. -/
structure HubDesc where
  ports : Nat
  pwrOn : Nat
  ganged : Bool
  deriving DecidableEq, Repr

/-- How a controller-issued request ends (06 R141, 10 R265). -/
inductive ReqEnd where
  | ok | stall | failed
  deriving DecidableEq, Repr

/-- How an enumeration request ends, with what it returned (06 Table 6.1): `total` is the full length that the head of a configuration
or of the BOS gives, `langs` the languages of string 0. -/
inductive EnumReply where
  | failed
  | ack
  | maxPacket0 (n : Nat)
  | device (d : DevDesc)
  | config (c : ConfigDesc)
  | bos (b : BosDesc)
  | total (n : Nat)
  | langs (l : List Nat)
  | serial (utf16 : List Byte)
  | hub (h : HubDesc)
  deriving DecidableEq, Repr

/-- A change that a hub poll reports for one downstream port (06 R147, R171). -/
inductive HubChange where
  | connect (port : Nat) (speed : Speed)
  | disconnect (port : Nat)
  | overCurrent (port : Nat)
  | hubOverCurrent
  | ocCleared (port : Nat)
  deriving DecidableEq, Repr

/-- How a bus transaction ends (07 R196 to R201). `data n` is an IN that returned n bytes, `mismatch` one whose packet had the wrong toggle
or sequence number; `ack` is an acknowledged OUT, SETUP, STATUS or PING. -/
inductive BusOutcome where
  | ack | data (n : Nat) | mismatch | nak | nyet | nrdy | stall | babble | error | noResponse | notStarted
  deriving DecidableEq, Repr

/-- One image slot or flash device as found by PEAT_MOUNT: readable SFDP, octal DTR trained, density in bytes, 64 KiB
erase declared (03 Table 3.4, 14 R347). -/
structure SfdpInfo where
  readable : Bool
  octal : Bool
  bytes : Nat
  erase64k : Bool
  deriving DecidableEq, Repr

/-- How the flash reads of an image slot end (03 Table 3.20 check 1): all of it, only its header, or nothing. -/
inductive FlashRead where
  | all | header | none
  deriving DecidableEq, Repr

/-- How a program of flash ends (14 R351, R352); `header`: the header of the sector opened for a record does not read back. -/
inductive ProgramEnd where
  | ok | mismatch | failed | header
  deriving DecidableEq, Repr

/-- What an X.509 v3 certificate says (10 R268): the signed part and its signature r ‖ s, whether that is ECDSA P-256 with SHA-256, the
names, the key as X ‖ Y (none of a P-256 key: no bytes), cA and pathLenConstraint, whether keyUsage, where present, lets the key sign and
certify, and a critical extension that is not known. -/
structure Cert where
  tbs : List Byte
  sig : List Byte
  ecdsaSha : Bool
  issuer : List Byte
  subject : List Byte
  key : List Byte
  ca : Bool
  pathLen : Option Nat
  maySign : Bool
  mayCertify : Bool
  unknownCritical : Bool
  deriving DecidableEq, Repr

/-- A HELLO message as received (10 Table 10.4, R266). -/
structure HelloMsg where
  type : Byte
  version : Byte
  length : Nat
  epAddr : Byte
  unitLog2 : Nat
  chainLength : Nat
  received : Nat
  nonceP : BitVec 256
  ephP : List Byte
  certs : List (List Byte)
  deriving DecidableEq, Repr

/-- What a SEAL_ARITH item worked on (08 Table 8.7). -/
inductive ArithFor where
  | handshake (t : TenantId) (h : Fin 1024)
  | attest (t : TenantId) (k : Nat)
  | svcAttest
  | svcAuth
  deriving DecidableEq, Repr

/-- A USB setup packet in wire order, byte 0 in [7:0] (05 Table 5.1). -/
abbrev Setup := BitVec 64

/-- A port side (15 Table 15.6): 0 to 15 USB 2.0, 16 to 21 SuperSpeed. -/
abbrev SideId := Fin 22

/-! ### The Peat journal in flash (14) -/

/-- The PEAT section; the defaults are those of Table 3.16. -/
structure PeatSec where
  lease : Nat := 4096
  counters : Nat := 4
  logKib : Nat := 1024
  compactPct : Nat := 20
  degradedPct : Nat := 5
  endurance : Nat := 100000
  retention : Nat := 20
  deriving DecidableEq, Repr

/-- A device identity (R283). -/
structure Identity where
  port : PortId
  path : List Nat
  vid : BitVec 16
  pid : BitVec 16
  serial : BitVec 256
  deriving DecidableEq, Repr

/-- An event record of the log (Table 14.11); DATA as its 32 bytes, byte 0 in [7:0]. -/
structure LogEv where
  index : Nat
  time : Nat
  mount : Nat
  code : Nat
  tenant : Option TenantId := none
  device : Option Nat := none
  data : BitVec 256 := 0
  deriving DecidableEq, Repr

structure LifeRec where
  mounts : Nat := 0
  tampers : Nat := 0
  tamperGen : Nat := 0
  watchdogs : Nat := 0
  pwrfails : Nat := 0
  deriving DecidableEq, Repr

/-- What a record holds (Table 14.5): counter, start and size of a lease; counter and NEXT of a high-water mark. -/
inductive RecBody where
  | lease (l : List (Nat × Nat × Nat))
  | highWater (l : List (Nat × Nat))
  | log (l : List LogEv)
  | pin (l : List (Identity × BitVec 256))
  | quarantine (l : List (Identity × Bool))
  | lifetime (r : LifeRec)
  | epoch (e cause : Nat)
  | retire (l : List Nat)
  | ckptBegin
  | ckptEnd (n : Nat)
  deriving DecidableEq, Repr

structure PRec where
  epoch : Nat
  seq : Nat
  link : Nat
  body : RecBody
  deriving DecidableEq, Repr

/-- A commit word as it reads back. -/
inductive CommitWord where
  | ones | zeros | mixed
  deriving DecidableEq, Repr

/-- A record page as it reads back: all ones, a page whose CRC and CMAC pass with a TYPE of Table 14.5, or anything else. -/
inductive RecPage where
  | erased
  | holds (r : PRec)
  | bad
  deriving DecidableEq, Repr

/-- A slot of a sector (Table 14.2). -/
structure Slot where
  commit : CommitWord
  page : RecPage
  deriving DecidableEq, Repr

/-- The classes of Table 14.6. -/
inductive SlotClass where
  | free
  | committed (r : PRec)
  | epochAhead
  | torn
  deriving DecidableEq, Repr

/-- A usable sector: its header's SECTOR_SEQ when it has a valid one, EPOCH, ERASES and CKPT of the header, the slots up to the last that is
not FREE, program failures of this pass; `dirty` when the header fails and the contents are not all erased; `left` when the sector is
retired and compaction has passed it. -/
structure Sector where
  idx : Nat
  seq : Option Nat := none
  epoch : Nat := 0
  erases : Nat := 0
  ckpt : Nat := 0
  slots : List Slot := []
  fails : Nat := 0
  dirty : Bool := false
  retired : Bool := false
  left : Bool := false
  deriving DecidableEq, Repr

/-- A valid superblock copy (Table 14.1). -/
structure Superblock where
  sectorLog2 : Nat
  epoch : Nat
  sectors : Nat
  nonce : BitVec 64
  params : PeatSec
  deriving DecidableEq, Repr

/-- What the Peat region of a flash device holds: the valid superblock copies, and the sectors that are not erased. -/
structure PeatFlash where
  copies : Vector (Option Superblock) 2 := Vector.replicate 2 none
  sectors : List Sector := []
  deriving DecidableEq, Repr

/-! ### What a command carries -/

/-- A request at an island, with the island it comes from: a channel carries one request at a time (01 R16). -/
structure Held where
  src : Island
  req : CulvertReq
  deriving DecidableEq, Repr

/-- A read of a function's time register (04 R89). -/
structure TimeRead where
  fn : Fn
  half : RdHalf
  deriving DecidableEq, Repr

/-- A SEAL that ends: its unit, and the plaintext that staging holds for the seal unit (10 R272). -/
structure SealEnd where
  unit : UnitId
  text : List Byte
  deriving DecidableEq, Repr

/-- A RETIRE that ends: its unit, and the capabilities that a GET_DESCRIPTOR(BOS) which ends with it returned (06 R160). -/
structure RetireEnd where
  unit : UnitId
  caps : List (List Byte)
  deriving DecidableEq, Repr

/-- The end of an enumeration reset: the device, and whether it was reset (06 R141, R143). -/
structure ResetEnd where
  dev : DevId
  ok : Bool
  deriving DecidableEq, Repr

/-- The end of a resume recovery: the device, and its descriptor and serial string where they were read again (06 R145). -/
structure ResumeEnd where
  dev : DevId
  desc : Option DevDesc
  serial : Option (List Byte)
  deriving DecidableEq, Repr

/-- How the reads of the two image slots end (03 R65). -/
structure SlotReads where
  a : FlashRead
  b : FlashRead
  deriving DecidableEq, Repr

/-- What a mount meets: the flash's content where it is not what the model kept, and whether the epoch fuse bit blows (14 R354, R362). -/
structure MountRead where
  found : Option PeatFlash
  fuseOk : Bool
  deriving DecidableEq, Repr

end Sys2Proof.Machine
end

