-- ==== Sys2Proof/Syntax.lean ====
section
/-! DEFINITION. The commands of the PX-256: one constructor for each row of spec/opcode_table.json, in the table's order.
An operand is what the step takes from outside the state it acts on: a register value, what a host read returned, what a
peripheral or the board did, or which of several like things the step concerns. -/

namespace Sys2Proof
open Sys2Proof.Machine

/-- One command. The docstring of each constructor is the row's rule. -/
inductive Instr where
  /-- VDDIO_N_RISE (R29). -/
  | vddioNRise
  /-- FULL_RESET (R31). -/
  | fullReset (src : FullResetSrc) (vbat : Bool)
  /-- POR_N_RELEASE (R53). -/
  | porNRelease (peatSel testMode : Bool)
  /-- WATCHDOG_RESET (R49). -/
  | watchdogReset
  /-- PERST_N_ASSERT (R50). -/
  | perstNAssert
  /-- PERST_N_DEASSERT (R50). -/
  | perstNDeassert
  /-- PF0_FLR (R50). -/
  | pf0Flr
  /-- VF_FLR (R303). -/
  | vfFlr (t : TenantId)
  /-- CONFIG_REQUEST (R54). -/
  | configRequest (f : Fn) (r : CfgReq)
  /-- VF_ENABLE_WRITE (R84). -/
  | vfEnableWrite (on : Bool)
  /-- NUMVFS_WRITE (R84). -/
  | numvfsWrite (n : BitVec 16)
  /-- PM_STATE_WRITE (R319). -/
  | pmStateWrite (f : Fn) (v : BitVec 2)
  /-- MSIX_CONTROL_WRITE (R318). -/
  | msixControlWrite (f : Fn) (c : MsixCtl)
  /-- MSIX_TABLE_WRITE (R86). -/
  | msixTableWrite (f : Fn) (off size : Nat) (v : Word)
  /-- HOST_LINK_UP (R417). -/
  | hostLinkUp (u : LinkUp)
  /-- HOST_LINK_ERROR (R377). -/
  | hostLinkError (aer : BitVec 32) (down : Bool)
  /-- DMA_COMPLETION_TIMEOUT (R78). -/
  | dmaCompletionTimeout (u : UnitId)
  /-- PWRFAIL_N_FALL (R360). -/
  | pwrfailNFall (tpp : Nat) (starts : List Nat)
  /-- PWRFAIL_N_RISE (R360). -/
  | pwrfailNRise
  /-- OVER_CURRENT_TRIP (R169). -/
  | overCurrentTrip (r : OcRef)
  /-- OC_RETRY (R169). -/
  | ocRetry (r : OcRef)
  /-- OC_RETRY_COUNT_CLEAR (R169). -/
  | ocRetryCountClear (r : OcRef)
  /-- TAMPER_ASSERT (R288). -/
  | tamperAssert (i : Fin 2)
  /-- TAMPER_RELEASE (R288). -/
  | tamperRelease (i : Fin 2)
  /-- THERMAL_SAMPLE (R259). -/
  | thermalSample (r : List (BitVec 8))
  /-- PPS_IN_EDGE (R98). -/
  | ppsInEdge (falling : Bool)
  /-- PTM_DIALOGUE (R98). -/
  | ptmDialogue
  /-- PTM_RESPONSE (R98). -/
  | ptmResponse (master : Word)
  /-- PTM_DIALOGUE_FAIL (R98). -/
  | ptmDialogueFail
  /-- DISCIPLINE_HOLDOVER (R101). -/
  | disciplineHoldover
  /-- PPS_OUT_PULSE (R103). -/
  | ppsOutPulse
  /-- PPS_OUT_PULSE_END (R103). -/
  | ppsOutPulseEnd
  /-- GBL_CTL_WRITE (R95). -/
  | gblCtlWrite (a : WrAcc) (v : Word)
  /-- GBL_ORDER_BASE_WRITE (R96). -/
  | gblOrderBaseWrite (a : WrAcc) (v : Word)
  /-- GBL_ORDER_SIZE_WRITE (R96). -/
  | gblOrderSizeWrite (a : WrAcc) (v : Word)
  /-- GBL_ORDER_DB (R96). -/
  | gblOrderDb (a : WrAcc) (v : Word)
  /-- GBL_EVENT_BASE_WRITE (R96). -/
  | gblEventBaseWrite (a : WrAcc) (v : Word)
  /-- GBL_EVENT_SIZE_WRITE (R96). -/
  | gblEventSizeWrite (a : WrAcc) (v : Word)
  /-- GBL_EVENT_CI (R96). -/
  | gblEventCi (a : WrAcc) (v : Word)
  /-- T_CTL_WRITE (R104). -/
  | tCtlWrite (t : TenantId) (a : WrAcc) (v : Word)
  /-- T_ORDER_BASE_WRITE (R104). -/
  | tOrderBaseWrite (t : TenantId) (a : WrAcc) (v : Word)
  /-- T_ORDER_SIZE_WRITE (R104). -/
  | tOrderSizeWrite (t : TenantId) (a : WrAcc) (v : Word)
  /-- T_ORDER_DB (R104). -/
  | tOrderDb (t : TenantId) (a : WrAcc) (v : Word)
  /-- T_EVENT_BASE_WRITE (R104). -/
  | tEventBaseWrite (t : TenantId) (a : WrAcc) (v : Word)
  /-- T_EVENT_SIZE_WRITE (R104). -/
  | tEventSizeWrite (t : TenantId) (a : WrAcc) (v : Word)
  /-- T_EVENT_CI (R107). -/
  | tEventCi (t : TenantId) (a : WrAcc) (v : Word)
  /-- T_EP_DB (R111). -/
  | tEpDb (t : TenantId) (h : Fin 1024) (a : WrAcc) (v : Word)
  /-- GBL_TIME_LOW_READ (R89). -/
  | gblTimeLowRead (r : TimeRead)
  /-- GBL_TIME_STEP (R102). -/
  | gblTimeStep (a : WrAcc) (v : Word)
  /-- T_IRQ_CLAIM (R314). -/
  | tIrqClaim (t : TenantId) (r : RdHalf)
  /-- IRQ_PF_CLAIM (R314). -/
  | irqPfClaim (r : RdHalf)
  /-- T_IRQ_EOI (R315). -/
  | tIrqEoi (t : TenantId) (a : WrAcc) (v : Word)
  /-- IRQ_PF_EOI (R315). -/
  | irqPfEoi (a : WrAcc) (v : Word)
  /-- IRQ_SHARED_WRITE (R322). -/
  | irqSharedWrite (n : Fin 96) (a : WrAcc) (v : Word)
  /-- IRQ_SOURCE_WRITE (R311). -/
  | irqSourceWrite (f : Fn) (n : Fin 64) (a : WrAcc) (v : Word)
  /-- IRQ_HOLD_WRITE (R317). -/
  | irqHoldWrite (f : Fn) (a : WrAcc) (v : Word)
  /-- OC_CLEAR (R170). -/
  | ocClear (p : PortId) (a : WrAcc) (v : Word)
  /-- POWER_OFF (R168). -/
  | powerOff (p : PortId) (a : WrAcc) (v : Word)
  /-- PRT_URGENT_RESERVE_WRITE (R186). -/
  | prtUrgentReserveWrite (p : PortId) (a : WrAcc) (v : Word)
  /-- TRC_SPILL_CI (R232). -/
  | trcSpillCi (a : WrAcc) (v : Word)
  /-- PWR_PAD_RELEASE (R339). -/
  | pwrPadRelease (a : WrAcc) (v : Word)
  /-- PWR_OPP_CTL_WRITE (R336). -/
  | pwrOppCtlWrite (a : WrAcc) (v : Word)
  /-- T_LAT_TOL_WRITE (R327). -/
  | tLatTolWrite (t : TenantId) (a : WrAcc) (v : Word)
  /-- PWR_LAT_FLOOR_WRITE (R327). -/
  | pwrLatFloorWrite (a : WrAcc) (v : Word)
  /-- FLT_POP (R394). -/
  | fltPop (a : WrAcc) (v : Word)
  /-- FLT_UNFENCE_WORKERS (R382). -/
  | fltUnfenceWorkers (a : WrAcc) (v : Word) (pass : BitVec 32)
  /-- FLT_UNFENCE_CORES (R386). -/
  | fltUnfenceCores (a : WrAcc) (v : Word) (pass : BitVec 4)
  /-- SVC_CTL_WRITE (R395). -/
  | svcCtlWrite (a : WrAcc) (v : Word)
  /-- SELFTEST_MBIST_START (R415). -/
  | selftestMbistStart (a : WrAcc) (v : Word)
  /-- SELFTEST_LOOPBACK_START (R415). -/
  | selftestLoopbackStart (a : WrAcc) (v : Word)
  /-- REGISTER_WRITE (R88). -/
  | registerWrite (f : Fn) (off : Nat) (a : WrAcc) (v : Word)
  /-- GBL_TIME_STATUS_READ (R4). -/
  | gblTimeStatusRead (r : RdHalf)
  /-- SCH_MF_STATUS_READ (R4). -/
  | schMfStatusRead (r : RdHalf)
  /-- SCH_ADMIT_FAILS_READ (R4). -/
  | schAdmitFailsRead (r : RdHalf)
  /-- SCH_REDISPATCH_READ (R4). -/
  | schRedispatchRead (r : RdHalf)
  /-- SCH_WHEEL_READ (R4). -/
  | schWheelRead (r : RdHalf)
  /-- TRC_STATUS_READ (R4). -/
  | trcStatusRead (r : RdHalf)
  /-- SLC_COUNT_READ (R4). -/
  | slcCountRead (p : PortId) (r : RdHalf)
  /-- NRG_STATUS_READ (R4). -/
  | nrgStatusRead (r : RdHalf)
  /-- SEAL_FAILS_READ (R4). -/
  | sealFailsRead (r : RdHalf)
  /-- TEN_STATE_READ (R4). -/
  | tenStateRead (t : TenantId) (r : RdHalf)
  /-- PWR_OPP_STATUS_READ (R4). -/
  | pwrOppStatusRead (r : RdHalf)
  /-- PWR_RET_STATUS_READ (R4). -/
  | pwrRetStatusRead (r : RdHalf)
  /-- PEAT_STATS_READ (R4). -/
  | peatStatsRead (r : RdHalf)
  /-- FLT_STATUS_READ (R4). -/
  | fltStatusRead (r : RdHalf)
  /-- FLT_CLASS_COUNT_READ (R4). -/
  | fltClassCountRead (n : Fin 9) (r : RdHalf)
  /-- FLT_ECC_READ (R4). -/
  | fltEccRead (n : Fin 21) (r : RdHalf)
  /-- SVC_COUNT_READ (R4). -/
  | svcCountRead (r : RdHalf)
  /-- NOOP (R130). -/
  | noop (f : Fn) (k : Nat)
  /-- OPEN_EP (R132). -/
  | openEp (t : TenantId) (k : Nat) (cfg : List AltSetting)
  /-- CLOSE_EP (R124). -/
  | closeEp (t : TenantId) (k : Nat)
  /-- RESET_EP (R133). -/
  | resetEp (t : TenantId) (k : Nat)
  /-- SET_DEQUEUE (R133). -/
  | setDequeue (t : TenantId) (k : Nat)
  /-- PORT_RESET (R163). -/
  | portReset (t : TenantId) (k : Nat)
  /-- PORT_SUSPEND (R164). -/
  | portSuspend (t : TenantId) (k : Nat)
  /-- PORT_RESUME (R165). -/
  | portResume (t : TenantId) (k : Nat)
  /-- SEAL_PIPE (R264). -/
  | sealPipe (t : TenantId) (k : Nat)
  /-- UNSEAL_PIPE (R280). -/
  | unsealPipe (t : TenantId) (k : Nat)
  /-- NEXT_COUNT (R358). -/
  | nextCount (t : TenantId) (k : Nat)
  /-- ATTEST (R287). -/
  | attest (t : TenantId) (k : Nat)
  /-- SET_GROUP (R134). -/
  | setGroup (t : TenantId) (k : Nat)
  /-- TEN_ENABLE (R292). -/
  | tenEnable (k : Nat)
  /-- TEN_QUIESCE (R300). -/
  | tenQuiesce (k : Nat)
  /-- TEN_RESET (R302). -/
  | tenReset (k : Nat)
  /-- TEN_RELEASE (R302). -/
  | tenRelease (k : Nat)
  /-- SET_SHARE (R295). -/
  | setShare (k : Nat)
  /-- GRANT (R156). -/
  | grant (k : Nat)
  /-- REVOKE (R157). -/
  | revoke (k : Nat)
  /-- SLUICE_STAGE (R251). -/
  | sluiceStage (k : Nat) (buf : Option (List Word))
  /-- SLUICE_COMMIT (R252). -/
  | sluiceCommit (k : Nat)
  /-- SLUICE_CANCEL (R251). -/
  | sluiceCancel (k : Nat)
  /-- IMAGE_WRITE (R72). -/
  | imageWrite (k : Nat) (data : Option (List Byte)) (flash : ProgramEnd)
  /-- SEAL_CLEAR_QUARANTINE (R282). -/
  | sealClearQuarantine (k : Nat)
  /-- PEAT_EXPORT (R373). -/
  | peatExport (k : Nat)
  /-- PROVISION_CLAIM (R70). -/
  | provisionClaim (k : Nat) (hash : Option (BitVec 256)) (readBack : BitVec 256)
  /-- TRACE_START (R233). -/
  | traceStart (k : Nat)
  /-- TRACE_STOP (R233). -/
  | traceStop (k : Nat)
  /-- TRACE_CLEAR (R233). -/
  | traceClear (k : Nat)
  /-- DISPATCH (R212). -/
  | dispatch
  /-- FETCH (R112). -/
  | fetch (u : UnitId) (r : Option (List (List Word)))
  /-- CHECK (R115). -/
  | check (u : UnitId)
  /-- MOVE (R218). -/
  | move (u : UnitId) (readOk : Bool)
  /-- SEAL (R272). -/
  | seal (e : SealEnd)
  /-- UNSEAL (R274). -/
  | unseal (u : UnitId) (epoch : Byte) (seq cipher tag : List Byte)
  /-- ISSUE (R200). -/
  | issue (u : UnitId) (o : BusOutcome)
  /-- RETIRE (R218). -/
  | retire (e : RetireEnd)
  /-- U1_U2_ENABLE (R206). -/
  | u1U2Enable (d : DevId) (u1 u2 : ReqEnd)
  /-- NOTIFY (R223). -/
  | notify (u : UnitId)
  /-- RELEASE (R222). -/
  | release (f : Fn)
  /-- TRANSFER_TIMEOUT (R203). -/
  | transferTimeout (t : TenantId) (h : Fin 1024)
  /-- FRAME_TRIM (R175). -/
  | frameTrim (u : UnitId)
  /-- TRACE_SPILL (R232). -/
  | traceSpill (u : UnitId)
  /-- MICROFRAME_BOUNDARY (R174). -/
  | microframeBoundary
  /-- WHEEL_TICK (R226). -/
  | wheelTick
  /-- POLICING_TICK (R234). -/
  | policingTick
  /-- ENERGY_TICK (R255). -/
  | energyTick
  /-- GATE_EDGE (R243). -/
  | gateEdge (p : PortId)
  /-- SLUICE_SWITCHOVER (R252). -/
  | sluiceSwitchover (p : PortId)
  /-- PORT_POWER_STEP (R57). -/
  | portPowerStep
  /-- ENUMERATE_START (R144). -/
  | enumerateStart (p : PortId) (found : Option Speed)
  /-- CONNECT (R141). -/
  | connect (d : DevId) (sp : Speed)
  /-- DEBOUNCE_END (R141). -/
  | debounceEnd (d : DevId)
  /-- ENUM_RESET_END (R141). -/
  | enumResetEnd (e : ResetEnd)
  /-- RESET_RECOVERY_END (R141). -/
  | resetRecoveryEnd (d : DevId)
  /-- ENUM_REQUEST_DONE (R141). -/
  | enumRequestDone (d : DevId) (r : EnumReply)
  /-- HUB_POWER_WAIT_END (R146). -/
  | hubPowerWaitEnd (d : DevId) (connected : List (Nat × Speed))
  /-- HUB_POLL (R147). -/
  | hubPoll (d : DevId)
  /-- HUB_POLL_DONE (R147). -/
  | hubPollDone (d : DevId) (ch : List HubChange)
  /-- DISCONNECT (R167). -/
  | disconnect (d : DevId)
  /-- REMOTE_WAKE (R165). -/
  | remoteWake (d : DevId)
  /-- FUNCTION_WAKE (R165). -/
  | functionWake (d : DevId)
  /-- RESUME_SIGNALLING_END (R165). -/
  | resumeSignallingEnd (d : DevId)
  /-- RESUME_RECOVERY_END (R165). -/
  | resumeRecoveryEnd (e : ResumeEnd)
  /-- PORT_RESET_END (R163). -/
  | portResetEnd (d : DevId) (ok : Bool)
  /-- CLEAR_TT_BUFFER (R151). -/
  | clearTtBuffer (t : TenantId) (h : Fin 1024) (r : ReqEnd)
  /-- LPM_ENTRY (R205). -/
  | lpmEntry (d : DevId) (idleUs : Nat)
  /-- ROOT_PORT_SELECTIVE_SUSPEND (R330). -/
  | rootPortSelectiveSuspend (p : PortId)
  /-- PORT_PHY_FAULT (R385). -/
  | portPhyFault (i : SideId)
  /-- PHY_RESTART (R385). -/
  | phyRestart (i : SideId)
  /-- HELLO (R268). -/
  | hello (t : TenantId) (h : Fin 1024) (r : ReqEnd) (m : HelloMsg)
  /-- KEY_SHARE (R266). -/
  | keyShare (t : TenantId) (h : Fin 1024) (r : ReqEnd)
  /-- CONFIRM (R267). -/
  | confirm (t : TenantId) (h : Fin 1024) (r : ReqEnd) (message : List Byte)
  /-- FINISH (R269). -/
  | finish (t : TenantId) (h : Fin 1024) (r : ReqEnd)
  /-- TEARDOWN (R280). -/
  | teardown (d : DevId) (r : ReqEnd)
  /-- REKEY (R276). -/
  | rekey (t : TenantId) (h : Fin 1024) (r : ReqEnd)
  /-- REKEY_DEADLINE (R276). -/
  | rekeyDeadline (t : TenantId) (h : Fin 1024)
  /-- SOURCE_LEVEL_RISE (R311). -/
  | sourceLevelRise (x : Src)
  /-- SOURCE_LEVEL_FALL (R311). -/
  | sourceLevelFall (x : Src)
  /-- CORE_CLAIM (R321). -/
  | coreClaim (c : CoreId)
  /-- CORE_EOI (R321). -/
  | coreEoi (c : CoreId)
  /-- LP_ENTRY (R329). -/
  | lpEntry
  /-- ASPM_L1_ENTRY (R329). -/
  | aspmL1Entry
  /-- KEEPER_SAVE (R340). -/
  | keeperSave
  /-- WAKE_SOURCE (R331). -/
  | wakeSource (w : Fin 12) (p : PortId)
  /-- KEEPER_RESTORE (R340). -/
  | keeperRestore (ticks : Nat)
  /-- WAKE_TIMER (R341). -/
  | wakeTimer
  /-- RETENTION_SCRUB (R342). -/
  | retentionScrub (b : Fin 20) (corrected : Nat) (lost : Bool)
  /-- ISLAND_CLOCK_GATE (R326). -/
  | islandClockGate (i : Island)
  /-- ISLAND_RETENTION (R326). -/
  | islandRetention (i : Island)
  /-- ISLAND_WAKE (R17). -/
  | islandWake (i : Island) (h : Held)
  /-- ISLAND_READY (R17). -/
  | islandReady (i : Island)
  /-- OPP_AUTO_WINDOW (R337). -/
  | oppAutoWindow (windowUs : Nat)
  /-- OPP_CHANGE (R336). -/
  | oppChange
  /-- VCORE_PG_GOOD (R336). -/
  | vcorePgGood
  /-- VCORE_SETTLE_END (R336). -/
  | vcoreSettleEnd
  /-- PLL_RELOCK (R336). -/
  | pllRelock
  /-- OPP_FAULT (R336). -/
  | oppFault
  /-- RECORD_COMMIT (R351). -/
  | recordCommit (r : ProgramEnd)
  /-- CHECKPOINT_TIMER (R367). -/
  | checkpointTimer
  /-- LOG_FLUSH_TIMER (R372). -/
  | logFlushTimer
  /-- FLASH_NO_ANSWER (R374). -/
  | flashNoAnswer
  /-- PEAT_FORMAT (R371). -/
  | peatFormat (ok : Bool) (fuseOk : Bool)
  /-- QUIESCE_DRAIN_END (R300). -/
  | quiesceDrainEnd (t : TenantId)
  /-- FENCE_DRAIN_END (R303). -/
  | fenceDrainEnd (t : TenantId)
  /-- UNCORRECTABLE_ERROR (R380). -/
  | uncorrectableError (b : Fin 21) (off : Nat)
  /-- MEMORY_SCRUB (R379). -/
  | memoryScrub (b : Fin 21) (corrected : Nat)
  /-- WORKER_HANG (R382). -/
  | workerHang (w : WorkerId)
  /-- CLOCK_LOSS (R383). -/
  | clockLoss (i : Island) (pll : List Island)
  /-- ISLAND_RESTART_DONE (R383). -/
  | islandRestartDone (i : Island)
  /-- LODE_PARITY_FAIL (R384). -/
  | lodeParityFail
  /-- CORE_HANG (R386). -/
  | coreHang (c : CoreId)
  /-- PEAT_MOUNT (R354). -/
  | peatMount (cs0 cs1 : SfdpInfo) (m : MountRead) (scanUs : Nat)
  /-- IMAGE_SELECT (R65). -/
  | imageSelect (r : SlotReads) (cut : Option Nat)
  /-- TABLE_BUILD (R55). -/
  | tableBuild (lockUs : Nat)
  /-- PORT_POWER (R57). -/
  | portPower
  /-- ENUMERATE (R144). -/
  | enumerate (p : PortId)
  /-- WAKE (R333). -/
  | wake
  /-- LEASE_COMMIT (R358). -/
  | leaseCommit (t : TenantId) (c : Fin 4)
  /-- LOG_WRITE (R372). -/
  | logWrite
  /-- COMPACT_STEP (R368). -/
  | compactStep
  /-- FAULT_RECOVER (R380). -/
  | faultRecover (pass : Bool)
  /-- SEAL_ARITH (R267). -/
  | sealArith (a : ArithFor)
  /-- SELF_TEST_MBIST (R415). -/
  | selfTestMbist (fails : BitVec 21)
  /-- SELF_TEST_LOOPBACK (R415). -/
  | selfTestLoopback (workers : BitVec 32) (ports : BitVec 22) (seals lodes : BitVec 2)
  /-- SVC_ATTACH (R395). -/
  | svcAttach (highSpeed : Bool)
  /-- SVC_DETACH (R395). -/
  | svcDetach
  /-- SVC_BUS_RESET (R411). -/
  | svcBusReset (midXfer highSpeed : Bool)
  /-- SVC_SUSPEND (R409). -/
  | svcSuspend
  /-- SVC_RESUME (R409). -/
  | svcResume
  /-- SVC_REMOTE_WAKE (R409). -/
  | svcRemoteWake
  /-- SVC_STANDARD_REQUEST (R396). -/
  | svcStandardRequest (x : Setup)
  /-- GET_IDENTITY (R399). -/
  | getIdentity (x : Setup)
  /-- GET_ATTESTATION (R400). -/
  | getAttestation (x : Setup) (nonce : BitVec 256)
  /-- GET_RESIDENCY (R398). -/
  | getResidency (x : Setup)
  /-- AUTH_CHALLENGE (R401). -/
  | authChallenge (x : Setup)
  /-- AUTH_RESPONSE (R401). -/
  | authResponse (x : Setup) (sig : List Byte)
  /-- AUTH_VERIFY_DONE (R401). -/
  | authVerifyDone
  /-- AUTH_LOCKOUT_END (R402). -/
  | authLockoutEnd
  /-- GET_LOG (R404). -/
  | getLog (x : Setup)
  /-- GET_TRACE (R405). -/
  | getTrace (x : Setup)
  /-- SET_LOG_CURSOR (R404). -/
  | setLogCursor (x : Setup) (index : Word)
  /-- SVC_EP2_IN_ACK (R404). -/
  | svcEp2InAck
  /-- SVC_EP1_ACK (R406). -/
  | svcEp1Ack
  /-- SVC_EP2_OUT_DATA (R397). -/
  | svcEp2OutData (data : List Byte)
  /-- EXTEST (R412). -/
  | extest
  /-- IDCODE (R413). -/
  | idcode
  /-- SAMPLE_PRELOAD (R412). -/
  | samplePreload (preload : List Bool)
  /-- CLAMP (R412). -/
  | clamp
  /-- HIGHZ (R412). -/
  | highz
  /-- EXTEST_PULSE (R412). -/
  | extestPulse
  /-- EXTEST_TRAIN (R412). -/
  | extestTrain
  /-- BYPASS (R412). -/
  | bypass
  /-- TAP_RESET (R412). -/
  | tapReset (porLow : Bool)
  /-- SVC_VBUS_CHANGE (R395). -/
  | svcVbusChange (valid : Bool)
  /-- POC_N_DEASSERT (R169). -/
  | pocNDeassert (p : PortId)
  /-- XTAL32_RUNNING (R39). -/
  | xtal32Running
  /-- L1_PM_SUBSTATE_ENTRY (R329). -/
  | l1PmSubstateEntry (l12 : Bool)
  /-- LINK_INACTIVITY_TIMEOUT (R206). -/
  | linkInactivityTimeout (d : DevId) (u2 : Bool)
  /-- FLASH_ERASE_DONE (R368). -/
  | flashEraseDone (ok : Bool)
  deriving DecidableEq, Repr

end Sys2Proof
end

