-- ==== Sys2Proof/Config.lean ====
section
/-! DEFINITION. What one unit fixes and what the spec leaves free. Every constant here is opaque: no proof can see a value
of it. Of the standards that the spec names, SHA-256, the AES block and the parsing of a certificate are opaque functions of their inputs
(notes/assumptions/10.md); Machine/Crypto.lean builds the rest on them. -/

namespace Sys2Proof.Config
open Sys2Proof.Machine

/-- A free value: the n-th draw. Used where the spec gives no value (notes/assumptions/8.md). -/
opaque freeBool : Nat → Bool
/-- The frequency estimate after a measurement (04 R99 does not give the filter), from draw number and offset. -/
opaque freqEstimate : Nat → Int → Int
/-- The hardware random source (10 R267, 16 R401), by draw number. -/
opaque random : Nat → BitVec 256

/-- SHA-256 (FIPS 180-4); its digest with byte 0 in [7:0]. -/
opaque sha256 : List Byte → BitVec 256
/-- The AES-256 cipher of one block (FIPS 197), from a key of 32 bytes and a block of 16; the result with byte 0 in [7:0]. -/
opaque aesBlock : List Byte → List Byte → BitVec 128
/-- What an X.509 v3 DER certificate says, none where the bytes are no such certificate (RFC 5280). -/
opaque parseCert : List Byte → Option Cert

/-- The Peat key, derived from the PUF (14 R348), byte by byte. -/
opaque peatByte : Nat → Byte

/-- The unit's secret key, its public key, its certificate and its issuing chain, fused at manufacture (10 R285), byte by byte. -/
opaque unitSecret : Nat
opaque publicByte : Nat → Byte
opaque certLength : Nat
opaque certByte : Nat → Byte
opaque chainLength : Nat
opaque chainByte : Nat → Byte
/-- The PUF unwraps the unit key and its public half matches (ID_STATUS.KEY_OK). -/
opaque keyOk : Bool
/-- The ordering code fused at test is PX-256-X (00 Table 0.2). -/
opaque orderingX : Bool
/-- Layouts that the spec does not give (15 R380): the task whose word lies at an offset of task memory, none for a list word;
whether the decisions on a task need the word at an offset of the policy snapshot; the levels that a list word serves; which of a number
of things in use a word of a buffer or table belongs to; the core that read a word of the Sedge ROM. -/
opaque taskWord : Nat → Option Nat
opaque policyNeeds : Nat → Nat → Bool
opaque listLevels : Nat → BitVec 8
opaque holder : Fin 21 → Nat → Nat → Nat
opaque romCore : Nat → Fin 4

/-- The words of an endpoint table entry as its window shows them (04 R94): the spec gives a context no layout. An entry of a handle: its
number, the handle's number, its ring base, the PRODUCED it has fetched, and which word; a key context: its number, epoch, sequence, the
wrapped form of its PRK (10 R271), and which word; an entry that holds neither. -/
opaque flowWord : Nat → Nat → BitVec 64 → BitVec 32 → Nat → BitVec 64
opaque keyWord : Nat → Nat → Nat → List Byte → Nat → BitVec 64
opaque idleWord : Nat → Nat → BitVec 64

/-- Bits of a configuration dword that neither the spec nor PCIe fixes (link status, lane equalisation, latencies). -/
opaque cfgDword : Nat → BitVec 32

/-- What the service port's descriptors leave open (16 R397): the language of its strings, the case of the hexadecimal digits of a
default serial string, bInterval of the bulk endpoints. -/
opaque svcLanguage : BitVec 16
opaque svcUpperHex : Bool
opaque svcBulkInterval : Byte

end Sys2Proof.Config
end

