-- ==== Sys2Proof/Machine/Types.lean ====
section
/-! DEFINITION. The records that State is made of, chapter by chapter. A field's default is its reset value; a record of
a table entry (a handle, a device, an operation) has no default where the machine has none at reset. -/

namespace Sys2Proof.Machine

/-! ### What leaves the block (the model's own log, notes/assumptions/1.md) -/

/-- A posted write of a function (04 R77, R417), in the order it is made. -/
inductive Post where
  | payload (addr : Word) (bytes : Nat) (relaxed : Bool)
  | data (addr : Word) (words : List Word)
  | event (idx : Nat) (addr : Word) (words : List Word)
  | msix (addr : Word) (data : BitVec 32)
  | spill (idx : Nat) (addr : Word) (words : List Word)
  deriving DecidableEq, Repr

/-- The requests of the Tirael handshake (10 Table 10.3). -/
inductive SealReq where
  | hello | keyShare | confirm | finish | teardown | rekey
  deriving DecidableEq, Repr

/-- A request that the controller makes on a bus by itself: of enumeration and hubs (06 Table 6.1, R146, R147), a reset, suspend or resume
of a port, a token, CLEAR_TT_BUFFER for a handle's endpoint of a device with the attempts made, or one of Tirael with its wValue, wIndex,
wLength and the bytes that it sends. -/
inductive UsbReq where
  | portReset (warm : Bool) | suspend | resume | disablePort | portTimeout (second : Bool) (us : Nat)
  | getDevice8 | setAddress (a : Nat) | getDescriptor (type idx lang len : Nat) | setSel | setIsochDelay
  | setConfiguration (n : Nat) | setInterface (i a : Nat) | getHub | setHubDepth (n : Nat)
  | setPortPower (p : Nat) | clearPortPower (p : Nat) | getPortStatus (p : Nat) | clearPortChange (p feature : Nat)
  | setRemoteWakeup | setU1 | setU2 | clearTt (t : TenantId) (h : Fin 1024) (d : DevId) (ep : EpDesc) (tries : Nat)
  | hubPoll | lpm (besl : Nat)
  | tirael (k : SealReq) (value index len : Nat) (bytes : List Byte)
  deriving DecidableEq, Repr

/-- A request in progress, for a device, under a task: its stage (0 SETUP or the only transaction, 1 data, 2 status, 3 ended), the bytes of
its data stage that went over, consecutive errors, and whether it failed. -/
structure Req where
  d : DevId
  r : UsbReq
  task : Nat
  stage : Nat := 0
  got : Nat := 0
  strikes : Nat := 0
  failed : Bool := false
  deriving DecidableEq, Repr

/-- The completion that answers a host request: 64 or 32 bits of data, the 32-bit words of any other read (04 Table 4.6, R86), Unsupported
Request (04 R90), Configuration Request Retry Status (03 R54), or a plain completion of a write. -/
inductive Resp where
  | ok
  | data (v : Word)
  | half (v : BitVec 32)
  | words (l : List (BitVec 32))
  | ur
  | crs
  deriving DecidableEq, Repr

/-- What left the block; `cpl` answers a read that was held (01 R17). -/
inductive Out where
  | post (f : Fn) (p : Post)
  | flash (offset : Nat) (bytes : List Byte)
  | read (f : Fn) (addr : Word) (bytes : Nat)
  | pme (f : Fn)
  | ltr (ns : Option Nat)
  | ptm
  | usb (d : DevId) (r : UsbReq)
  | sof (p : PortId) (frame : Nat)
  | keepAlive (p : PortId)
  | itp (p : PortId) (count : Nat)
  | svc (bytes : List Byte)
  | svcStall
  | svcWake
  | cpl (r : Resp)
  | tdo (bits : List Bool)
  deriving DecidableEq, Repr

/-! ### Rings (04 R95, R96; 05 R104 to R109) -/

/-- An event before it has its index: Table 5.4 without CYCLE. `ts` is the timestamp an ISO TD fixes (R127); `task` the endpoint flow
whose NOTIFY writes it (none: the owner's order flow), `yellow` the colour of its TD (08 Table 8.4). -/
structure Ev where
  type : Byte
  status : Option Status := none
  flags : BitVec 14 := 0
  target : BitVec 16 := 0
  w1 : Word := 0
  bytes : BitVec 32 := 0
  detail : BitVec 32 := 0
  ts : Option Nat := none
  late : Bool := false
  task : Option Nat := none
  yellow : Bool := false
  deriving DecidableEq, Repr

/-- What a notice latch is for (05 R109; on the manager ring 06 R158, 11 R306, 10 R281). -/
inductive NoticeKey where
  | vp (n : Nat)
  | seal (h : Nat)
  | tenant (t : Nat)
  | time
  | dev (loc : Nat)
  deriving DecidableEq, Repr

/-- One notice latch: flag words ORed, the time step summed (05 R109); `late` when a delay that fell due in LP3 set it (13 R341). -/
structure Notice where
  key : NoticeKey
  bits : BitVec 32 := 0
  step : Int := 0
  late : Bool := false
  deriving DecidableEq, Repr

/-- An event that has its index: `notice` the latch that it writes, `placed` while its NOTIFY is in a slot, `posted` once its write was
sent. -/
structure NotifyOp where
  idx : Nat
  cycle : Bool
  ev : Ev
  notice : Option Notice := none
  placed : Bool := false
  posted : Bool := false
  reported : Bool := false
  deriving DecidableEq, Repr

/-- Where an order stands (08 Table 8.6): fetched, its action started at CHECK, waiting for something after its row ran,
action ended, RETIRE reported. -/
inductive OrderStage where
  | fetched | acting | waiting | ended | retired
  deriving DecidableEq, Repr

/-- An order in flight: its ring index, its eight words and, once ended, its completion. `ghost` marks a manager order
that a PF0 FLR or PERST_N caught past CHECK: it runs to the end of its action and writes no event (04 R95). `gone` marks an order whose VP lost its device after CHECK. -/
structure Order where
  k : Nat
  words : List Word
  stage : OrderStage := .fetched
  ev : Ev := { type := 2 }
  inSlot : Bool := false
  ghost : Bool := false
  gone : Bool := false
  deriving DecidableEq, Repr

/-- One pair of rings with its retire buffer and notice latches; `again` holds events whose index a restart of the ring took back. -/
structure Rings where
  en : Bool := false
  orderBase : Word := 0
  orderLog2 : Nat := 4
  cons : Nat := 0
  prod : Nat := 0
  eventBase : Word := 0
  eventLog2 : Nat := 6
  pi : Nat := 0
  ci : Nat := 0
  alloc : Nat := 0
  cycle : Bool := true
  notices : List Notice := []
  buf : List Ev := []
  again : List NotifyOp := []
  orders : List Order := []
  notify : List NotifyOp := []
  deriving DecidableEq, Repr

/-! ### Interrupt sources (12) -/

/-- One source of a bank: the bits of its source register. `level` is the level as the interrupt controller holds it. -/
structure IrqSrc where
  en : Bool := false
  level : Bool := false
  inService : Bool := false
  count : Nat := 0
  prio : BitVec 3 := 0
  vector : BitVec 8 := 0
  target : BitVec 8 := 0
  heldRoute : Option (BitVec 8 × BitVec 8) := none
  deriving DecidableEq, Repr

/-! ### PCIe functions (04) -/

/-- One MSI-X table entry; masked at reset (PRESUMED, notes/assumptions/6.md). -/
structure MsixEntry where
  addr : Word := 0
  data : BitVec 32 := 0
  mask : Bool := true
  deriving DecidableEq, Repr

/-- One function: configuration dwords that differ from their reset values, the MSI-X table, posted writes held because
they cannot be sent (R417), and the latch of R89. -/
structure PciFn where
  cfg : List (Nat × BitVec 32) := []
  msix : Vector MsixEntry 64 := Vector.replicate 64 {}
  held : List Post := []
  timeLatch : Option (BitVec 32) := none
  deriving DecidableEq, Repr

/-- The host link: down, or up in L0, L1, L1.1 or L1.2. -/
inductive LinkState where
  | down | l0 | l1 | l11 | l12
  deriving DecidableEq, Repr

/-! ### The Hytin image (03 Tables 3.8 to 3.19) -/

/-- A share record (Table 3.10). -/
structure ShareRec where
  epQuota : Nat := 0
  capHs : Nat := 0
  capFs : Nat := 0
  capSs : Nat := 0
  cir : Nat := 0
  pir : Nat := 0
  cbs : Nat := 0
  pbs : Nat := 0
  weight : Nat := 0
  base : Nat := 0
  workerLimit : Nat := 0
  energy : Nat := 0
  tcMap : BitVec 24 := 0
  bank : Nat := 0
  deriving DecidableEq, Repr

structure TenantEntry where
  tenant : Nat
  auto : Bool
  min : ShareRec
  max : ShareRec
  init : ShareRec
  deriving DecidableEq, Repr

structure GrantRule where
  sel : Byte
  tenant : Nat
  vp : Nat
  rootPort : Nat
  depth : Nat
  path : List Nat
  vid : BitVec 16
  pid : BitVec 16
  cls : Byte
  sub : Byte
  proto : Byte
  clsMask : Byte
  serialHash : BitVec 256
  deriving DecidableEq, Repr

/-- One gate-list entry (Table 3.12). -/
structure GateEntry where
  mask : BitVec 8
  ns : Nat
  deriving DecidableEq, Repr

structure GateList where
  base : Nat
  entries : List GateEntry
  deriving DecidableEq, Repr

structure SluiceSec where
  staging : Bool
  lists : List (Nat × GateList)
  deriving DecidableEq, Repr

/-- Energy settings that the policy snapshot carries (Table 3.14; the NRG_ registers). -/
structure EnergySet where
  sustained : Nat := 0
  burst : Nat := 0
  low : Nat := 0
  high : Nat := 0
  baseNj : Vector Nat 5 := Vector.replicate 5 0
  bytePj : Vector Nat 5 := Vector.replicate 5 0
  sealPj : Nat := 0
  islandNj : Vector Nat 14 := Vector.replicate 14 0
  deriving DecidableEq, Repr

structure EnergySec where
  set : EnergySet
  tSoft : Nat
  tHard : Nat
  tCrit : Nat
  deriving DecidableEq, Repr

structure SealSec where
  repin : Bool
  tcPolicy : BitVec 16
  rekeyS : Nat
  anchors : List (List Byte)
  deriving DecidableEq, Repr

structure SvcSec where
  vid : BitVec 16
  pid : BitVec 16
  bcd : BitVec 16
  key : List Byte
  manufacturer : List Byte
  product : List Byte
  serial : List Byte
  deriving DecidableEq, Repr

/-- The POWER section; the defaults are those of Table 3.18. -/
structure PowerSec where
  latFloor : Nat := 0xFFFFFFFF
  permit : BitVec 3 := 0b111
  mode : Nat := 3
  settleUs : Nat := 100
  vsel : Vector (BitVec 3) 3 := #v[1, 3, 5]
  padItem : Bool := false
  deriving DecidableEq, Repr

/-- The TIME section; without it SOURCE is 0 (Table 3.7). -/
structure TimeSec where
  source : Nat := 0
  falling : Bool := false
  intervalMs : Nat := 10
  stepNs : Nat := 1000
  deriving DecidableEq, Repr

structure GlobalSec where
  portEnable : BitVec 16
  ssEnable : BitVec 16
  gangs : Vector (BitVec 16) 4
  deglitchUs : Nat
  holdupUs : Nat
  refclk : Nat
  xtalLoad : Nat
  xspiSlew : Nat
  freeRun : Bool
  subVendor : BitVec 16
  pfSub : BitVec 16
  vfSub : BitVec 16
  deriving DecidableEq, Repr

/-- An image that passed every check: what TABLE_BUILD loads. -/
structure Image where
  header : List Byte
  version : Word
  svn : Nat
  advance : Bool
  glob : GlobalSec
  tenants : List TenantEntry
  grants : List GrantRule := []
  sluice : Option SluiceSec := none
  exempt : Bool := true
  startEmpty : Bool := false
  urgentNs : Nat := 0
  energy : Option EnergySec := none
  sealSec : Option SealSec := none
  peat : PeatSec := {}
  svc : Option SvcSec := none
  power : PowerSec := {}
  irq : List (BitVec 32) := []
  time : TimeSec := {}
  deriving DecidableEq, Repr

/-- One IMG_SLOT with its IMG_SLOT_VERSION, and the OWNER_KEY of its header as start-up read it. -/
structure SlotInfo where
  reason : Byte := 0x0D
  sect : Byte := 0
  fieldOffset : Nat := 0
  svn : Nat := 0
  version : Word := 0
  key : List Byte := []
  deriving DecidableEq, Repr

/-- Start-up, image and IMG_ registers (03). `step` is the start-up step reached (Table 3.3). -/
structure Img where
  step : Nat := 0
  locked : Bool := false
  fusesRead : Bool := false
  active : Nat := 0
  image : Option Image := none
  slots : Vector SlotInfo 2 := Vector.replicate 2 {}
  flash : Vector (List Byte) 2 := Vector.replicate 2 []
  fallback : Bool := false
  startUs : Nat := 0
  cause : BitVec 4 := 1
  writeState : Nat := 0
  writeNext : Nat := 0
  writeSlot : Fin 2 := 0
  stream : List Byte := []
  portSeq : List PortId := []
  deriving DecidableEq, Repr

/-- Fuses and OTP (03 R66, R69; 14 R362; 10 R286), never reset. -/
structure Fuses where
  ownerHash : BitVec 256 := 0
  svn : Nat := 0
  epoch : Nat := 0
  revoked : Bool := false
  deriving DecidableEq, Repr

/-- Pins of 02 Table 2.3 that the model's commands read or drive. Input levels at reset: notes/assumptions/3.md. -/
structure Pins where
  vddioN : Bool := false
  vsel : BitVec 3 := 1
  vcorePg : Bool := true
  porN : Bool := false
  perstN : Bool := true
  pwrfailN : Bool := true
  ppwrEn : BitVec 16 := 0
  pocN : BitVec 16 := 0xFFFF
  tamper : BitVec 2 := 0
  ppsOut : Bool := false
  thermN : Bool := false
  gpio : BitVec 8 := 0
  peatSel : Bool := false
  testMode : Bool := false
  xspiRstN : Bool := false
  xtal32 : Bool := false
  vaon : Bool := true
  vbat : Bool := true
  xspiHeld : Bool := false
  gpioHeld : Option (BitVec 8) := none
  deriving DecidableEq, Repr

/-! ### Keeper time and frames (04 R97 to R103, 07 R174 to R178) -/

structure TimeSt where
  now : Nat := 0
  frac : Int := 0
  ppsOutEn : Bool := false
  freeze : Bool := false
  state : TimeState := .free
  source : ActiveSource := .none
  ptmFails : Nat := 0
  steps : Nat := 0
  pending : Option Int := none
  offset : Int := 0
  freq : Int := 0
  slew : Int := 0
  good : Nat := 0
  failRun : Nat := 0
  dialogue : Bool := false
  nextPtm : Option Nat := none
  lastPps : Option Nat := none
  deriving DecidableEq, Repr

structure Frames where
  f : Nat := 0
  k : Int := 0
  lock : MfLock := .locked
  phase : Int := 0
  slews : Nat := 0
  admitFails : Nat := 0
  lastReason : Nat := 0
  lastPort : PortId := 0
  lastLtr : Option Nat := none
  ltrSent : Bool := false
  deriving DecidableEq, Repr

/-! ### Endpoint flows (05, 07, 08) -/

/-- Where a TD stands on its graph. -/
inductive TdStage where
  | fetched | checked | retired
  deriving DecidableEq, Repr

/-- A TD in flight. `slot` is the running count of its ring slot, `seq` its place in the tenant's submission order, `x` its
transfer; `interval` is the microframe in which an ISO TD's interval starts, once settled, `readyAt` the Keeper time from which
it is eligible (07 R189, R190), and `ts` the Keeper time at which the interval that served or missed it began. -/
structure Td where
  words : List Word
  addr : Word
  slot : Nat
  seq : Nat
  x : Nat
  stage : TdStage := .fetched
  yellow : Bool := false
  interval : Option Nat := none
  readyAt : Option Nat := none
  ts : Option Nat := none
  deriving DecidableEq, Repr

/-- A transfer of which a TD has been fetched and whose end TD has not retired. `left` is the length of its TDs that left
flight; `unit` the seal unit's plaintext size on a sealed pipe, else 0; `moved` the plaintext bytes that MOVE has done,
`units` and `plain` the seal units and plaintext bytes that SEAL or UNSEAL has done, `used` the wire bytes that UNSEAL has
taken; `buf` the sealed bytes of an OUT that wait for the bus, `wire` the bytes that the bus has carried, `zero` a zero-length packet carried; `ctl` the stage of a control transfer
(0 SETUP, 1 data, 2 status, 3 done). `expires` is set once its TIMEOUT runs (07 R202), `status` once it has ended early, with
its detail, and `busEnd` when that was not at CHECK, else `stop` is the slot of the TD that ended it; `closed` once its end TD has
been fetched; `late` when its TIMEOUT expired in LP3. -/
structure Xfer where
  id : Nat
  seq : Nat
  unit : Nat := 0
  closed : Bool := false
  left : Nat := 0
  moved : Nat := 0
  units : Nat := 0
  plain : Nat := 0
  used : Nat := 0
  buf : List Byte := []
  wire : Nat := 0
  zero : Bool := false
  errs : Nat := 0
  naks : Nat := 0
  expires : Option Nat := none
  issued : Bool := false
  short : Bool := false
  busEnd : Bool := false
  ctl : Nat := 0
  status : Option (Status × Nat) := none
  timeoutAlso : Bool := false
  reset : Bool := false
  cookie : Word := 0
  prev : Nat := 0
  fence : Bool := false
  late : Bool := false
  stop : Option Nat := none
  deriving DecidableEq, Repr

/-- A transfer whose end TD has retired and that waits for release: its place in the submission order, whether it
writes an event, and the event. `sub` is the slot after its last TD; `bad` a status other than SUCCESS or SHORT_PACKET;
`fence` when the transfer was itself fenced. -/
structure Done where
  seq : Nat
  sub : Nat
  ev : Option Ev
  bad : Bool
  fence : Bool := false
  deriving DecidableEq, Repr

/-- A calendar reservation (07 R182 to R186): the port side, whether its slot unit is the frame, phase, interval, the phase's
modulus, costs in ns and payload bytes by slots after the phase's slot; for a split endpoint its TT, cost on the TT's frame
and start-split bytes by microframe. -/
structure Resv where
  port : PortId
  ss : Bool
  frame : Bool
  phase : Nat
  width : Nat
  interval : Nat
  loads : List (Nat × Nat)
  bytes : Nat
  tt : Option (DevId × Nat) := none
  ttCost : Nat := 0
  ttBytes : List (Nat × Nat) := []
  deriving DecidableEq, Repr

/-- A key context (10 R271): `wrapped` is its PRK under the wrapping key, `prk` what a seal engine holds of it. -/
structure KeyCtx where
  entry : Nat
  epoch : Nat
  seq : Nat
  deadline : Option Nat
  unitLog2 : Nat
  prk : BitVec 256
  wrapped : List Byte := []
  failRun : Nat := 0
  rekeyDue : Bool := false
  deriving DecidableEq, Repr

/-- One open endpoint handle: the endpoint context and its flow. `closing` is the CLOSE_EP order that waits for the release of what
its abrupt end completed, `ending` the status of an abrupt end that waits for the transaction in progress, `retest` that a switchover
tests it at the end of that transaction (09 R248). -/
structure Flow where
  t : TenantId
  h : Fin 1024
  entry : Nat
  vp : Nat
  dev : DevId
  ep : EpDesc
  cls : Fin 8
  plOff : Nat
  ringBase : Word
  ringEntries : Nat
  st : HandleState := .running
  deq : Word
  consumed : BitVec 32 := 0
  last : BitVec 32 := 0
  announced : List (Nat × Nat) := []
  links : Nat := 0
  slots : Nat := 0
  tds : List Td := []
  xs : List Xfer := []
  nextX : Nat := 0
  done : List Done := []
  toggle : Nat := 0
  nakRun : Nat := 0
  parked : Bool := false
  strikes : Nat := 0
  ping : Bool := false
  nrdy : Bool := false
  split : Bool := false
  slotDue : Bool := false
  slotRoom : Bool := false
  slotUsed : Nat := 0
  slotF : Nat := 0
  group : Nat := 0
  fenceBad : Bool := false
  fetchFault : Bool := false
  lastInterval : Option Nat := none
  resv : Option Resv := none
  key : Option KeyCtx := none
  closing : Option Nat := none
  ending : Option Status := none
  retest : Bool := false
  deriving DecidableEq, Repr

/-! ### Devices and ports (06) -/

/-- The enumeration step that a device waits in (Table 6.1). -/
inductive EnumStep where
  | debounce | waitDefault | reset | recovery | desc8 | setAddress | descriptors | setSel | setIsoch | hubConfig | hubAlt | hubDesc
  | hubDepth | hubPower | done
  deriving DecidableEq, Repr

/-- Resume in progress: none, waiting for the hub above, signalling, or recovery. -/
inductive ResumeSt where
  | none | waiting | signalling | recovery
  deriving DecidableEq, Repr

/-- Why a granted or unmatched device is being reset (06 R163, R157; 11 R302). -/
inductive ResetFor where
  | none
  | order (t : TenantId) (k : Nat)
  | revoke (k vp : Nat)
  | release (t : TenantId) (closed : Nat)
  deriving DecidableEq, Repr

/-- Over-current handling of one unit (06 R169): retries, latch, and the Keeper time of the retry that is awaited. -/
structure OcSt where
  retries : Nat := 0
  latched : Bool := false
  waiting : Option Nat := none
  deriving DecidableEq, Repr

/-- One present device. `newAddr` is the address that a SET_ADDRESS in progress carries, `old` the descriptors of an earlier pass,
`remote` and `collided` what its resume reports, `hubGang` a hub whose ports one over-current gangs, `cap` the Tirael capability that its
last BOS read gave (10 R263), `langs` the languages of its string 0, `part` the full length of the descriptor of which the head has been
read, `timeouts` the inactivity timeouts of the link above it in us, 0 for none (07 R206). -/
structure Dev where
  id : DevId
  speed : Speed
  addr : Nat := 0
  newAddr : Nat := 0
  mps0 : Nat := 8
  st : DevState := .enumerating
  step : EnumStep := .debounce
  attempts : Nat := 0
  portOff : Bool := false
  desc : Option DevDesc := none
  configs : List ConfigDesc := []
  bos : Option BosDesc := none
  serial : Option (BitVec 256) := none
  langs : Option (List Nat) := none
  part : Option Nat := none
  old : Option (DevDesc × Option (BitVec 256)) := none
  cap : Option (List Byte) := none
  tenant : Option TenantId := none
  vp : Nat := 0
  config : Byte := 0
  alts : List (Nat × Nat) := []
  suspended : Bool := false
  suspendWait : Option Nat := none
  resume : ResumeSt := .none
  resumeOrder : Option Nat := none
  remote : Bool := false
  collided : Bool := false
  reset : ResetFor := .none
  resetWait : ResetFor := .none
  l1 : Bool := false
  lpmOff : Bool := false
  u1 : Bool := false
  u2 : Bool := false
  linkU : Nat := 0
  uWait : Bool := false
  hub : Option HubDesc := none
  hubGang : Bool := false
  timeouts : Nat × Nat := (0, 0)
  hubOc : List (Nat × OcSt) := []
  deriving DecidableEq, Repr

/-- One side of a port (07 Table 7.3, 15 R385): whether enumeration has started on it, its PHY faults, DRR deficits. -/
structure Side where
  on : Bool := false
  phyFaults : List Nat := []
  phyLatched : Bool := false
  deficits : List (TenantId × Int) := []
  deriving DecidableEq, Repr

/-- One root port. -/
structure Port where
  powerOff : Bool := false
  ocActive : Bool := false
  oc : OcSt := {}
  urgent : Nat := 0
  usb2 : Side := {}
  ss : Side := {}
  defOwner : Option DevId := none
  defQueue : List DevId := []
  deriving DecidableEq, Repr

/-! ### The scheduler (08) -/

/-- Kinds of transaction. -/
inductive TxKind where
  | setup | data | status | ping | startSplit | completeSplit
  deriving DecidableEq, Repr

/-- A transaction: its direction, the largest payload that it can carry, its wire bytes for the guard band, its packets. -/
structure Tx where
  kind : TxKind
  isIn : Bool
  bytes : Nat
  wire : Nat
  packets : Nat := 1
  deriving DecidableEq, Repr

/-- What a delay was set for (08 R226, 13 Table 13.3): the windows of seal failures, a connect's debounce, the recovery after a reset or a
resume, an over-current retry and the 10 s without a trip, the poll of a hub, its power wait, a rekey deadline, and the 100 ms after
which enumeration starts on a root port, whose graph `enumerate` is. -/
inductive DelayFor where
  | failures
  | debounce (d : DevId)
  | resetRecovery (d : DevId)
  | resumeRecovery (d : DevId)
  | ocRetry (r : OcRef)
  | ocQuiet (r : OcRef)
  | hubPoll (d : DevId)
  | hubPower (d : DevId)
  | rekey (t : TenantId) (h : Fin 1024)
  | enumStart (p : PortId)
  | enumerate (p : PortId)
  deriving DecidableEq, Repr

/-- An operation in a slot: task, node, level, the ring index or item it concerns, its time of placement, the transaction that an
ISSUE starts with its transfer, the request of the controller's own that it issues, or the delay that made it ready, `late` when that
fell due in LP3. `start` is when it became current, `stale` that a flag of its mask had cleared by then (08 R217). -/
structure Op where
  task : Nat
  node : Node
  pl : Nat
  ref : Nat := 0
  item : Option ItemCode := none
  arg : Nat := 0
  time : Nat := 0
  tx : Option (Nat × Tx) := none
  usb : Option (DevId × UsbReq) := none
  why : Option DelayFor := none
  late : Bool := false
  start : Nat := 0
  stale : Bool := false
  deriving DecidableEq, Repr

structure Worker where
  cur : Option Op := none
  next : Option Op := none
  fenced : Bool := false
  lastHang : Option Nat := none
  deriving DecidableEq, Repr

structure CoreSt where
  op : Option Op := none
  fenced : Bool := false
  lastHang : Option Nat := none
  hold : Bool := false
  bank : Vector IrqSrc 16 := Vector.replicate 16 {}
  claimed : List (Nat × Nat × Nat) := []
  deriving DecidableEq, Repr

/-- A delay of the wheel or the overflow list (R226): due time, the task that set it, and what for; `late` once released when it fell due
in LP3. The list keeps the order in which they were set. -/
structure Delay where
  due : Nat
  task : Nat
  why : DelayFor
  late : Bool := false
  deriving DecidableEq, Repr

/-- Work of an internal task that waits for a slot (R208, R219): an item for a core, or a node for a worker, with the delay that was
released for it. -/
structure Work where
  task : Nat
  node : Node
  item : Option ItemCode := none
  arg : Nat := 0
  why : Option DelayFor := none
  late : Bool := false
  deriving DecidableEq, Repr

/-- The scheduler. `redo` holds the operations of fenced workers that wait to be placed again, each with 32 times 1 for a next slot
plus its worker (Table 8.8), and the order checks of a reset core, each with 64 plus the core; `defers` the missing flags that a DEFER
record last named (Table 8.12); `late` while a delay that fell due in LP3 takes its effect (13 R341); `policyLost` the words of the
active policy snapshot that are lost until the next swap, none for all of it (15 Table 15.2). -/
structure Sched where
  data : AreaMode := .item
  mgmt : AreaMode := .item
  cause : ModeCause := .startUp
  decisions : Nat := 0
  redispatch : Nat := 0
  ready : Vector (List Nat) 8 := Vector.replicate 8 []
  workers : Vector Worker 32 := Vector.replicate 32 {}
  cores : Vector CoreSt 4 := Vector.replicate 4 {}
  taskSel : Nat := 0
  wheel : List Delay := []
  carried : Nat := 0
  due : List Delay := []
  work : List Work := []
  reqs : List Req := []
  defers : List (Nat × Nat × Nat) := []
  redo : List (Op × Nat) := []
  late : Bool := false
  policyLost : List (Option Nat) := []
  deriving DecidableEq, Repr

/-- The trace unit. `burst` counts the records of the SCHED cycle in progress (R230). -/
structure Trace where
  kindEn : BitVec 11 := 0
  internal : Bool := false
  manager : Bool := false
  wrap : Bool := false
  en : Bool := false
  tenants : BitVec 256 := 0
  lost : Nat := 0
  spilling : Bool := false
  buf : List (BitVec 128) := []
  rdIdx : Nat := 0
  pi : Nat := 0
  ci : Nat := 0
  base : Word := 0
  log2 : Nat := 0
  burst : Option Nat := none
  deriving DecidableEq, Repr

/-! ### Sluices, policing, energy (09) -/

/-- One port's gates. `overFrom` holds, for each side whose transaction in progress runs past a switchover, that switchover (R254). -/
structure SluicePort where
  oper : Option GateList := none
  admin : List GateEntry := []
  adminBase : Nat := 0
  state : AdminState := .empty
  switchAt : Nat := 0
  open8 : BitVec 8 := 0xFF
  overrunNs : Nat := 0
  overFrom : List (Bool × Nat) := []
  overruns : Nat := 0
  tooLong : Nat := 0
  missed : Nat := 0
  deriving DecidableEq, Repr

structure Sluice where
  lead : Nat := 10000
  staging : Bool := false
  ports : Vector SluicePort 16 := Vector.replicate 16 {}
  selIndex : Nat := 0
  selAdmin : Bool := false
  selPort : PortId := 0
  exempt : Bool := true
  startEmpty : Bool := false
  polSel : TenantId := 0
  deriving DecidableEq, Repr

/-- The energy account (R255 to R260). `set` is what the registers show, `active` the copy in force since the last
swap (01 R10); the level is in pJ; `cls` is the ENERGY_CLASS of each tenant as the last tick applied it (11 R296). -/
structure Energy where
  enabled : Bool := false
  level : Int := 0
  set : EnergySet := {}
  active : EnergySet := {}
  tSoft : Nat := 0
  tHard : Nat := 0
  tCrit : Nat := 0
  stage : Thermal := .normal
  sensors : Vector (BitVec 8) 4 := Vector.replicate 4 0
  stdWait : Bool := false
  defWait : Bool := false
  cls : Vector Nat 256 := Vector.replicate 256 0
  missed : Nat := 0
  forgiven : Nat := 0
  deriving DecidableEq, Repr

/-! ### Tirael (10) -/

/-- The step that a handshake waits in (Table 10.2). -/
inductive HsStep where
  | pipe | hello | arith | keyShare | confirm | verify | finish | commit
  deriving DecidableEq, Repr

/-- A handshake in progress: for a SEAL_PIPE order, or for a rekey that would need epoch 256 (R277). -/
structure Handshake where
  t : TenantId
  h : Fin 1024
  rekey : Bool
  step : HsStep := .pipe
  hello : Option HelloMsg := none
  unitLog2 : Nat := 12
  nonceC : BitVec 256 := 0
  ephC : BitVec 256 := 0
  prk : BitVec 256 := 0
  keyShare : List Byte := []
  confirm : List Byte := []
  leaf : BitVec 256 := 0
  repin : Bool := false
  deriving DecidableEq, Repr

/-- `counts` holds the Keeper times of the last failures of an identity that is not quarantined, `quarPend` the pipe whose
failure made a quarantine record wait. -/
structure SealSt where
  wrapKey : BitVec 256 := 0
  hs : List Handshake := []
  unitFails : Nat := 0
  hsFails : Nat := 0
  lastFail : BitVec 32 := 0
  zeroised : Bool := false
  revokeOnTamper : Bool := false
  counts : List (Identity × List Nat) := []
  quarPend : List (Identity × TenantId × Fin 1024) := []
  deriving DecidableEq, Repr

/-! ### Tenants (11, 14 R357) -/

/-- One counter (14 R357 to R359): next value, end of the committed leases, a lease being committed, whether it gave out a
value of its newest lease; START with epoch and SIZE of the newest LEASE entry (SIZE 0: none), and the NEXT of a HIGH_WATER
entry that supersedes it. -/
structure Counter where
  next : Nat := 0
  limit : Nat := 0
  pending : Bool := false
  given : Bool := false
  start : Nat := 0
  size : Nat := 0
  water : Option Nat := none
  deriving DecidableEq, Repr

structure Tenant where
  st : TenantState := .vacant
  vf : Bool := false
  rings : Rings := {}
  accessErr : Bool := false
  share : Option ShareRec := none
  swap : Option ShareRec := none
  lastEnable : Byte := 0
  flrs : Nat := 0
  latTol : Nat := 0
  tc : Nat := 0
  tp : Nat := 0
  yellow : BitVec 32 := 0
  red : BitVec 32 := 0
  vpChange : Vector (BitVec 8) 64 := Vector.replicate 64 0
  seqNo : Nat := 0
  groupBad : List Nat := []
  irq : Vector IrqSrc 32 := Vector.replicate 32 {}
  irqHold : Bool := false
  counters : Vector Counter 4 := Vector.replicate 4 {}
  pci : PciFn := {}
  deriving DecidableEq, Repr

/-! ### Peat (14) -/

/-- A record that waits to be written: LINK of an affirmed copy, and whether a checkpoint writes it. A LIFETIME body holds what
its mounts, watchdogs and pwrfails rise by. -/
structure QRec where
  body : RecBody
  link : Nat := 0
  ckpt : Bool := false
  deriving DecidableEq, Repr

structure PeatSt where
  state : PeatState := .absent
  reason : PeatReason := .notMounted
  sectorLog2 : Nat := 0
  copies : Vector (Option Superblock) 2 := Vector.replicate 2 none
  usable : Nat := 0
  sectors : List Sector := []
  freeErases : Nat := 0
  seq : Nat := 0
  nextSeq : Nat := 1
  horizon : Nat := 0
  horizonMac : BitVec 64 := 0
  horizonOk : Bool := false
  tamperPend : BitVec 16 := 0
  tamperGen : Nat := 0
  tamperInputs : BitVec 2 := 0
  ckpt : Nat := 0
  ckptOpen : Option Nat := none
  sinceCkpt : Nat := 0
  ckptTime : Nat := 0
  queue : List QRec := []
  params : PeatSec := {}
  copied : Option Nat := none
  life : LifeRec := {}
  pins : List (Nat × Identity × BitVec 256) := []
  quars : List (Nat × Identity) := []
  logFirst : Nat := 0
  logNext : Nat := 0
  events : List LogEv := []
  waiting : List LogEv := []
  dropped : Nat := 0
  torn : Nat := 0
  scanUs : Nat := 0
  erasing : Option Nat := none
  powerFail : Bool := false
  formatting : Bool := false
  compacting : Bool := false
  deriving DecidableEq, Repr

/-! ### Power (13) -/

/-- What an island is doing (Table 13.2, 15 R383). -/
inductive IslandState where
  | running | gated | retention | waking | restarting
  deriving DecidableEq, Repr

structure IslandSt where
  state : IslandState := .running
  held : List Held := []
  since : Nat := 0
  deriving DecidableEq, Repr

/-- A port on which the port watcher has begun resume signalling or an LFPS handshake: its number, the island that it is handed to, and
the line state that it drives (13 R332, 01 R21). -/
inductive LineDrive where
  | none | resumeK | lfps
  deriving DecidableEq, Repr

structure Watched where
  port : PortId
  side : Island
  drive : LineDrive
  deriving DecidableEq, Repr

/-- Where a change of operating point stands (R336). -/
inductive OppPhase where
  | waitPg | settle | relock
  deriving DecidableEq, Repr

/-- Power control. `clock` is AON's own count of ns, `since` its value at the entry into the state in force, `entered` the Keeper time then; `exiting` while an exit from
LP2 or LP3 runs; `saved` the Keeper time saved for LP3;
`stage` the thermal stage at that entry; `first` 0xF when no source started the latest exit; `busy` of `slots` ticks of the
workers' current slots held an operation in the present AUTO window; `perstDue`, `zeroDue`: what a PERST_N or a tamper assertion leaves to
the end of the exit. -/
structure Power where
  lp : LpState := .lp0
  entering : Bool := false
  exiting : Bool := false
  clock : Nat := 0
  since : Nat := 0
  entered : Nat := 0
  last : LpState := .lp0
  latFloor : Nat := 0xFFFFFFFF
  padItem : Bool := false
  padsHeld : Bool := false
  waiting : List (PortId × Bool) := []
  oppMode : Nat := 3
  permit : BitVec 3 := 0
  opp : Nat := 0
  chosen : Nat := 0
  change : Option (Nat × OppPhase) := none
  oppFault : Bool := false
  oppFaults : Nat := 0
  lowRun : Nat := 0
  wakePort : PortId := 0
  first : Nat := 0xF
  replayed : Bool := false
  causes : BitVec 12 := 0
  stage : Thermal := .normal
  latched : List (Nat × PortId) := []
  corrected : Nat := 0
  lost : BitVec 20 := 0
  lastSleep : Nat := 0
  resNs : Vector Nat 4 := Vector.replicate 4 0
  resEntries : Vector Word 4 := Vector.replicate 4 0
  gatedNs : Vector Nat 14 := Vector.replicate 14 0
  islands : Vector IslandSt 14 := Vector.replicate 14 {}
  saved : Option Nat := none
  wakeTimer : Option Nat := none
  watched : List Watched := []
  busy : Nat := 0
  slots : Nat := 0
  perstDue : Bool := false
  zeroDue : Bool := false
  deriving DecidableEq, Repr

/-! ### Faults (15) -/

/-- A fault record, word by word (Table 15.6). -/
structure FaultRec where
  w0 : Word
  w1 : Word
  w2 : Word
  w3 : Word
  deriving DecidableEq, Repr

/-- A fault whose record is written when FAULT_RECOVER retires: what the record says, the worker to be checked, and what is rebuilt:
ready lists by level, the calendar of port sides, translators' entries, the shadow policy copy; `quiet` when the workers are held
meanwhile. -/
structure FaultJob where
  cls : Fin 9
  unit : Nat
  owner : Option TenantId := none
  outcome : Nat := 0
  wher : Nat := 0
  time : Nat
  worker : Option WorkerId := none
  lists : BitVec 8 := 0
  sides : List (PortId × Bool) := []
  tts : List (DevId × Nat) := []
  shadow : Bool := false
  quiet : Bool := false
  deriving DecidableEq, Repr

/-- A restart of islands that lost their clock (R383): the record's class, unit and mask, and the islands still down. -/
structure Restart where
  cls : Fin 9
  unit : Nat
  outcome : Nat
  mask : Nat
  left : List Island
  time : Nat
  deriving DecidableEq, Repr

structure Faults where
  jobs : List FaultJob := []
  restarts : List Restart := []
  records : List FaultRec := []
  dropped : Nat := 0
  counts : Vector Nat 9 := Vector.replicate 9 0
  uncorrectable : Vector Nat 21 := Vector.replicate 21 0
  corrected : Vector Nat 21 := Vector.replicate 21 0
  deriving DecidableEq, Repr

/-! ### Service port and TAP (16) -/

/-- The response held for EP2 IN: the request it answers, and the packets left, each with the log cursor that its ACK leaves. -/
structure SvcResp where
  req : Nat
  packets : List (List Byte × Option Nat)
  deriving DecidableEq, Repr

/-- The service port. `driveK` is the Keeper time at which its remote-wake K ends; `toggles` and `halts` have a bit for EP1 IN, EP2 IN
and EP2 OUT. -/
structure Svc where
  traceOk : Bool := false
  attach : Bool := true
  vbus : Bool := false
  attached : Bool := false
  highSpeed : Bool := false
  configured : Bool := false
  suspended : Bool := false
  remoteWake : Bool := false
  testMode : Nat := 0
  session : Bool := false
  wakeCollided : Bool := false
  address : BitVec 7 := 0
  change : BitVec 8 := 0
  resets : Nat := 0
  resetMid : Nat := 0
  authFail : Nat := 0
  lostResp : Nat := 0
  cursor : Nat := 0
  challenge : Option (BitVec 256) := none
  verify : Option (BitVec 256 × List Byte) := none
  verified : Option Bool := none
  attachFails : Nat := 0
  lockout : Option Nat := none
  resp : Option SvcResp := none
  nonce : Option (BitVec 256) := none
  ep1 : BitVec 4 := 0
  ep1Req : Nat := 0
  toggles : BitVec 3 := 0
  halts : BitVec 3 := 0
  driveK : Option Nat := none
  inXfer : Bool := false
  deriving DecidableEq, Repr

structure SelfTest where
  mbistBusy : Bool := false
  loopBusy : Bool := false
  loopNext : Bool := false
  mbist : Nat := 0
  loop : Nat := 0
  mbistFail : BitVec 21 := 0
  workers : BitVec 32 := 0
  ports : BitVec 22 := 0
  seals : BitVec 2 := 0
  lodes : BitVec 2 := 0
  deriving DecidableEq, Repr

/-- The TAP; the boundary register's reset value is notes/assumptions/7.md. -/
structure Tap where
  ir : BitVec 5 := 1
  boundary : List Bool := []
  pinsTaken : Bool := false
  hiZ : Bool := false
  custody : Bool := false
  deriving DecidableEq, Repr

end Sys2Proof.Machine
end

