-- ==== Sys2Proof/Machine/State.lean ====
section
/-! DEFINITION. State: every register, ring, table, counter, mode and pin of the PX-256, the queue of waiting commands,
and what left the block. Plain data throughout. -/

namespace Sys2Proof.Machine

/-- No command of this block ends in a fault: 00 R6 gives every access an outcome. The one constructor is never raised
(safe): it keeps the type inhabited. -/
inductive Fault where
  /-- Raised by nothing; safe. -/
  | unused
  deriving DecidableEq, Repr

/-- Reasons to refuse a command. -/
inductive Refusal where
  /-- The dispatch arm of a command without a meaning; safe, since nothing is proved of it. No arm raises it now. -/
  | notModelled (mnemonic : String)
  deriving DecidableEq, Repr

/-- The PX-256. -/
structure State where
  /-- Commands that wait, first in, first out. -/
  pending : List Instr := []
  pins : Pins := {}
  fuses : Fuses := {}
  img : Img := {}
  pf : PciFn := {}
  link : LinkState := .down
  gblAccessErr : Bool := false
  vfRefused : Bool := false
  mgr : Rings := {}
  time : TimeSt := {}
  frames : Frames := {}
  sched : Sched := {}
  trace : Trace := {}
  sluice : Sluice := {}
  energy : Energy := {}
  /-- An update of the shadow policy copy is in progress (01 R10). -/
  shadowBusy : Bool := false
  tenants : Vector Tenant 256 := Vector.replicate 256 {}
  flows : List Flow := []
  devs : List Dev := []
  ports : Vector Port 16 := Vector.replicate 16 {}
  gangMask : Vector (BitVec 16) 4 := Vector.replicate 4 0
  gangs : Vector OcSt 4 := Vector.replicate 4 {}
  deglitchUs : Nat := 100
  devSel : BitVec 11 := 0
  /-- Transaction translators in use, at most 256 (06 R150): the hub and, on a multi-TT hub, its port. -/
  tts : List (DevId × Nat) := []
  seals : SealSt := {}
  shared : Vector IrqSrc 96 := Vector.replicate 96 {}
  pfIrq : Vector IrqSrc 64 := Vector.replicate 64 {}
  pfHold : Bool := false
  power : Power := {}
  peat : PeatSt := {}
  faults : Faults := {}
  svc : Svc := {}
  self : SelfTest := {}
  tap : Tap := { boundary := List.replicate 412 false }
  /-- Model's own: what left the block, newest first (notes/assumptions/1.md). -/
  out : List Out := []
  /-- Model's own: the completion of the last host request (notes/assumptions/1.md). -/
  resp : Option Resp := none
  /-- Model's own: how many free values have been drawn (notes/assumptions/8.md). -/
  free : Nat := 0
  deriving DecidableEq, Repr

/-- The machine right after a full reset, before anything happened: every field at the default that its declaration
gives, which is the reset value of the spec or of the log entry named in INVENTORY.md. -/
def State.reset : State := {}

end Sys2Proof.Machine
end

