-- ==== Sys2Proof/Machine/Ops.lean ====
section
/-! DEFINITION. Named operations that every family uses: tables, registers' saturating counts, the functions and their
rings, posted writes, events and notices, the event log and fault records, task numbers, and internal work. -/

namespace Sys2Proof.Machine

/-! ### Tables -/

/-- Entry i of a fixed table. -/
def vget {α : Type} {n : Nat} (v : Vector α n) (i : Fin n) : α := v[i.val]

/-- A fixed table with entry i replaced. -/
def vset {α : Type} {n : Nat} (v : Vector α n) (i : Fin n) (x : α) : Vector α n := v.set i.val x i.isLt

/-- A fixed table with entry i mapped. -/
def vmod {α : Type} {n : Nat} (v : Vector α n) (i : Fin n) (f : α → α) : Vector α n := vset v i (f (vget v i))

/-- Every index of a fixed table, ascending. -/
def allFin (n : Nat) : List (Fin n) := List.finRange n

/-- Insert before the first entry that x may precede. -/
def insertBy {α : Type} (le : α → α → Bool) (x : α) : List α → List α
  | [] => [x]
  | y :: l => if le x y then x :: y :: l else y :: insertBy le x l

/-- A list in the order of le; equals keep their order. -/
def sortBy {α : Type} (le : α → α → Bool) (l : List α) : List α := l.foldr (insertBy le) []

/-- A saturating count. -/
def satAdd (a b top : Nat) : Nat := Nat.min (a + b) top

/-- A Bool as a Nat bit. -/
def b2n (b : Bool) : Nat := if b then 1 else 0

/-- Bits [lo + w - 1 : lo] of a word as a number. -/
def field (v : Word) (lo w : Nat) : Nat := v.toNat / 2 ^ lo % 2 ^ w

/-- Bits [hi:lo] as a mask. -/
def bits (hi lo : Nat) : Word := BitVec.ofNat 64 (2 ^ (hi + 1) - 2 ^ lo)

/-- A word from (value, low bit) fields that do not overlap. -/
def pack (l : List (Nat × Nat)) : Word := BitVec.ofNat 64 (l.foldl (fun a p => a + p.1 * 2 ^ p.2) 0)

/-- A signed number in w bits, two's complement, as a Nat. -/
def twos (w : Nat) (x : Int) : Nat := (BitVec.ofInt w x).toNat

/-- Little-endian bytes of a word (00 R3). -/
def wordBytes (v : Word) : List Byte := (List.range 8).map (fun i => (v.toNat / 256 ^ i % 256 : Nat))

/-- The number that little-endian bytes spell. -/
def leNat : List Byte → Nat
  | [] => 0
  | b :: l => b.toNat + 256 * leNat l

/-- The number that big-endian bytes spell. -/
def beNat (l : List Byte) : Nat := leNat l.reverse

/-- n little-endian bytes of a number. -/
def natBytes (n v : Nat) : List Byte := (List.range n).map (fun i => BitVec.ofNat 8 (v / 256 ^ i))

/-- A digest's 32 bytes, byte 0 first; a digest is held with its first byte in [7:0]. -/
def digestBytes (d : BitVec 256) : List Byte := natBytes 32 d.toNat

/-- The prime of the field of P-256, and the coefficient b of its curve y² = x³ - 3x + b (FIPS 186-5, which the spec names; PRESUMED,
notes/assumptions/10.md). -/
def p256Prime : Nat := 0xffffffff00000001000000000000000000000000ffffffffffffffffffffffff
def p256B : Nat := 0x5ac635d8aa3a93e7b3ebbd55769886bc651d06b0cc53b0f63bce3c3e27d2604b

/-- 65 bytes 0x04 ‖ X ‖ Y are a valid P-256 point (10 R268): both coordinates in the field, and on the curve. -/
def validPoint (l : List Byte) : Bool :=
  let x := beNat ((l.drop 1).take 32)
  let y := beNat (l.drop 33)
  l.length = 65 && l.head? = some 4 && x < p256Prime && y < p256Prime &&
  y * y % p256Prime = (x * x * x + (p256Prime - 3) * x + p256B) % p256Prime

/-! ### Codes of the spec's tables -/

def TenantState.code : TenantState → Nat
  | .vacant => 0 | .standby => 1 | .active => 2 | .quiescing => 3 | .quiesced => 4 | .fenced => 5 | .resetting => 6

/-- Table 5.6. -/
def Status.code : Status → Nat
  | .success => 0 | .shortPacket => 1 | .stall => 2 | .busError => 3 | .babble => 4 | .timeout => 5 | .policed => 6
  | .gateTooLong => 7 | .missedService => 8 | .detached => 9 | .sealFailed => 0xA | .aborted => 0xB | .contextLost => 0xC
  | .dmaFault => 0xD | .badDescriptor => 0xE | .noBandwidth => 0xF | .overQuota => 0x10 | .notPermitted => 0x11
  | .outOfEnvelope => 0x12 | .peatUnavailable => 0x13 | .epochExhausted => 0x14 | .fenced => 0x15 | .gateConflict => 0x16

/-- Table 5.6, column Halts, for a transfer on a pipe that is isochronous or not. -/
def Status.halts (iso : Bool) : Status → Bool
  | .stall | .busError | .dmaFault | .badDescriptor => true
  | .babble | .sealFailed => !iso
  | _ => false

def Speed.code : Speed → Nat
  | .low => 1 | .full => 2 | .high => 3 | .gen1 => 4 | .gen2 => 5

def Speed.isSs : Speed → Bool
  | .gen1 | .gen2 => true
  | _ => false

/-- Table 8.5. -/
def Node.code : Node → Nat
  | .fetch => 0 | .check => 1 | .move => 2 | .seal => 3 | .issue => 4 | .unseal => 5 | .retire => 6 | .notify => 7

/-- Table 8.7. -/
def ItemCode.code : ItemCode → Nat
  | .peatMount => 1 | .imageSelect => 2 | .tableBuild => 3 | .portPower => 4 | .enumerate => 5 | .wake => 0x10
  | .leaseCommit => 0x20 | .logWrite => 0x21 | .compactStep => 0x22 | .faultRecover => 0x30
  | .selfTestMbist => 0x40 | .selfTestLoopback => 0x41 | .sealArith => 0x50

/-- Island numbers, in the order of Table 1.3. -/
def Island.idx : Island → Fin 14
  | .aon => 0 | .hostlink => 1 | .func => 2 | .sched => 3 | .lode => 4 | .worka => 5 | .workb => 6 | .seal => 7
  | .ssport => 8 | .hsport => 9 | .svc => 10 | .mgmt => 11 | .nvm => 12 | .test => 13

def LpState.code : LpState → Nat
  | .lp0 => 0 | .lp1 => 1 | .lp2 => 2 | .lp3 => 3

def LpState.idx : LpState → Fin 4
  | .lp0 => 0 | .lp1 => 1 | .lp2 => 2 | .lp3 => 3

def TimeState.code : TimeState → Nat
  | .free => 0 | .acquiring => 1 | .locked => 2 | .holdover => 3

def ActiveSource.code : ActiveSource → Nat
  | .none => 0 | .ptm => 1 | .pps => 2

def MfLock.code : MfLock → Nat
  | .locked => 0 | .slewing => 1 | .freeRun => 2

def PeatState.code : PeatState → Nat
  | .mounted => 0 | .degraded => 1 | .locked => 2 | .absent => 3

def PeatReason.code : PeatReason → Nat
  | .none => 0 | .noFlash => 1 | .unformatted => 2 | .notMounted => 3 | .custody => 4 | .rollback => 5
  | .epochMismatch => 6 | .fuseFail => 7 | .lowSpace => 8 | .worn => 9 | .retired => 10

def Thermal.code : Thermal → Nat
  | .normal => 0 | .soft => 1 | .hard => 2 | .crit => 3

def ModeCause.code : ModeCause → Nat
  | .none => 0 | .startUp => 1 | .custody => 2 | .selfTest => 3 | .recovery => 4

def AdminState.code : AdminState → Nat
  | .empty => 0 | .staged => 1 | .pending => 2

/-- PRT_DEV_INFO.STATE of a present device (06 R173). -/
def DevState.code : DevState → Nat
  | .enumerating => 1 | .unmatched => 2 | .granted => 3 | .hub => 4 | .failed => 5 | .refused => 6

/-! ### Functions, tenants, rings -/

def State.tenant (s : State) (t : TenantId) : Tenant := vget s.tenants t

def State.modTenant (s : State) (t : TenantId) (f : Tenant → Tenant) : State :=
  { s with tenants := vmod s.tenants t f }

/-- The rings of a function's owner. -/
def State.rings (s : State) : Fn → Rings
  | .pf0 => s.mgr
  | .vf t => (s.tenant t).rings

def State.modRings (s : State) (f : Fn) (g : Rings → Rings) : State :=
  match f with
  | .pf0 => { s with mgr := g s.mgr }
  | .vf t => s.modTenant t (fun x => { x with rings := g x.rings })

def State.fn (s : State) : Fn → PciFn
  | .pf0 => s.pf
  | .vf t => (s.tenant t).pci

def State.modFn (s : State) (f : Fn) (g : PciFn → PciFn) : State :=
  match f with
  | .pf0 => { s with pf := g s.pf }
  | .vf t => s.modTenant t (fun x => { x with pci := g x.pci })

/-- Set ACCESS_ERR of the function through which the access came (00 R4). -/
def State.accessErr (s : State) (f : Fn) : State :=
  match f with
  | .pf0 => { s with gblAccessErr := true }
  | .vf t => s.modTenant t (fun x => { x with accessErr := true })

/-- Answer the host request of this command. -/
def State.answer (s : State) (r : Resp) : State := { s with resp := some r }

/-- Record what leaves the block. -/
def State.emitOut (s : State) (o : Out) : State := { s with out := o :: s.out }

/-! ### Configuration dwords (04 R82; layout and reset values PRESUMED from PCIe, notes/assumptions/6.md) -/

/-- Reset value of the writable bits of a configuration dword. -/
def cfgReset (off : Nat) : BitVec 32 :=
  if off = 0x58 then 0x2010 else if off = 0x10C then 0x00462030 else if off = 0x114 then 0x2000
  else if off = 0x80 then 5 else if off = 0x180 then 1 else 0

/-- The stored bits of a configuration dword. -/
def PciFn.dword (p : PciFn) (off : Nat) : BitVec 32 := (p.cfg.lookup off).getD (cfgReset off)

/-- Store a configuration dword; an entry equal to its reset value is not listed, and offsets rise. -/
def PciFn.setDword (p : PciFn) (off : Nat) (v : BitVec 32) : PciFn :=
  let lo := p.cfg.filter (fun e => e.1 < off)
  let hi := p.cfg.filter (fun e => off < e.1)
  { p with cfg := if v = cfgReset off then lo ++ hi else lo ++ (off, v) :: hi }

def PciFn.bit (p : PciFn) (off i : Nat) : Bool := (p.dword off).getLsbD i

def PciFn.busMaster (p : PciFn) : Bool := p.bit 0x04 2
def PciFn.d3 (p : PciFn) : Bool := p.bit 0x44 0 && p.bit 0x44 1
def PciFn.pmeEn (p : PciFn) : Bool := p.bit 0x44 8
def PciFn.pmeStatus (p : PciFn) : Bool := p.bit 0x44 15
def PciFn.msixEn (p : PciFn) : Bool := p.bit 0x90 31
def PciFn.fnMask (p : PciFn) : Bool := p.bit 0x90 30

/-- Memory Space Enable of a function: PF0's Command register, or VF MSE of the SR-IOV capability for a VF. -/
def State.memEn (s : State) : Fn → Bool
  | .pf0 => s.pf.bit 0x04 1
  | .vf _ => s.pf.bit 0x168 3

def State.vfEnable (s : State) : Bool := s.pf.bit 0x168 0
def State.numVfs (s : State) : Nat := (s.pf.dword 0x170).toNat % 65536

/-! ### Rings: sizes, indices, events -/

def Rings.orderSize (r : Rings) : Nat := 2 ^ r.orderLog2
def Rings.eventSize (r : Rings) : Nat := 2 ^ r.eventLog2

/-- An event index is free: one entry always stays unused (05 R106). -/
def Rings.hasFree (r : Rings) : Bool := (r.alloc + 1) % r.eventSize ≠ r.ci

/-- The ring is disabled and none of its fetched orders is in flight. -/
def Rings.idle (r : Rings) : Bool := !r.en && r.orders.all (fun o => o.ghost)

/-- The owner's retire buffer is full (05 R108). -/
def Rings.stopped (r : Rings) : Bool := 64 ≤ r.buf.length

/-- Give an event the next index and make its NOTIFY ready (08 R223). CYCLE inverts when the index wraps. -/
def Rings.giveFor (r : Rings) (e : Ev) (notice : Option Notice) : Rings :=
  let n := (r.alloc + 1) % r.eventSize
  { r with notify := r.notify ++ [{ idx := r.alloc, cycle := r.cycle, ev := e, notice := notice }],
           alloc := n, cycle := if n = 0 then !r.cycle else r.cycle }

/-- Give a completion the next index. -/
def Rings.give (r : Rings) (e : Ev) : Rings := r.giveFor e none

/-- The event that a notice latch writes (05 Table 5.5, 06 Table 6.5, 10 R281, 11 R306). -/
def Notice.ev (mgr : Bool) (n : Notice) : Ev :=
  match n.key with
  | .vp v => { type := 3, target := BitVec.ofNat 16 v, bytes := n.bits }
  | .seal h => { type := 5, target := BitVec.ofNat 16 h, detail := n.bits }
  | .tenant t => { type := 4, target := if mgr then BitVec.ofNat 16 t else 0, detail := n.bits }
  | .time => { type := 6, w1 := BitVec.ofInt 64 n.step }
  | .dev loc => { type := 3, target := BitVec.ofNat 16 loc, bytes := n.bits }

/-- The event of a latch, with LATE where it reports a delay that fell due in LP3. -/
def Notice.event (mgr : Bool) (n : Notice) : Ev := { n.ev mgr with late := n.late }

/-- Events that had an index before the ring restarted first, then latched notices, in the order in which each latch was first set, then
the buffered completions (05 R109), while entries are free. -/
def Rings.drain (mgr : Bool) : Nat → Rings → Rings
  | 0, r => r
  | k + 1, r =>
    if r.en && r.hasFree then
      match r.again, r.notices, r.buf with
      | x :: l, _, _ => Rings.drain mgr k ({ r with again := l }.giveFor x.ev x.notice)
      | [], n :: l, _ => Rings.drain mgr k ({ r with notices := l }.giveFor (n.event mgr) (some n))
      | [], [], e :: l => Rings.drain mgr k ({ r with buf := l }.give e)
      | [], [], [] => r
    else r

/-- May events of this owner be written now: a tenant's only while it is ACTIVE, QUIESCING or QUIESCED (11 Table 11.1,
R301). -/
def State.mayNotify (s : State) : Fn → Bool
  | .pf0 => true
  | .vf t => match (s.tenant t).st with
    | .active | .quiescing | .quiesced => true
    | _ => false

/-- Write what event space allows. -/
def State.drainRing (s : State) (f : Fn) : State :=
  if s.mayNotify f then
    let n := (s.rings f).again.length + (s.rings f).notices.length + (s.rings f).buf.length
    s.modRings f (Rings.drain (f = .pf0) n)
  else s

/-- What a latch holds after another notice of its source. -/
def Notice.merge (n m : Notice) : Notice :=
  if n.key = m.key then { n with bits := n.bits ||| m.bits, step := n.step + m.step, late := n.late || m.late } else n

/-- The event of a latch that has its index takes in another notice of its source until it is written. -/
def NotifyOp.merge (mgr : Bool) (x : NotifyOp) (m : Notice) : NotifyOp :=
  match x.notice with
  | some n => if n.key = m.key && !x.reported then { x with notice := some (n.merge m), ev := (n.merge m).event mgr } else x
  | none => x

/-- An event of the latch waits to be written. -/
def NotifyOp.latched (x : NotifyOp) (key : NoticeKey) : Bool :=
  !x.reported && (match x.notice with | some n => n.key = key | none => false)

/-- Merge a notice into its latch while that is unwritten (05 R109), else set the latch. -/
def Rings.latch (mgr : Bool) (r : Rings) (m : Notice) : Rings :=
  if r.again.any (fun x => x.latched m.key) then { r with again := r.again.map (fun x => x.merge mgr m) }
  else if r.notify.any (fun x => x.latched m.key) then { r with notify := r.notify.map (fun x => x.merge mgr m) }
  else if r.notices.any (fun n => n.key = m.key) then { r with notices := r.notices.map (fun n => n.merge m) }
  else { r with notices := r.notices ++ [m] }

/-- Raise a notice on a ring. -/
def State.notice (s : State) (f : Fn) (key : NoticeKey) (bits : BitVec 32) (step : Int := 0) : State :=
  (s.modRings f (fun r => r.latch (f = .pf0) { key := key, bits := bits, step := step, late := s.sched.late })).drainRing f

/-- A released completion: an event index if the retire buffer is empty and the ring has room and is enabled, else the
retire buffer (08 R222, R223). -/
def State.complete (s : State) (f : Fn) (e : Ev) : State :=
  let r := s.rings f
  if r.again.isEmpty && r.buf.isEmpty && r.en && r.hasFree then s.modRings f (fun r => r.give e)
  else s.modRings f (fun r => { r with buf := r.buf ++ [e] })

/-- TENANT_NOTICE to a tenant (05 Table 5.5). -/
def State.tenantNotice (s : State) (t : TenantId) (bits : BitVec 32) : State :=
  s.notice (.vf t) (.tenant t.val) bits

/-- TENANT_NOTICE on the manager ring (11 R306): 0 VF_PRESENT, 1 VF_REMOVED, 2 FENCED, 3 DRAINED, 4 AUTO_ENABLE_FAILED,
5 CONTEXT_LOST. -/
def State.mgrTenantNotice (s : State) (t : TenantId) (bit : Nat) : State :=
  s.notice .pf0 (.tenant t.val) (BitVec.ofNat 32 (2 ^ bit))

/-- Manager PORT_CHANGE for a locator (06 R158). -/
def State.mgrPortNotice (s : State) (loc : Nat) (bit : Nat) : State :=
  s.notice .pf0 (.dev loc) (BitVec.ofNat 32 (2 ^ bit))

/-! ### Posted writes (04 R77, R417) -/

/-- A posted write of the function can be sent now. -/
def State.canSend (s : State) (f : Fn) : Bool := s.link ≠ .down && (s.fn f).busMaster

/-- The event ring's producer index advances over a contiguous run of reported, posted indices (08 R223). -/
def Rings.advance : Nat → Rings → Rings
  | 0, r => r
  | k + 1, r =>
    match r.notify.find? (fun n => n.idx = r.pi) with
    | some n =>
      if n.posted && n.reported then
        Rings.advance k { r with notify := r.notify.filter (fun m => m.idx ≠ r.pi), pi := (r.pi + 1) % r.eventSize }
      else r
    | none => r

/-- A write leaves: an event or spill record counts as posted (05 R106, 08 R232). -/
def State.sendPost (s : State) (f : Fn) (p : Post) : State :=
  let s := s.emitOut (.post f p)
  match p with
  | .event i _ _ => s.modRings f (fun r =>
      Rings.advance r.notify.length
        { r with notify := r.notify.map (fun n => if n.idx = i then { n with posted := true } else n) })
  | .spill i _ _ => { s with trace := { s.trace with pi := (i + 1) % 2 ^ s.trace.log2 } }
  | _ => s

/-- Writes for a FENCED tenant, or for a VF that is gone, are dropped (11 Table 11.8). -/
def State.dropped (s : State) : Fn → Bool
  | .pf0 => false
  | .vf t => (s.tenant t).st = .fenced || (s.tenant t).st = .vacant

/-- Post a write: drop it, hold it behind earlier held writes of the function, or send it. -/
def State.postWrite (s : State) (f : Fn) (p : Post) : State :=
  if s.dropped f then s
  else if s.canSend f && (s.fn f).held.isEmpty then s.sendPost f p
  else s.modFn f (fun x => { x with held := x.held ++ [p] })

/-- The pieces of n bytes at an address, none across a multiple of m bytes (04 Table 4.1; notes/assumptions/105.md). -/
def pieces (m addr n : Nat) : List (Nat × Nat) :=
  if n = 0 then []
  else (List.range ((addr % m + n + m - 1) / m)).map (fun i =>
    let a := Nat.max addr ((addr / m + i) * m)
    (a, Nat.min (addr + n) ((addr / m + i + 1) * m) - a))

/-- Max Payload Size and Max Read Request Size, as the host programmed them in PF0 (04 Table 4.1). -/
def State.maxPayload (s : State) : Nat := 128 * 2 ^ Nat.min ((s.pf.dword 0x58).extractLsb' 5 3).toNat 2
def State.maxRead (s : State) : Nat := 128 * 2 ^ Nat.min ((s.pf.dword 0x58).extractLsb' 12 3).toNat 5

/-- Post a transfer's payload, with Relaxed Ordering while that is enabled (04 Table 4.1). -/
def State.postPayload (s : State) (f : Fn) (addr : Word) (n : Nat) : State :=
  (pieces s.maxPayload addr.toNat n).foldl (fun a p =>
    a.postWrite f (.payload (BitVec.ofNat 64 p.1) p.2 (s.pf.bit 0x58 4))) s

/-- Post the data of an order. -/
def State.postData (s : State) (f : Fn) (addr : Word) (l : List Word) : State :=
  (pieces s.maxPayload addr.toNat (8 * l.length)).foldl (fun a p =>
    a.postWrite f (.data (BitVec.ofNat 64 p.1) ((l.drop ((p.1 - addr.toNat) / 8)).take (p.2 / 8)))) s

/-- The read requests of a DMA read leave while the function can send them. -/
def State.sendRead (s : State) (f : Fn) (addr : Word) (n : Nat) : State :=
  if s.canSend f then
    (pieces s.maxRead addr.toNat n).foldl (fun a p => a.emitOut (.read f (BitVec.ofNat 64 p.1) p.2)) s
  else s

/-- Held writes go out in order once they can be sent (04 R417). -/
def State.releaseHeld (s : State) (f : Fn) : State :=
  if s.canSend f then
    (s.fn f).held.foldl (fun a p => a.sendPost f p) (s.modFn f (fun x => { x with held := [] }))
  else s

/-! ### Task numbers (08 Table 8.1) -/

def orderTask : Fn → Nat
  | .pf0 => 16640
  | .vf t => 16384 + t.val

def topoTask (p : PortId) : Nat := 16641 + p.val
def frameTask : Nat := 16657
def powerTask : Nat := 16658
def faultTask : Nat := 16659
def sealTask : Nat := 16660
def peatTask : Nat := 16661
def traceTask : Nat := 16662

/-- Queue work of an internal task for the scheduler (08 R208, R219). -/
def State.addWork (s : State) (w : Work) : State := { s with sched := { s.sched with work := s.sched.work ++ [w] } }

/-- Make a request on a bus, of a device's TOPO task unless another task is named (Table 8.1). -/
def State.requestAs (s : State) (task : Nat) (d : DevId) (r : UsbReq) : State :=
  { s with sched := { s.sched with reqs := s.sched.reqs ++ [{ d := d, r := r, task := task }] } }

def State.request (s : State) (d : DevId) (r : UsbReq) : State := s.requestAs (topoTask d.port) d r

/-- The request of a device that a predicate picks. -/
def State.reqOf (s : State) (d : DevId) (p : UsbReq → Bool) : Option Req := s.sched.reqs.find? (fun q => q.d = d && p q.r)

/-- Change the first element that a predicate picks. -/
def modFirst {α : Type} (p : α → Bool) (g : α → α) : List α → List α
  | [] => []
  | x :: l => if p x then g x :: l else x :: modFirst p g l

/-- Change the first request of a device that is this one. -/
def State.modReq (s : State) (d : DevId) (r : UsbReq) (g : Req → Req) : State :=
  { s with sched := { s.sched with reqs := modFirst (fun q => q.d = d && q.r = r) g s.sched.reqs } }

/-- The device to which a request goes: a reset, suspend, resume or timeout of a port below a hub is a request to that hub. -/
def UsbReq.ofPort : UsbReq → Bool
  | .portReset _ | .suspend | .resume | .disablePort | .portTimeout _ _ => true
  | _ => false

def Req.target (q : Req) : DevId := if q.r.ofPort then { q.d with path := q.d.path.dropLast } else q.d

/-- The port engine of a root port does it without a request to a device. -/
def Req.onRoot (q : Req) : Bool := q.r.ofPort && q.d.path.isEmpty

/-- A request is for a device: made of it, or about its endpoint. -/
def Req.about (q : Req) (d : DevId) : Bool :=
  q.d = d || (match q.r with | .clearTt _ _ e _ _ => e = d | _ => false)

/-- A CLEAR_TT_BUFFER for an endpoint has not ended (06 R151). -/
def State.ttClearing (s : State) (d : DevId) (ep : Byte) : Bool :=
  s.sched.reqs.any (fun q => match q.r with | .clearTt _ _ e x _ => e = d && x.addr = ep | _ => false)

def UsbReq.clears (t : TenantId) (h : Fin 1024) : UsbReq → Bool
  | .clearTt u g _ _ _ => u = t && g = h
  | _ => false

/-- Requests are given up. -/
def State.dropReqs (s : State) (p : Req → Bool) : State :=
  { s with sched := { s.sched with reqs := s.sched.reqs.filter (fun q => !p q) } }

/-- The request of a device that a predicate picks ends: with success once its last transaction has ended well, and otherwise at any
time, its own timeout included. -/
def State.endReq (s : State) (d : DevId) (p : UsbReq → Bool) (ok : Bool) (act : State → Req → State) : State :=
  match s.reqOf d p with
  | some q =>
    if ok && (q.stage ≠ 3 || q.failed) then s
    else act { s with sched := { s.sched with reqs := s.sched.reqs.erase q } } q
  | none => s

/-- What an operation is: a node of an endpoint or order flow's graph, one of an internal task, a transaction of a request, or the node
that waited on a delay. -/
inductive OpKind where
  | graph | internal | request | delay
  deriving DecidableEq, Repr

def Op.kind (o : Op) : OpKind :=
  if o.usb.isSome then .request else if o.why.isSome then .delay else if 16641 ≤ o.task then .internal else .graph

/-- The device that a delay is for. -/
def DelayFor.dev? : DelayFor → Option DevId
  | .debounce d | .resetRecovery d | .resumeRecovery d | .hubPoll d | .hubPower d | .ocRetry (.hub d _) | .ocQuiet (.hub d _) => some d
  | _ => none

/-- Delays, released or not, that a predicate picks are void. -/
def State.dropDelays (s : State) (p : DelayFor → Bool) : State :=
  { s with sched := { s.sched with wheel := s.sched.wheel.filter (fun d => !p d.why), due := s.sched.due.filter (fun d => !p d.why),
                                   work := s.sched.work.filter (fun x => match x.why with | some w => !p w | none => true) } }

/-- A delay is set, or released and its node has not been placed. -/
def State.hasDelay (s : State) (w : DelayFor) : Bool :=
  s.sched.wheel.any (fun d => d.why = w) || s.sched.due.any (fun d => d.why = w) || s.sched.work.any (fun x => x.why = some w)

/-- Set a delay, in place of an earlier one for the same thing (R226). -/
def State.setDelay (s : State) (task due : Nat) (w : DelayFor) : State :=
  let s := s.dropDelays (fun v => v = w)
  { s with sched := { s.sched with wheel := s.sched.wheel ++ [{ due := due, task := task, why := w }] } }

/-- Queue an item. -/
def State.addItem (s : State) (task : Nat) (c : ItemCode) (arg : Nat := 0) : State :=
  s.addWork { task := task, node := .check, item := some c, arg := arg }

/-- An item of this code (and argument) waits or runs. -/
def State.hasItem (s : State) (c : ItemCode) (arg : Nat := 0) : Bool :=
  s.sched.work.any (fun w => w.item = some c && w.arg = arg) ||
  (allFin 4).any (fun i => match (vget s.sched.cores i).op with
    | some o => o.item = some c && o.arg = arg
    | none => false)

/-- Queue an item unless one waits or runs already. -/
def State.wantItem (s : State) (task : Nat) (c : ItemCode) (arg : Nat := 0) : State :=
  if s.hasItem c arg then s else s.addItem task c arg

/-- The core whose slot holds an item of this code and argument, once MGMT runs. -/
def State.itemCore (s : State) (c : ItemCode) (arg : Nat := 0) : Option CoreId :=
  if (vget s.power.islands Island.mgmt.idx).state = .running then
    (allFin 4).find? (fun i => match (vget s.sched.cores i).op with
      | some o => o.item = some c && o.arg = arg
      | none => false)
  else none

def State.modCore (s : State) (c : CoreId) (f : CoreSt → CoreSt) : State :=
  { s with sched := { s.sched with cores := vmod s.sched.cores c f } }

def State.modWorker (s : State) (w : WorkerId) (f : Worker → Worker) : State :=
  { s with sched := { s.sched with workers := vmod s.sched.workers w f } }

/-! ### Trace (08 R230 to R232) -/

/-- Keep a record in the on-chip buffer, or count it lost (R232). -/
def Trace.push (tr : Trace) (r : BitVec 128) : Trace :=
  if tr.buf.length < 4096 then { tr with buf := tr.buf ++ [r] }
  else if tr.wrap then { tr with buf := tr.buf.drop 1 ++ [r], lost := satAdd tr.lost 1 (2 ^ 32 - 1) }
  else { tr with lost := satAdd tr.lost 1 (2 ^ 32 - 1) }

/-- A record that is dropped counts as lost. -/
def Trace.lose (tr : Trace) : Trace := { tr with lost := satAdd tr.lost 1 (2 ^ 32 - 1) }

/-- One SCHED cycle: the trace unit takes two records of it (R230). -/
def State.cycle (s : State) (act : State → State) : State :=
  let t := act { s with trace := { s.trace with burst := some 0 } }
  { t with trace := { t.trace with burst := none } }

/-- The tenant of a task: of an endpoint flow, the tenant of the handle with that entry; of an order flow, its own. -/
def State.taskTenant (s : State) (task : Nat) : Option TenantId :=
  if task < 16384 then (s.flows.find? (fun f => f.entry = task)).map (fun f => f.t)
  else if h : task - 16384 < 256 then some ⟨task - 16384, h⟩ else none

/-- Write a trace record if R231 keeps it. -/
def State.traceRec (s : State) (kind task pl unit : Nat) (core : Bool) (node detail : Nat) : State :=
  let tr := s.trace
  let ten := s.taskTenant task
  let keep := tr.en && tr.kindEn.getLsbD kind &&
    (match ten with
     | some t => tr.tenants.getLsbD t.val
     | none => if task = 16640 then tr.manager else tr.internal)
  if keep && (match tr.burst with | some n => decide (2 ≤ n) | none => false) then { s with trace := tr.lose }
  else if keep then
    let tr : Trace := { tr with burst := tr.burst.map (fun n => n + 1) }
    let r := s.time.now % 2 ^ 64 + (task % 2 ^ 14) * 2 ^ 64 + pl * 2 ^ 78 + unit * 2 ^ 81 + kind * 2 ^ 86 +
      (match ten with | some t => t.val | none => 0) * 2 ^ 90 + (task / 2 ^ 14) * 2 ^ 98 + b2n core * 2 ^ 99 +
      node * 2 ^ 100 + (detail % 2 ^ 24) * 2 ^ 104
    { s with trace := tr.push (BitVec.ofNat 128 r) }
  else s

/-- An item retires: its core slot empties and an ITEM record is written (08 Table 8.12). -/
def State.endItem (s : State) (c : CoreId) (code : ItemCode) (failed : Bool) : State :=
  let task := match (vget s.sched.cores c).op with | some o => o.task | none => 0
  let pl := match (vget s.sched.cores c).op with | some o => o.pl | none => 0
  (s.modCore c (fun x => { x with op := none })).traceRec 8 task pl c.val true 8 (code.code + b2n failed * 2 ^ 16)

/-! ### Event log (14 R372) and fault records (15 R394) -/

/-- Peat is MOUNTED or DEGRADED. -/
def State.peatUp (s : State) : Bool := s.peat.state = .mounted || s.peat.state = .degraded

/-- The log takes events: Peat up, or a format under way. -/
def State.logOpen (s : State) : Bool :=
  s.peatUp || (s.peat.state = .absent && s.peat.reason = .unformatted && s.peat.formatting)

/-- Queue an event record, or drop and count it (R372). SVC EP1 LOG_NEW follows when PEAT_LOG_NEXT passes the cursor
(16 R406). The third waiting event makes a LOG_WRITE ready. -/
def State.logEvent (s : State) (code : Nat) (tenant : Option TenantId) (device : Option Nat) (data : BitVec 256) : State :=
  if s.logOpen && s.peat.waiting.length < 256 then
    let e : LogEv := { index := s.peat.logNext, time := s.time.now, mount := s.peat.life.mounts, code := code,
                       tenant := tenant, device := device, data := data }
    let s := { s with peat := { s.peat with waiting := s.peat.waiting ++ [e], logNext := s.peat.logNext + 1 },
                      svc := if s.svc.cursor ≤ s.peat.logNext then { s.svc with ep1 := s.svc.ep1 ||| 2 } else s.svc }
    if 3 ≤ s.peat.waiting.length then s.wantItem peatTask .logWrite else s
  else { s with peat := { s.peat with dropped := satAdd s.peat.dropped 1 65535 } }

/-- Write a fault record and its Peat event: class, unit, owning tenant, outcome, WHERE, ns to recover (Table 15.6). -/
def State.faultRecord (s : State) (cls : Fin 9) (unit : Nat) (owner : Option TenantId) (outcome wher ns : Nat) : State :=
  let n := satAdd (vget s.faults.counts cls) 1 (2 ^ 32 - 1)
  let w1 := pack [(cls.val + 1, 0), (unit, 8), (match owner with | some t => t.val | none => 0, 16),
                  (b2n owner.isSome, 24), (outcome, 32)]
  let r : FaultRec := { w0 := BitVec.ofNat 64 (s.time.now - ns), w1 := w1, w2 := BitVec.ofNat 64 wher,
                        w3 := pack [(Nat.min ns (2 ^ 32 - 1), 0), (n, 32)] }
  let fs : Faults := { s.faults with counts := vset s.faults.counts cls n }
  let fs : Faults := if fs.records.length < 64 then { fs with records := fs.records ++ [r] }
            else { fs with dropped := satAdd fs.dropped 1 255 }
  { s with faults := fs }.logEvent 4 owner none (r.w3 ++ r.w2 ++ r.w1 ++ r.w0)

/-! ### Free values -/

/-- Draw a free Bool (notes/assumptions/8.md). -/
def State.drawBool (s : State) : Bool × State := (Config.freeBool s.free, { s with free := s.free + 1 })

/-- Draw 256 bits from the random source. -/
def State.drawRandom (s : State) : BitVec 256 × State := (Config.random s.free, { s with free := s.free + 1 })

/-! ### Flows and devices -/

def State.flow? (s : State) (t : TenantId) (h : Fin 1024) : Option Flow :=
  s.flows.find? (fun f => f.t = t && f.h = h)

def State.modFlow (s : State) (t : TenantId) (h : Fin 1024) (g : Flow → Flow) : State :=
  { s with flows := s.flows.map (fun f => if f.t = t && f.h = h then g f else f) }

def State.dev? (s : State) (d : DevId) : Option Dev := s.devs.find? (fun x => x.id = d)

def State.modDev (s : State) (d : DevId) (g : Dev → Dev) : State :=
  { s with devs := s.devs.map (fun x => if x.id = d then g x else x) }

/-- The device with a locator: root port × 128 + address, address not 0 (06 R156, R173). -/
def State.devAt (s : State) (loc : Nat) : Option Dev :=
  if loc % 128 = 0 then none else s.devs.find? (fun d => d.id.port.val * 128 + d.addr = loc && d.addr ≠ 0)

def Dev.loc (d : Dev) : Nat := d.id.port.val * 128 + d.addr

/-- The device of a tenant's virtual port. -/
def State.vpDev (s : State) (t : TenantId) (vp : Nat) : Option Dev :=
  s.devs.find? (fun d => d.st = .granted && d.tenant = some t && d.vp = vp)

def State.modPort (s : State) (p : PortId) (g : Port → Port) : State := { s with ports := vmod s.ports p g }

/-- Operations that occupy worker slots, and those of fenced workers that will again. -/
def State.slotOps (s : State) : List Op :=
  (allFin 32).flatMap (fun w => (vget s.sched.workers w).cur.toList ++ (vget s.sched.workers w).next.toList) ++
    s.sched.redo.map (fun r => r.1)

/-- A FETCH of the owner's order ring is in a slot. -/
def State.fetchPlaced (s : State) (f : Fn) : Bool :=
  s.slotOps.any (fun o => o.task = orderTask f && o.node = .fetch && decide (0 < o.arg))

/-- RING_IDLE: the ring is disabled, and no order is in flight (04 GBL_STATUS, 05 T_STATUS) or being fetched. -/
def State.ringIdle (s : State) (f : Fn) : Bool := (s.rings f).idle && !s.fetchPlaced f

/-- A FETCH of the owner's order ring that was placed before a reset of the rings takes nothing. -/
def Op.unfetch (task : Nat) (o : Op) : Op := if o.task = task && o.node = .fetch then { o with arg := 0 } else o

/-- Every FETCH of the owner's order ring in a slot takes nothing any more. -/
def State.dropFetches (s : State) (f : Fn) : State :=
  { s with sched := { s.sched with
      workers := s.sched.workers.map (fun (w : Worker) =>
        { w with cur := w.cur.map (Op.unfetch (orderTask f)), next := w.next.map (Op.unfetch (orderTask f)) }),
      redo := s.sched.redo.map (fun r => (r.1.unfetch (orderTask f), r.2)) } }

/-- A transaction of the flow is in progress: its ISSUE is in a current slot. -/
def State.inTransaction (s : State) (entry : Nat) : Bool :=
  (allFin 32).any (fun w => match (vget s.sched.workers w).cur with
    | some o => o.task = entry && o.node = .issue
    | none => false)

end Sys2Proof.Machine
end

