-- ==== Sys2Proof/Machine/Crypto.lean ====
section
/-! DEFINITION. The cryptography of chapter 10 over an opaque SHA-256, AES-256 block and certificate parser: HMAC, HKDF, P-256, ECDSA with
RFC 6979, AES key wrap, AES-GCM, path validation, the unit's identity (10 R266 to R272, R285, R416). The standards that the spec names are
PRESUMED as they are published (notes/assumptions/10.md). -/

namespace Sys2Proof.Machine

/-! ### Bytes -/

/-- n big-endian bytes of a number. -/
def beBytes (n v : Nat) : List Byte := (natBytes n v).reverse

/-- The bytes of an ASCII label, without a terminating zero (10 R267). -/
def ascii (s : String) : List Byte := s.toList.map (fun c => BitVec.ofNat 8 c.toNat)

/-- Two strings combined byte by byte. -/
def xorBytes (a b : List Byte) : List Byte := List.zipWith (fun x y => x ^^^ y) a b

/-- Digests are held with their first byte in [7:0]. -/
def digestOf (l : List Byte) : BitVec 256 := BitVec.ofNat 256 (leNat l)

/-! ### SHA-256, HMAC and HKDF (FIPS 180-4, RFC 2104, RFC 5869) -/

def sha (l : List Byte) : List Byte := digestBytes (Config.sha256 l)

def hmac (key msg : List Byte) : List Byte :=
  let k := if 64 < key.length then sha key else key
  let pad := fun (b : Byte) => (k ++ List.replicate (64 - k.length) 0).map (fun x => x ^^^ b)
  sha (pad 0x5C ++ sha (pad 0x36 ++ msg))

def hkdfExtract (salt ikm : List Byte) : List Byte := hmac salt ikm

/-- The blocks T(1) to T(k) of HKDF-Expand: the last of them, and all in order. -/
def hkdfBlocks (prk info : List Byte) : Nat → List Byte × List Byte
  | 0 => ([], [])
  | k + 1 =>
    let r := hkdfBlocks prk info k
    let t := hmac prk (r.1 ++ info ++ [BitVec.ofNat 8 (k + 1)])
    (t, r.2 ++ t)

def hkdfExpand (prk info : List Byte) (n : Nat) : List Byte := (hkdfBlocks prk info ((n + 31) / 32)).2.take n

/-! ### P-256 (FIPS 186-5, SP 800-186) -/

/-- The order of P-256 and its base point. -/
def p256Order : Nat := 0xffffffff00000000ffffffffffffffffbce6faada7179e84f3b9cac2fc632551
def p256Base : Nat × Nat :=
  (0x6b17d1f2e12c4247f8bce6e563a440f277037d812deb33a0f4a13945d898c296,
   0x4fe342e2fe1a7f9b8ee7eb4a7c0f9e162bce33576b315ececbb6406837bf51f5)

/-- b to an exponent of at most k bits, modulo m. -/
def powMod (b m : Nat) : Nat → Nat → Nat
  | 0, _ => 1 % m
  | k + 1, e => let h := powMod (b * b % m) m k (e / 2)
    if e % 2 = 1 then b * h % m else h

/-- The inverse modulo a prime of 256 bits. -/
def invMod (x m : Nat) : Nat := powMod (x % m) m 256 (m - 2)

/-- The sum of two points; none is the point at infinity. -/
def ecAdd : Option (Nat × Nat) → Option (Nat × Nat) → Option (Nat × Nat)
  | none, q => q
  | p, none => p
  | some (x, y), some (u, v) =>
    let m := p256Prime
    if x = u && (y + v) % m = 0 then none
    else
      let l := if x = u then (3 * x * x + (m - 3)) * invMod (2 * y) m % m else (v + m - y) * invMod (u + m - x) m % m
      let a := (l * l + 2 * m - x - u) % m
      some (a, (l * (x + m - a) + m - y) % m)

/-- A point times a scalar of at most k bits. -/
def ecMul (p : Option (Nat × Nat)) : Nat → Nat → Option (Nat × Nat)
  | 0, _ => none
  | k + 1, e => let h := ecMul (ecAdd p p) k (e / 2)
    if e % 2 = 1 then ecAdd p h else h

/-- X ‖ Y, big-endian. -/
def pointBytes : Option (Nat × Nat) → List Byte
  | some (x, y) => beBytes 32 x ++ beBytes 32 y
  | none => List.replicate 64 0

/-- The point that X ‖ Y spell. -/
def pointOf (l : List Byte) : Option (Nat × Nat) := some (beNat (l.take 32), beNat (l.drop 32))

/-- A secret key in the range of the order from drawn bits. -/
def scalarOf (r : BitVec 256) : Nat := r.toNat % (p256Order - 1) + 1

/-- The ephemeral public key 0x04 ‖ X ‖ Y of a drawn secret key. -/
def ephPublic (r : BitVec 256) : List Byte := 4 :: pointBytes (ecMul (some p256Base) 256 (scalarOf r))

/-- Z: the X coordinate of the product of a drawn secret key and the point 0x04 ‖ X ‖ Y (10 R267). -/
def ecdh (r : BitVec 256) (p : List Byte) : List Byte :=
  match ecMul (pointOf (p.drop 1)) 256 (scalarOf r) with
  | some (x, _) => beBytes 32 x
  | none => List.replicate 32 0

/-- ECDSA verification of a digest: public key X ‖ Y, signature r ‖ s. -/
def ecdsaVerify (key : List Byte) (digest : BitVec 256) (sig : List Byte) : Bool :=
  let r := beNat (sig.take 32)
  let s := beNat (sig.drop 32)
  let w := invMod s p256Order
  let z := beNat (digestBytes digest)
  sig.length = 64 && validPoint (4 :: key) && 1 ≤ r && r < p256Order && 1 ≤ s && s < p256Order &&
  (match ecAdd (ecMul (some p256Base) 256 (z * w % p256Order)) (ecMul (pointOf key) 256 (r * w % p256Order)) with
   | some (x, _) => x % p256Order = r
   | none => false)

/-! ### The unit's identity (10 R285, R416) -/

/-- The unit's secret key. -/
def unitKey : Nat := Config.unitSecret % (p256Order - 1) + 1

/-- r ‖ s with a per-signature value, unless r or s comes out 0. -/
def signWith (z k : Nat) : Option (List Byte) :=
  match ecMul (some p256Base) 256 k with
  | some (x, _) =>
    let r := x % p256Order
    let s := invMod k p256Order * (z + r * unitKey) % p256Order
    if r = 0 || s = 0 then none else some (beBytes 32 r ++ beBytes 32 s)
  | none => none

/-- RFC 6979 3.2 step h: candidates for the per-signature value until one serves; the number of tries is bounded
(notes/assumptions/10.md). -/
def signTry (z : Nat) : Nat → List Byte → List Byte → List Byte
  | 0, _, v => v ++ v
  | n + 1, k, v =>
    let v := hmac k v
    let c := beNat v
    match (if 1 ≤ c && c < p256Order then signWith z c else none) with
    | some l => l
    | none =>
      let k := hmac k (v ++ [0])
      signTry z n k (hmac k v)

/-- The unit key's signature of a digest, r ‖ s, 64 bytes (10 R416). -/
def unitSign (digest : BitVec 256) : List Byte :=
  let z := beNat (digestBytes digest)
  let seed := beBytes 32 unitKey ++ beBytes 32 (z % p256Order)
  let v := List.replicate 32 (1 : Byte)
  let k := hmac (List.replicate 32 0) (v ++ [0] ++ seed)
  let v := hmac k v
  let k := hmac k (v ++ [1] ++ seed)
  signTry z 64 k (hmac k v)

/-- The unit certificate, 1 to 1,024 bytes, its issuing chain, at most 7,168, and the public key, 64 (10 R285 and the ID_ registers). -/
def unitCertificate : List Byte := (List.range (Config.certLength % 1024 + 1)).map Config.certByte
def unitChain : List Byte := (List.range (Config.chainLength % 7169)).map Config.chainByte
def unitPublicKey : List Byte := (List.range 64).map Config.publicByte

/-! ### X.509 (10 R268) -/

/-- The public key X ‖ Y of a certificate; none without a P-256 key. -/
def certKey (l : List Byte) : List Byte := match Config.parseCert l with | some c => c.key | none => []

/-- The bytes parse as an X.509 v3 CA certificate with a P-256 key (03 Table 3.15). -/
def caCertificate (l : List Byte) : Bool :=
  match Config.parseCert l with | some c => c.ca && validPoint (4 :: c.key) | none => false

/-- c is issued by i: name and signature; i may sign certificates, with `below` CA certificates under it (RFC 5280). -/
def Cert.issuedBy (c i : Cert) (below : Nat) : Bool :=
  c.issuer = i.subject && i.mayCertify && (match i.pathLen with | some n => decide (below ≤ n) | none => true) &&
  ecdsaVerify i.key (Config.sha256 c.tbs) c.sig

/-- Each certificate is issued by the next; the first has `below` CA certificates under it. -/
def chainLinks (below : Nat) : List Cert → Bool
  | c :: i :: l => c.issuedBy i below && chainLinks (below + 1) (i :: l)
  | _ => true

/-- What 10 R268 asks of every certificate of a chain. -/
def Cert.sound (c : Cert) : Bool := c.ecdsaSha && !c.unknownCritical

/-- Path validation of a chain, leaf first, to one of the anchors, with the choices of 10 R268. -/
def chainValid (certs anchors : List (List Byte)) : Bool :=
  let l := certs.filterMap Config.parseCert
  match l, l.getLast?, certs.getLast? with
  | leaf :: rest, some top, some topBytes =>
    l.length = certs.length && l.all Cert.sound && rest.all (fun c => c.ca) && chainLinks 0 l &&
    validPoint (4 :: leaf.key) && leaf.maySign &&
    anchors.any (fun a => a = topBytes ||
      (match Config.parseCert a with | some r => top.issuedBy r rest.length | none => false))
  | _, _, _ => false

/-! ### AES key wrap and AES-GCM (RFC 3394, SP 800-38D) -/

/-- The 16 bytes that AES-256 makes of a block (FIPS 197). -/
def aes (key block : List Byte) : List Byte := natBytes 16 (Config.aesBlock key block).toNat

/-- One step of the wrap: A and the registers after step t, which works on register t - 1 mod 4. -/
def wrapStep (kek : List Byte) (a : List Byte × List (List Byte)) (t : Nat) : List Byte × List (List Byte) :=
  let i := (t - 1) % 4
  let b := aes kek (a.1 ++ a.2.getD i [])
  (xorBytes (b.take 8) (beBytes 8 t), a.2.set i (b.drop 8))

/-- The wrapped form of 32 bytes: 40 bytes (10 R271). -/
def keyWrap (kek key : List Byte) : List Byte :=
  let r := ((List.range 24).map (fun i => i + 1)).foldl (wrapStep kek)
    (List.replicate 8 0xA6, (List.range 4).map (fun i => (key.drop (8 * i)).take 8))
  r.1 ++ r.2.flatten

/-- A product in the field of GHASH. -/
def ghashMul (x y : BitVec 128) : BitVec 128 :=
  ((List.range 128).foldl (fun (a : BitVec 128 × BitVec 128) i =>
    (if x.getLsbD (127 - i) then a.1 ^^^ a.2 else a.1,
     if a.2.getLsbD 0 then a.2 >>> 1 ^^^ (0xE1 <<< 120) else a.2 >>> 1)) (0, y)).1

/-- The 16-byte blocks of a string, the last filled up with zeros. -/
def blocks16 (l : List Byte) : List (List Byte) :=
  (List.range ((l.length + 15) / 16)).map (fun i =>
    let b := (l.drop (16 * i)).take 16
    b ++ List.replicate (16 - b.length) 0)

def ghash (h : BitVec 128) (l : List (List Byte)) : List Byte :=
  beBytes 16 (l.foldl (fun (a : BitVec 128) b => ghashMul (a ^^^ BitVec.ofNat 128 (beNat b)) h) 0).toNat

/-- Counter mode from the block after the nonce's first. -/
def gcmCtr (key nonce text : List Byte) : List Byte :=
  xorBytes text ((List.range ((text.length + 15) / 16)).flatMap (fun i => aes key (nonce ++ beBytes 4 (i + 2))))

/-- The 16-byte tag of a ciphertext with its additional data. -/
def gcmTag (key nonce aad ct : List Byte) : List Byte :=
  let h := BitVec.ofNat 128 (beNat (aes key (List.replicate 16 0)))
  xorBytes (aes key (nonce ++ beBytes 4 1))
    (ghash h (blocks16 aad ++ blocks16 ct ++ [beBytes 8 (8 * aad.length) ++ beBytes 8 (8 * ct.length)]))

/-! ### Keys and units of a pipe (10 R270, R272) -/

/-- Key and salt of a direction at an epoch: 32 and 4 bytes. -/
def sealKey (prk : List Byte) (isIn : Bool) (ep : Byte) (epoch : Nat) : List Byte × List Byte :=
  let l := hkdfExpand prk (ascii "tirael1 key" ++ [if isIn then 1 else 0, ep, BitVec.ofNat 8 epoch]) 36
  (l.take 32, l.drop 32)

/-- The header: epoch in [63:56], sequence in [55:0], big-endian. -/
def unitHeader (epoch seq : Nat) : List Byte := BitVec.ofNat 8 epoch :: beBytes 7 seq

/-- The additional authenticated data. -/
def unitAad (header : List Byte) (ep : Byte) (n : Nat) : List Byte := header ++ [ep, 0, 0, 0] ++ beBytes 4 n

/-- A seal unit: header, ciphertext, tag. -/
def buildUnit (prk : List Byte) (isIn : Bool) (ep : Byte) (epoch seq : Nat) (text : List Byte) : List Byte :=
  let k := sealKey prk isIn ep epoch
  let h := unitHeader epoch seq
  let ct := gcmCtr k.1 (k.2 ++ h) text
  h ++ ct ++ gcmTag k.1 (k.2 ++ h) (unitAad h ep text.length) ct

/-- Epoch and sequence of a received unit's header. -/
def unitEpoch (u : List Byte) : Nat := beNat (u.take 1)
def unitSeq (u : List Byte) : Nat := beNat ((u.drop 1).take 7)

/-- The tag of a received unit verifies under the keys of the epoch in its header. -/
def unitTagOk (prk : List Byte) (isIn : Bool) (ep : Byte) (u : List Byte) : Bool :=
  let k := sealKey prk isIn ep (unitEpoch u)
  let h := u.take 8
  let ct := (u.drop 8).take (u.length - 24)
  24 ≤ u.length && u.drop (u.length - 16) = gcmTag k.1 (k.2 ++ h) (unitAad h ep ct.length) ct

end Sys2Proof.Machine
end

