-- ==== Sys2Proof/Machine/Islands.lean ====
section
/-! DEFINITION. Islands and the culverts between them (01 R14 to R22; 13 R326, R331, R334): what an island is doing, requests held in
front of one that does not run, and the way a host access takes (01 Table 1.4). -/

namespace Sys2Proof.Machine

/-- An island is clocked and powered. -/
def IslandSt.active (i : IslandSt) : Bool := i.state ≠ .gated && i.state ≠ .retention

/-- An island has reported ready: it neither sleeps nor wakes. -/
def IslandSt.ready (i : IslandSt) : Bool := i.active && i.state ≠ .waking

def allIslands : List Island :=
  [.aon, .hostlink, .func, .sched, .lode, .worka, .workb, .seal, .ssport, .hsport, .svc, .mgmt, .nvm, .test]

def State.island (s : State) (i : Island) : IslandSt := vget s.power.islands i.idx

/-- The island acts on requests. -/
def State.running (s : State) (i : Island) : Bool := (s.island i).state = .running

/-- An island restarts after loss of its clock (15 R383). -/
def State.restarting (s : State) (i : Island) : Bool := (s.island i).state = .restarting

def State.modIsland (s : State) (i : Island) (g : IslandSt → IslandSt) : State :=
  { s with power := { s.power with islands := vmod s.power.islands i.idx g } }

/-- An island changes its state; the time that it was gated or in retention is counted (13 R346). -/
def State.moveIsland (s : State) (i : Island) (st : IslandState) : State :=
  let x := s.island i
  let y := { x with state := st }
  let up : Bool := !x.active && y.active
  { s with power := { s.power with
      islands := vset s.power.islands i.idx (if x.active then { y with since := s.power.clock } else y),
      gatedNs := if up then vmod s.power.gatedNs i.idx (fun n => n + (s.power.clock - x.since)) else s.power.gatedNs } }

/-- An exit from LP2 or LP3, or from an entry under way, starts: what sleeps wakes. -/
def State.startExit (s : State) (first : Nat) : State :=
  let s : State := { s with power := { s.power with first := first, last := s.power.lp, entering := false, exiting := true,
                                                    wakeTimer := none } }
  (allIslands.filter (fun i => !(s.island i).active)).foldl (fun (a : State) i => a.moveIsland i .waking) s

/-- A request that finds HOSTLINK asleep needs the link, whose exit from L1 is wake source 5 (13 Table 13.2, Table 13.5). -/
def State.linkWake (s : State) : State :=
  let p := s.power
  let s : State := { s with power := { p with causes := p.causes ||| 0x20, latched := if p.entering then p.latched ++ [(5, 0)] else p.latched } }
  s.startExit 5

/-- An island that sleeps is woken for a request: alone in LP1 and LP2, with an exit in LP3 or during entry (R331, R334); HOSTLINK
never alone, for the link leaves L1 first. -/
def State.rouse (s : State) (i : Island) : State :=
  if (s.island i).active then s
  else if i = .hostlink then (s.traceRec 9 powerTask 0 0 false 5 i.idx.val).linkWake
  else
    let s := s.traceRec 9 powerTask 0 0 false 15 i.idx.val
    if s.power.entering || s.power.lp = .lp3 then s.startExit 0xF else s.moveIsland i .waking

/-- A request that reaches an island that does not run is held, and wakes it (01 R17 to R19). The first of its channel stands in the
culvert, those behind it wait for its acknowledge (R16). -/
def State.hold (s : State) (i : Island) (h : Held) : State :=
  (s.modIsland i (fun x => { x with held := x.held ++ [h] })).rouse i

/-- The first island of a way that does not run, with the one before it. -/
def State.blocked (s : State) : Island → List Island → Option (Island × Island)
  | _, [] => none
  | p, i :: l => if s.running i then State.blocked s i l else some (p, i)

/-- A request takes a way: it is held where the way is blocked, else it is acted on. -/
def State.front (s : State) (way : List Island) (q : CulvertReq) (go : State) : State :=
  match s.blocked .hostlink way with
  | some (src, i) => ({ s with resp := none } : State).hold i { src := src, req := q }
  | none => go

/-- The request of a unit's slot is held somewhere. -/
def State.holds (s : State) (q : CulvertReq) : Bool := allIslands.any (fun i => (s.island i).held.any (fun h => h.req = q))

/-- The work of a slot, from its unit's island on, goes a way: it is held, once, where the way is blocked, else it goes on. -/
def State.passOp (s : State) (u : UnitId) (i : Island) (way : List Island) (go : State) : State :=
  match s.blocked i way with
  | some (src, j) => if s.holds (.slot u) then s else s.hold j { src := src, req := .slot u }
  | none => go

/-- The island of a unit. -/
def workerIsland (w : WorkerId) : Island := if w.val < 16 then .worka else .workb

def UnitId.island : UnitId → Island
  | .worker w => workerIsland w
  | .core _ => .mgmt

/-- The way of a request of the host that FUNC answers itself: configuration space and MSI-X tables. -/
def hostWay : List Island := [.hostlink, .func]

/-- The way of an access to a register (Table 1.4): SCHED for doorbells, scheduling registers and Keeper time, LODE for the endpoint
table, the port engines for PRT_ (notes/assumptions/106.md), MGMT for the rest, which forwards SVC_ registers to SVC. -/
def regWay (f : Fn) (off : Nat) : List Island :=
  hostWay ++ (match f with
    | .pf0 =>
      if off < 0x10000 then if 0x100 ≤ off && off < 0x130 || off = 0x210 || off = 0x228 then [.sched] else [.mgmt]
      else match off / 65536 with
        | 2 | 3 => [.sched]
        | 4 => [.hsport, .ssport]
        | 10 => if off % 65536 < 0x100 then [.mgmt, .svc] else [.mgmt]
        | b => if 16 ≤ b && b < 32 then [.lode] else [.mgmt]
    | .vf _ => if off = 0x18 || off = 0x110 || off = 0x128 || (0x2000 ≤ off && off < 0x4000) then [.sched] else [.mgmt])

end Sys2Proof.Machine
end

