-- ==== Sys2Proof/Machine/Regs.lean ====
section
/-! DEFINITION. Register access over the host link (00 R4, R5; 04 R87 to R90, Table 4.6): the outcomes that every register
shares. A register itself is its current value and what an accepted write or a read of a half does. -/

namespace Sys2Proof.Machine

/-- A register without write side effects, one with them (R87), an offset that takes no write: an EPT_ word; or one that ignores every
write without ACCESS_ERR: of a VP that holds no device (05 R136). -/
inductive RegKind where
  | plain | side | window | silent
  deriving DecidableEq, Repr

/-- A register: its kind, its RSV fields, its value as a read returns it, what an accepted write does, and what a read of either half
clears. -/
structure Reg where
  kind : RegKind := .plain
  rsv : List (Nat × Nat) := []
  val : Word := 0
  eff : Word → State → State := fun _ s => s
  lo : State → State := id
  hi : State → State := id

/-- A request to the function's memory space completes as Unsupported Request: Memory Space Enable is 0, the function is
in D3hot, or it does not exist (R90). -/
def State.unsupported (s : State) (f : Fn) : Bool :=
  !s.memEn f || (s.fn f).d3 || (match f with | .pf0 => false | .vf t => !(s.tenant t).vf)

/-- The function is the VF of a FENCED tenant (R90). -/
def State.fencedFn (s : State) : Fn → Bool
  | .pf0 => false
  | .vf t => (s.tenant t).st = .fenced

/-- Any access clears the latch of R89. -/
def State.dropLatch (s : State) (f : Fn) : State := s.modFn f (fun p => { p with timeLatch := none })

/-- The value an accepted write carries: the addressed half over the current value, or all of it (Table 4.6). -/
def mergeHalf (a : WrAcc) (cur v : Word) : Word :=
  match a with
  | .low => (cur.extractLsb' 32 32) ++ (v.extractLsb' 0 32)
  | .high => (v.extractLsb' 0 32) ++ (cur.extractLsb' 0 32)
  | _ => v

/-- The write reaches the register (Table 4.6). -/
def accepts (k : RegKind) (a : WrAcc) : Bool :=
  match k, a with
  | .window, _ => false
  | .silent, _ => false
  | _, .full => true
  | .plain, .low => true
  | .plain, .high => true
  | _, _ => false

/-- The fields [hi:lo] of a list as a mask. -/
def masks (l : List (Nat × Nat)) : Word := l.foldl (fun m p => m ||| bits p.1 p.2) 0

/-- The way of an access to the register at an offset: FUNC answers it itself while the function is closed, or FENCED (R90). -/
def State.wayTo (s : State) (f : Fn) (off : Nat) : List Island :=
  if s.unsupported f || (s.fencedFn f && off ≠ 0x8) then hostWay else regWay f off

/-- A write that reaches a register with these RSV fields: Table 4.6, then the register's own effect; a nonzero value in an RSV field
sets ACCESS_ERR (00 Table 0.4). -/
def State.regAccept (s : State) (f : Fn) (k : RegKind) (rsv cur : Word) (a : WrAcc) (v : Word)
    (eff : Word → State → State) : State :=
  if s.unsupported f then s.answer .ur
  else if s.fencedFn f then (s.dropLatch f).answer .ok
  else if k = .silent then (s.dropLatch f).answer .ok
  else if accepts k a then
    let m := mergeHalf a cur v
    let t := eff m (s.dropLatch f)
    (if m &&& rsv = 0 then t else t.accessErr f).answer .ok
  else ((s.dropLatch f).accessErr f).answer .ok

/-- A write of the register at an offset; it is held on its way to an island that does not run (R91). -/
def State.regWrite (s : State) (f : Fn) (off : Nat) (k : RegKind) (rsv cur : Word) (a : WrAcc) (v : Word)
    (eff : Word → State → State) : State :=
  s.front (s.wayTo f off) (.access (.write f off a v)) (s.regAccept f k rsv cur a v eff)

/-- The completion of a read of a register with this value. -/
def readResp (h : RdHalf) (v : Word) : Resp :=
  match h with
  | .full => .data v
  | .low => .half (v.extractLsb' 0 32)
  | .high => .half (v.extractLsb' 32 32)

/-- The read covers the low, or the high, half. -/
def RdHalf.lo : RdHalf → Bool
  | .high => false
  | _ => true
def RdHalf.hi : RdHalf → Bool
  | .low => false
  | _ => true

/-- The read of a half as an access. -/
def RdHalf.access (h : RdHalf) (f : Fn) (off : Nat) : Access :=
  match h with
  | .full => .read f off 8
  | .low => .read f off 4
  | .high => .read f (off + 4) 4

/-- A read that reaches a register: the side effects are those of the halves read (R5); a FENCED VF reads 0 but for T_STATUS (R90). -/
def State.regTake (s : State) (f : Fn) (off : Nat) (h : RdHalf) (v : Word) (lo hi : State → State) : State :=
  if s.unsupported f then s.answer .ur
  else if s.fencedFn f && off ≠ 0x8 then (s.dropLatch f).answer (readResp h 0)
  else
    let t := s.dropLatch f
    let t := if h.lo then lo t else t
    (if h.hi then hi t else t).answer (readResp h v)

/-- A read of the register at an offset; it is held on its way to an island that does not run (R91). -/
def State.regRead (s : State) (f : Fn) (off : Nat) (h : RdHalf) (v : Word) (lo hi : State → State) : State :=
  s.front (s.wayTo f off) (.access (h.access f off)) (s.regTake f off h v lo hi)

/-- A read, and a write, of a register. -/
def State.readReg (s : State) (f : Fn) (off : Nat) (h : RdHalf) (r : Reg) : State := s.regRead f off h r.val r.lo r.hi

def State.writeReg (s : State) (f : Fn) (off : Nat) (a : WrAcc) (v : Word) (r : Reg) : State :=
  s.regWrite f off r.kind (masks r.rsv) r.val a v r.eff

/-- Keep a state when a write is not accepted: ignored, with ACCESS_ERR of the function. -/
def State.refuseWrite (s : State) (f : Fn) : State := s.accessErr f

end Sys2Proof.Machine
end

