-- ==== Sys2Proof/Machine/Flows.lean ====
section
/-! DEFINITION. Endpoint flows: TD fields, transfers and their bytes, halts, abrupt ends, submission order and release
(05 R110 to R125, 08 R220 to R224). -/

namespace Sys2Proof.Machine

/-! ### TD fields (05 Table 5.1) -/

def Td.w (d : Td) (i : Nat) : Word := d.words.getD i 0
def Td.type (d : Td) : Nat := field (d.w 0) 0 8
def Td.ioc (d : Td) : Bool := (d.w 0).getLsbD 8
def Td.isp (d : Td) : Bool := (d.w 0).getLsbD 9
def Td.chain (d : Td) : Bool := (d.w 0).getLsbD 10
def Td.sealed (d : Td) : Bool := (d.w 0).getLsbD 11
def Td.fence (d : Td) : Bool := (d.w 0).getLsbD 12
def Td.len (d : Td) : Nat := field (d.w 0) 32 24
def Td.buffer (d : Td) : Word := d.w 1
def Td.cookie (d : Td) : Word := d.w 2
def Td.timeoutUs (d : Td) : Nat := field (d.w 4) 0 32
def Td.service (d : Td) : Nat := (d.w 5).toNat

/-- The TD ends its transfer: a NORMAL without CHAIN, a STATUS, an ISO or a NOOP (05 "Transfers"). -/
def Td.isEnd (d : Td) : Bool :=
  (d.type = 1 && !d.chain) || d.type = 4 || d.type = 5 || d.type = 6

/-- The bytes of the transfer's data that the TD holds. -/
def Td.dataLen (d : Td) : Nat := if d.type = 1 || d.type = 3 || d.type = 5 then d.len else 0

/-- A setup's fields (W3, byte 0 in [7:0]). -/
def Td.reqType (d : Td) : Nat := field (d.w 3) 0 8
def Td.request (d : Td) : Nat := field (d.w 3) 8 8
def Td.wValue (d : Td) : Nat := field (d.w 3) 16 16
def Td.wIndex (d : Td) : Nat := field (d.w 3) 32 16
def Td.wLength (d : Td) : Nat := field (d.w 3) 48 16

/-! ### Flow facts -/

def Flow.isIn (f : Flow) : Bool := f.ep.addr.getLsbD 7
def Flow.iso (f : Flow) : Bool := f.ep.kind = .iso
def Flow.periodic (f : Flow) : Bool := f.ep.kind = .iso || f.ep.kind = .interrupt
def Flow.control (f : Flow) : Bool := f.ep.kind = .control

/-- A tenant's share in force, or the empty one. -/
def State.share (s : State) (t : TenantId) : ShareRec := (s.tenant t).share.getD {}

/-- PL0 to PL7 of the flow before any yellow TD, and the level of its task (08 Table 8.4). -/
def State.flowLevel (s : State) (f : Flow) : Nat := Nat.min 7 ((s.share f.t).base + f.plOff)

def State.taskLevel (s : State) (f : Flow) : Nat := if f.periodic then Nat.min (s.flowLevel f) 1 else s.flowLevel f

/-- The TDs of the flow that have not retired. -/
def Flow.live (f : Flow) : List Td := f.tds.filter (fun d => d.stage ≠ .retired)

/-- The TDs of a transfer that are still in flight, in ring order. -/
def Flow.tdsOf (f : Flow) (x : Xfer) : List Td := f.tds.filter (fun d => d.x = x.id)

/-- The SETUP TD of a control transfer. -/
def Flow.setupOf (f : Flow) (x : Xfer) : Option Td := (f.tdsOf x).find? (fun d => d.type = 2)

/-- The data direction of a transfer: its setup's (R117), or the endpoint's. -/
def Flow.xIn (f : Flow) (x : Xfer) : Bool :=
  if f.control then (match f.setupOf x with | some d => 128 ≤ d.reqType | none => false) else f.isIn

/-- A TD has passed CHECK and lies before the TD that ended its transfer at CHECK, if one did. -/
def Xfer.passed (x : Xfer) (d : Td) : Bool :=
  d.stage ≠ .fetched && (match x.stop with | some n => d.slot < n | none => true)

/-- Data bytes of the transfer, from its start, whose TDs have passed CHECK. -/
def Flow.known (f : Flow) (x : Xfer) : Nat :=
  x.left + (((f.tdsOf x).takeWhile x.passed).map Td.dataLen).sum

/-- Every TD of the transfer, up to its end TD, has passed CHECK. -/
def Flow.whole (f : Flow) (x : Xfer) : Bool := x.closed && x.stop.isNone && (f.tdsOf x).all x.passed

/-- The offset of a TD in its transfer's byte stream. -/
def Flow.offset (f : Flow) (x : Xfer) (d : Td) : Nat :=
  x.left + (((f.tdsOf x).filter (fun e => e.slot < d.slot)).map Td.dataLen).sum

/-- Plaintext bytes of an OUT transfer that the peripheral acknowledged: on a sealed pipe those of whole units (10 R275). -/
def Xfer.acked (x : Xfer) : Nat :=
  if x.unit = 0 then x.wire
  else if x.wire = x.plain + 24 * x.units then x.plain
  else x.wire / (x.unit + 24) * x.unit

/-- BYTES of a transfer's event (R118). -/
def Flow.bytesOf (f : Flow) (x : Xfer) : Nat := if f.xIn x then x.moved else x.acked

/-- A seal unit is partly sent or partly received (10 R275): the last unit of a stream ends with its short packet or with what is sealed. -/
def Flow.partUnit (f : Flow) (x : Xfer) : Bool :=
  x.unit ≠ 0 && !f.iso && x.wire % (x.unit + 24) ≠ 0 &&
  (if f.xIn x then !x.short else x.wire ≠ x.plain + 24 * x.units)

/-- Whole units of a sealed transfer that the bus has carried. -/
def Flow.unitsOn (f : Flow) (x : Xfer) : Nat :=
  if f.iso then b2n x.issued else x.wire / (x.unit + 24) + b2n (x.wire % (x.unit + 24) ≠ 0 && !f.partUnit x)

/-- The sequence that a pipe continues from when a transfer on it ends: units that were sealed and not sent give theirs back, and those
received and never verified keep theirs (10 R274, R275, R278; notes/assumptions/115.md). -/
def Flow.seqAfter (f : Flow) (x : Xfer) (k : KeyCtx) : KeyCtx :=
  if x.unit = 0 then k
  else if f.xIn x then (if f.iso then k else { k with seq := k.seq + (f.unitsOn x - x.units) })
  else { k with seq := k.seq - (x.units - f.unitsOn x) }

def Flow.xfer? (f : Flow) (id : Nat) : Option Xfer := f.xs.find? (fun x => x.id = id)

/-- Map the transfer with an id. -/
def Flow.modX (f : Flow) (id : Nat) (g : Xfer → Xfer) : Flow :=
  { f with xs := f.xs.map (fun x => if x.id = id then g x else x) }

/-- Map the TD in a slot. -/
def Flow.modTd (f : Flow) (slot : Nat) (g : Td → Td) : Flow :=
  { f with tds := f.tds.map (fun d => if d.slot = slot then g d else d) }

/-! ### Completions -/

/-- Does a transfer that ends with this status write an event (R119)? -/
def writesEvent (st : Status) (ioc isp : Bool) : Bool :=
  ioc || (st = .shortPacket && isp) || (st ≠ .success && st ≠ .shortPacket)

/-- The TRANSFER_DONE event (Table 5.5). -/
def Flow.event (f : Flow) (x : Xfer) (st : Status) (detail : Nat) (cookie : Word) (halted : Bool) (ts : Option Nat) : Ev :=
  { type := 1, status := some st,
    flags := BitVec.ofNat 14 (b2n x.timeoutAlso + 2 * b2n x.reset + 4 * b2n halted + 8 * b2n (x.unit ≠ 0)),
    target := BitVec.ofNat 16 f.h.val, w1 := cookie, bytes := BitVec.ofNat 32 (f.bytesOf x),
    detail := if st = .notPermitted then BitVec.ofNat 32 detail
              else BitVec.ofNat 32 (Nat.min x.errs 255 + 256 * Nat.min x.naks (2 ^ 24 - 1)),
    ts := ts, task := some f.entry, late := x.late && decide (st = .timeout) }

/-- The completion of a transfer; IOC and ISP are the end TD's, ISP of a control transfer its DATA TD's (R119). `sub` is the
slot after its last TD. -/
def Flow.doneOf (f : Flow) (x : Xfer) (sub : Nat) (st : Status) (detail : Nat) (cookie : Word) (halted : Bool) : Done :=
  let l := f.tdsOf x
  let e := (l.find? Td.isEnd)
  let ioc := match e with | some d => d.ioc | none => false
  let isp := match l.find? (fun d => d.type = 3), e with
    | some d, _ => d.isp
    | none, some d => d.isp
    | none, none => false
  let ts := match e with | some d => d.ts | none => none
  { seq := x.seq, sub := sub, fence := x.fence || l.any Td.fence,
    ev := if writesEvent st ioc isp then some { f.event x st detail cookie halted ts with
        yellow := match l.getLast? with | some d => d.yellow | none => false } else none,
    bad := st ≠ .success && st ≠ .shortPacket }

/-- TDs from a ring slot on return to unfetched: CONSUMED and the dequeue pointer fall back, and nothing stays announced in
the submission order until it rejoins (R124, 08 R224). -/
def Flow.unfetchFrom (f : Flow) (slot : Nat) (addr : Word) : Flow :=
  let keep := f.tds.filter (fun d => d.slot < slot)
  { f with tds := keep, xs := f.xs.filter (fun x => keep.any (fun d => d.x = x.id && d.stage ≠ .retired)),
           consumed := f.consumed - BitVec.ofNat 32 (f.slots - slot), slots := slot, deq := addr,
           announced := [], links := 0, fetchFault := false }

/-- The address of a ring slot that was fetched: its TD's, or that after the TD before it, where a LINK lies. -/
def Flow.slotAddr (f : Flow) (slot : Nat) : Word :=
  match f.tds.find? (fun d => d.slot = slot), f.tds.find? (fun d => d.slot + 1 = slot) with
  | some d, _ => d.addr
  | none, some d => d.addr + 64
  | none, none => f.deq

/-- Unfetch from a slot that was fetched, LINKs among the rest; nothing to do for one that was not. -/
def Flow.unfetchAt (f : Flow) (slot : Nat) : Flow :=
  if slot < f.slots then f.unfetchFrom slot (f.slotAddr slot) else { f with announced := [], fetchFault := false }

/-- TDs from a slot on return to unfetched and keep their places in the submission order; a LINK's slot goes with the TD before it. -/
def Flow.returnFrom (f : Flow) (slot : Nat) (addr : Word) : Flow :=
  let back := (List.range (f.slots - slot)).map (fun i =>
    match (f.tds.filter (fun d => d.slot ≤ slot + i)).getLast? with | some d => d.seq | none => 0)
  let groups := back.foldr (fun q (l : List (Nat × Nat)) => match l with
    | (p, n) :: r => if p = q then (p, n + 1) :: r else (q, 1) :: l
    | [] => [(q, 1)]) []
  { f.unfetchFrom slot addr with announced := groups ++ f.announced }

/-- What the doorbells announced and FETCH has not read joins the submission order again at its end (08 R224). -/
def State.rejoin (s : State) (t : TenantId) (h : Fin 1024) : State :=
  let n := (s.tenant t).seqNo
  (s.modFlow t h (fun f =>
    { f with announced := if f.last = f.consumed then [] else [(n, (f.last - f.consumed).toNat)] })).modTenant t
    (fun x => { x with seqNo := n + 1 })

/-- The slot after the last TD of a transfer that has been fetched. -/
def Flow.subOf (f : Flow) (x : Xfer) : Nat :=
  match (f.tdsOf x).getLast? with | some d => d.slot + 1 | none => f.slots

/-- An abrupt end (R125): every transfer of which a TD was fetched and that has not retired completes with the status,
carrying the COOKIE of its last fetched TD; nothing stays on its graph and nothing unfetched stays announced. `halt` marks the
earliest event with HALTED. -/
def Flow.abruptEnd (f : Flow) (st : Status) (reset halt : Bool) (after : HandleState) : Flow :=
  let ds := f.xs.map (fun x =>
    f.doneOf { x with reset := reset } (f.subOf x) st 0 x.cookie (halt && f.xs.head? = some x))
  { f with tds := f.tds.map (fun d => { d with stage := .retired }), done := f.done ++ ds, xs := [],
           st := after, announced := [], strikes := 0, nakRun := 0, parked := false, nrdy := false, ping := false,
           split := false, fetchFault := false, slotDue := false, slotRoom := false, ending := none }

/-- An abrupt end, put off to the boundary of the transaction in progress (R125); nothing of the handle is fetched or placed until
then. -/
def Flow.endAbruptly (f : Flow) (busy : Bool) (st : Status) (after : HandleState) : Flow :=
  if busy && !f.xs.isEmpty then { f with st := after, announced := [], fetchFault := false, ending := some st }
  else f.abruptEnd st false false after

/-- An abrupt end that waited takes effect. -/
def Flow.finishEnd (f : Flow) : Flow :=
  match f.ending with
  | some st => f.abruptEnd st false false f.st
  | none => f

/-- A transfer whose completion would leave a unit partly carried is in progress. -/
def Flow.cutUnit (f : Flow) : Bool := f.xs.any (fun x => f.partUnit x)

/-! ### Submission order and release (05 R123, 08 R222) -/

/-- The flow has work submitted before a place of the order that has not been released. -/
def Flow.pendingBefore (f : Flow) (seq : Nat) : Bool :=
  f.done.any (fun d => d.seq < seq) || f.xs.any (fun x => x.seq < seq) ||
  f.live.any (fun d => d.seq < seq) || f.announced.any (fun a => a.1 < seq)

/-- The flows whose order a flow's transfers are released in: its group, or itself. -/
def State.peers (s : State) (f : Flow) : List Flow :=
  if f.group = 0 then [f] else s.flows.filter (fun g => g.t = f.t && g.group = f.group)

/-- Every transfer submitted before a TD in its group or flow has been released (R123). -/
def State.fenceClear (s : State) (f : Flow) (d : Td) : Bool :=
  f.done.isEmpty && (match f.xs with | x :: _ => x.id = d.x | [] => true) &&
  (s.peers f).all (fun g => g.h = f.h || !(g.pendingBefore d.seq))

/-- The level of an order flow's task (08 Table 8.1). -/
def State.orderLevel (s : State) : Fn → Nat
  | .pf0 => 1
  | .vf t => (s.share t).base

/-- A transfer ended badly since the last fence of the flow or group (R123). -/
def State.fenceFailed (s : State) (f : Flow) : Bool :=
  if f.group = 0 then f.fenceBad else (s.tenant f.t).groupBad.contains f.group

/-- Set or clear that memory. -/
def State.setFence (s : State) (t : TenantId) (h : Fin 1024) (bad : Bool) : State :=
  match s.flow? t h with
  | none => s
  | some f =>
    if f.group = 0 then s.modFlow t h (fun f => { f with fenceBad := bad })
    else s.modTenant t (fun x =>
      { x with groupBad := (x.groupBad.filter (fun g => g ≠ f.group)) ++ (if bad then [f.group] else []) })

/-- The first completed transfer of a flow, if it may be released: everything before it in its order has been, and if it
writes an event the owner's buffer has room (08 R222); a default pipe waits for U1 and U2 to be enabled (07 R206). -/
def State.dueDone (s : State) (f : Flow) : Option Done :=
  match f.done with
  | [] => none
  | d :: _ =>
    let ok := (s.peers f).all (fun g => g.h = f.h || !(g.pendingBefore d.seq))
    let r := s.rings (.vf f.t)
    let held := f.control && (match s.dev? f.dev with | some x => x.uWait | none => false)
    if ok && !held && (d.ev.isNone || !r.stopped) then some d else none

/-- Release the first completed transfer of a flow: its event takes an index or the retire buffer, and its TDs leave
flight. -/
def State.releaseFlow (s : State) (f : Flow) (d : Done) : State :=
  let r := s.rings (.vf f.t)
  let via := d.ev.isSome && !(r.buf.isEmpty && r.en && r.hasFree)
  let st := match d.ev with | some e => (match e.status with | some x => x.code | none => 0) | none => 0
  let s := s.modFlow f.t f.h (fun f =>
    { f with done := f.done.drop 1, tds := f.tds.filter (fun x => !(x.stage = .retired && x.slot < d.sub)) })
  let s := s.traceRec 5 f.entry (s.taskLevel f) 0 false 15 (st + b2n d.ev.isSome * 256 + b2n via * 512)
  let s := if d.fence then s.setFence f.t f.h false else if d.bad then s.setFence f.t f.h true else s
  match d.ev with
  | some e => s.complete (.vf f.t) e
  | none => s

/-! ### Ending the head transfer of a flow -/

/-- The transfer of which a TD has just retired ends: its completion waits for release, and its status halts the handle where
Table 5.6 says so; then what was fetched beyond it, or from the TD that ended it with BAD_DESCRIPTOR on, returns to
unfetched (Table 5.3). -/
def Flow.endXfer (f : Flow) (x : Xfer) (st : Status) (detail : Nat) : Flow :=
  let l := f.tdsOf x
  let bad := if st = .badDescriptor then x.stop else none
  let sub := match bad with | some n => n | none => f.subOf x
  let cookie := match bad with
    | some n => (match l.find? (fun d => d.slot = n) with | some d => d.cookie | none => 0)
    | none => x.cookie
  let dn := f.doneOf x sub st detail cookie (st.halts f.iso)
  let g := { f with done := f.done ++ [dn], xs := f.xs.filter (fun y => y.id ≠ x.id), strikes := 0,
                    tds := f.tds.map (fun d => if d.slot < sub then { d with stage := .retired } else d) }
  if st.halts f.iso then { g.unfetchAt sub with st := .halted } else g

/-- A failed FETCH read halts the handle at the unread slot: the transfer that the slot belongs to ends DMA_FAULT, and one
without a fetched TD reports COOKIE 0 (R112). -/
def Flow.endFault (f : Flow) : Flow :=
  match f.xs with
  | x :: _ => { f.endXfer { x with closed := true } .dmaFault 0 with st := .halted, fetchFault := false }
  | [] =>
    let seq := match f.announced with | a :: _ => a.1 | [] => 0
    let x : Xfer := { id := f.nextX, seq := seq }
    { f with done := f.done ++ [f.doneOf x f.slots .dmaFault 0 0 true], st := .halted, announced := [],
             fetchFault := false, nextX := f.nextX + 1 }

/-- The failed FETCH read can take effect: no earlier transfer is left and no transaction of the flow is in progress. -/
def State.faultDue (s : State) (f : Flow) : Bool :=
  f.fetchFault && f.st = .running && !(s.inTransaction f.entry) &&
  (match f.xs with | [] => true | [x] => !x.closed | _ => false)

end Sys2Proof.Machine
end

