-- ==== Sys2Proof/Machine/Orders.lean ====
section
/-! DEFINITION. Orders on the rings: fields, reserved bits (05 R129, R130), finding an order whose action has started, and
ending one. -/

namespace Sys2Proof.Machine

def Order.w (o : Order) (i : Nat) : Word := o.words.getD i 0
/-- The order code. -/
def Order.code (o : Order) : Nat := field (o.w 0) 0 8
/-- Parameter word i. -/
def Order.p (o : Order) (i : Nat) : Word := o.w (2 + i)

/-- The codes a ring accepts (05 R130). -/
def codeAccepted (f : Fn) (c : Nat) : Bool :=
  match f with
  | .pf0 => c = 0 || (0x40 ≤ c && c ≤ 0x4D)
  | .vf _ => c ≤ 0x0C

/-- The bits of P0 to P5 that an order's row defines (05 Table 5.8 and the owning chapters). -/
def paramMask (c : Nat) : List Word :=
  let all := bits 63 0
  if c = 0x01 then [bits 9 0 ||| bits 22 16 ||| bits 31 24 ||| bits 34 32 ||| bits 42 40, bits 63 6, bits 16 0]
  else if c = 0x02 || c = 0x03 || c = 0x08 || c = 0x09 then [bits 9 0]
  else if c = 0x04 then [bits 9 0, all, bits 31 0]
  else if c = 0x05 || c = 0x06 || c = 0x07 then [bits 6 0]
  else if c = 0x0A then [bits 1 0 ||| bits 16 8]
  else if c = 0x0B then [all, all, all, all, all]
  else if c = 0x0C then [bits 9 0 ||| bits 22 16]
  else if 0x40 ≤ c && c ≤ 0x43 then [bits 7 0]
  else if c = 0x44 then [all, all, all, all, all, all]
  else if c = 0x45 then [bits 10 0 ||| bits 23 16 ||| bits 30 24]
  else if c = 0x46 then [bits 10 0]
  else if c = 0x47 then [bits 3 0 ||| bits 15 8, bits 63 3]
  else if c = 0x48 then [bits 3 0 ||| bits 9 8, all]
  else if c = 0x49 then [all, bits 55 0, bits 1 0]
  else if c = 0x4A then [bits 10 0 ||| bits 16 16]
  else if c = 0x4B then [bits 63 6, bits 15 0, all]
  else if c = 0x4C then [bits 1 0, all]
  else if c = 0x4D then [bits 1 0, bits 63 12, bits 4 0]
  else []

/-- No bit is set that the order's row does not define, nor above the code in W0 (05 R129). -/
def Order.reservedOk (o : Order) : Bool :=
  decide (o.w 0 &&& bits 63 8 = 0) &&
  (List.range 6).all (fun i => o.p i &&& ~~~((paramMask o.code).getD i 0) = 0)

/-- The order of a ring with this ring index. -/
def State.order? (s : State) (f : Fn) (k : Nat) : Option Order := (s.rings f).orders.find? (fun o => o.k = k)

/-- Map the first order with this ring index. -/
def mapFirst (k : Nat) (g : Order → Order) : List Order → List Order
  | [] => []
  | o :: l => if o.k = k then g o :: l else o :: mapFirst k g l

def State.modOrder (s : State) (f : Fn) (k : Nat) (g : Order → Order) : State :=
  s.modRings f (fun r => { r with orders := mapFirst k g r.orders })

/-- The ORDER_DONE event (05 Table 5.5). -/
def Order.doneEv (o : Order) (st : Status) (target bytes detail : Nat) : Ev :=
  { type := 2, status := some st, flags := BitVec.ofNat 14 o.code, target := BitVec.ofNat 16 target, w1 := o.w 1,
    bytes := BitVec.ofNat 32 bytes, detail := BitVec.ofNat 32 detail }

/-- The order's action ends with a completion: its RETIRE becomes ready (08 Table 8.6); a ghost just ends. -/
def State.endOrderEv (s : State) (f : Fn) (k : Nat) (ev : Order → Ev) : State :=
  match s.order? f k with
  | some o =>
    if o.ghost then s.modRings f (fun r => { r with orders := r.orders.filter (fun x => !(x.k = k && x.ghost)) })
    else if o.stage = .acting || o.stage = .waiting then s.modOrder f k (fun o => { o with stage := .ended, ev := ev o })
    else s
  | none => s

/-- The action ends with ORDER_DONE. -/
def State.endOrder (s : State) (f : Fn) (k : Nat) (st : Status) (target bytes detail : Nat) : State :=
  s.endOrderEv f k (fun o => o.doneEv st target bytes detail)

/-- Every waiting order of a ring that a predicate picks ends with a completion; a ghost just ends. -/
def State.endWhere (s : State) (f : Fn) (p : Order → Bool) (ev : Order → Ev) : State :=
  s.modRings f (fun r => { r with orders :=
    ((r.orders.filter (fun o => !(o.ghost && o.stage = .waiting && p o))).map (fun o =>
      if o.stage = .waiting && p o then { o with stage := .ended, ev := ev o } else o)) })

/-- The order waits for something after its row ran. -/
def State.waitOrder (s : State) (f : Fn) (k : Nat) : State :=
  s.modOrder f k (fun o => { o with stage := .waiting })

/-- What an order names, so that orders that name the same handle, VP, tenant or device run one after another: a class
and a number each (05 R130, 06 R157, 11 R294). -/
def Order.names (o : Order) : List (Nat × Nat) :=
  let c := o.code
  if c = 1 then [(0, field (o.p 0) 0 10), (1, field (o.p 0) 16 7)]
  else if c = 2 || c = 3 || c = 4 || c = 8 || c = 9 || c = 0xC then [(0, field (o.p 0) 0 10)]
  else if c = 5 || c = 6 || c = 7 then [(1, field (o.p 0) 0 7)]
  else if c = 0xA then [(2, field (o.p 0) 0 2)]
  else if 0x40 ≤ c && c ≤ 0x43 then [(3, field (o.p 0) 0 8)]
  else if c = 0x44 then [(3, field (o.p 5) 8 8)]
  else if c = 0x45 || c = 0x46 then [(4, field (o.p 0) 0 11)]
  else if c = 0x47 || c = 0x48 then [(5, field (o.p 0) 0 4)]
  else if c = 0x49 then [(6, 0)]
  else []

/-- Orders in flight before this one, in ring order. -/
def Rings.earlier (r : Rings) (k : Nat) : List Order := r.orders.takeWhile (fun o => o.k ≠ k)

/-- No earlier order that names the same object is still running. -/
def State.orderFree (s : State) (f : Fn) (o : Order) : Bool :=
  ((s.rings f).earlier o.k).all (fun e =>
    e.stage = .ended || e.stage = .retired || o.names.all (fun n => !(e.names.contains n)))

/-- Run an order's action on the order it names: there is none unless CHECK has started an order of this code at that ring
index, its row has not run, and no earlier order that names the same object is still running (05 R130). -/
def State.withOrder (s : State) (f : Fn) (k code : Nat) (act : Order → State) : State :=
  match s.order? f k with
  | some o => if o.code = code && o.stage = .acting && s.orderFree f o then act o else s
  | none => s

/-- The handle that an order's P0 names. -/
def Order.handle (o : Order) : Fin 1024 := ⟨field (o.p 0) 0 10, Nat.mod_lt _ (by decide)⟩
/-- The VP that an order's P0 names. -/
def Order.vp (o : Order) : Nat := field (o.p 0) 0 7
/-- The tenant that a tenancy order's P0 names. -/
def Order.tenant (o : Order) : TenantId := ⟨field (o.p 0) 0 8, Nat.mod_lt _ (by decide)⟩

end Sys2Proof.Machine
end

