-- ==== Sys2Proof/Machine/Topo.lean ====
section
/-! DEFINITION. Virtual ports, sealed-pipe teardown, detach, addresses and port power: the operations that topology, power,
faults and tenancy share (05 R136, 06 R137 to R173, 10 R280). -/

namespace Sys2Proof.Machine

/-! ### Virtual ports (05 R136) -/

/-- T_VP_CHANGE bits. -/
def vcConnect : BitVec 8 := 1
def vcEnable : BitVec 8 := 2
def vcSuspend : BitVec 8 := 4
def vcResetDone : BitVec 8 := 8
def vcOverCurrent : BitVec 8 := 16
def vcRemoteWake : BitVec 8 := 32
def vcCollided : BitVec 8 := 64
def vcGrant : BitVec 8 := 128

def vpIdx (vp : Nat) : Fin 64 := ⟨(vp + 63) % 64, Nat.mod_lt _ (by decide)⟩

/-- Set change bits of a granted device's VP and raise PORT_CHANGE; nothing for a device that no tenant holds. -/
def State.vpEvent (s : State) (d : DevId) (c : BitVec 8) : State :=
  match s.dev? d with
  | some x => match x.st, x.tenant with
    | .granted, some t =>
      (s.modTenant t (fun y => { y with vpChange := vmod y.vpChange (vpIdx x.vp) (fun b => b ||| c) })).notice
        (.vf t) (.vp x.vp) (c.setWidth 32)
    | _, _ => s
  | none => s

/-- The gang a port belongs to, if any. -/
def State.gangOf (s : State) (p : PortId) : Option (Fin 4) :=
  (allFin 4).find? (fun g => (vget s.gangMask g).getLsbD p.val)

def State.ocOf (s : State) (p : PortId) : OcSt :=
  match s.gangOf p with
  | some g => vget s.gangs g
  | none => (vget s.ports p).oc

/-- An over-current unit that feeds a device has a retry count other than 0: its root port or gang, or a hub port on its path
(06 R169, R171). -/
def State.fedOc (s : State) (d : DevId) : Bool :=
  (s.ocOf d.port).retries ≠ 0 || (List.range d.path.length).any (fun k =>
    match s.dev? { d with path := d.path.take k } with
    | some x => ((x.hubOc.lookup (d.path.getD k 0)).getD {}).retries ≠ 0
    | none => false)

/-- ENABLED of a device: addressed and not in reset (notes/assumptions/59.md). -/
def Dev.enabled (d : Dev) : Bool := d.addr ≠ 0 && d.reset = .none

/-- The change bits of the status bits that stand beside GRANTED and CONNECTED when a device comes to a VP or leaves it (R136). -/
def Dev.liveBits (d : Dev) (oc : Bool) : BitVec 8 :=
  (if d.enabled then vcEnable else 0) ||| (if d.suspended then vcSuspend else 0) ||| (if oc then vcOverCurrent else 0)

/-- A change that empties a VP: its registers clear, and PORT_CHANGE carries the bits (R136). -/
def State.vpEmpty (s : State) (t : TenantId) (vp : Nat) (c : BitVec 8) : State :=
  (s.modTenant t (fun y => { y with vpChange := vset y.vpChange (vpIdx vp) 0 })).notice (.vf t) (.vp vp) (c.setWidth 32)

/-! ### Device identity and sealed pipes (10 R280, R283) -/

/-- The pin key of a device. -/
def Dev.identity (d : Dev) : Identity :=
  { port := d.id.port, path := d.id.path, vid := match d.desc with | some x => x.vid | none => 0,
    pid := match d.desc with | some x => x.pid | none => 0, serial := d.serial.getD 0 }

/-- SEAL_NOTICE reason bits (05 Table 5.5). -/
def snTornDown : BitVec 32 := 1
def snRekeyed : BitVec 32 := 2
def snQuarantined : BitVec 32 := 4
def snPinMismatch : BitVec 32 := 8
def snZeroised : BitVec 32 := 16

/-- Byte i of a capability. -/
def capByte (l : List Byte) (i : Nat) : Nat := (l.getD i 0).toNat

/-- The Platform capability UUID of Tirael as it is stored (10 R262). -/
def tiraelUuid : List Byte := [0xE2, 0x51, 0x3C, 0x8D, 0x0F, 0x6B, 0x77, 0x4A, 0x9E, 0x15, 0x2C, 0x40, 0xF1, 0xB6, 0xA9, 0x03]

/-- A device capability is Tirael's: a platform capability with its UUID (10 Table 10.1). -/
def isTirael (l : List Byte) : Bool :=
  capByte l 1 = 0x10 && capByte l 2 = 5 && capByte l 3 = 0 && (l.drop 4).take 16 = tiraelUuid

/-- A capability is recognised (10 R263). -/
def tiraelOk (l : List Byte) : Bool :=
  l.length = 28 && capByte l 0 = 28 && capByte l 21 = 1 && 9 ≤ capByte l 22 && capByte l 22 ≤ 14 &&
  capByte l 24 % 2 = 0 && capByte l 26 % 2 = 0

/-- What a read of the BOS gives: Tirael's capability, if it is there and recognised. -/
def tiraelOf (caps : List (List Byte)) : Option (List Byte) :=
  match caps.find? isTirael with | some l => if tiraelOk l then some l else none | none => none

/-- T_VP_STATUS.TIRAEL. -/
def Dev.tirael (d : Dev) : Bool := d.cap.isSome

/-- A Tirael request for a pipe: wValue is the endpoint's address, wIndex the handshake interface (10 R266). -/
def State.tiraelReq (s : State) (f : Flow) (k : SealReq) (bytes : List Byte) : UsbReq :=
  let i := match (s.dev? f.dev).bind (fun d => d.cap) with | some l => capByte l 23 | none => 0
  .tirael k f.ep.addr.toNat i (match k with | .hello => 4096 | .confirm => 72 | _ => bytes.length) bytes

def UsbReq.isTirael (k : SealReq) : UsbReq → Bool
  | .tirael j _ _ _ _ => j = k
  | _ => false

/-! ### The default pipe of a handshake (10 Table 10.2) -/

/-- The handshake of a handle. -/
def State.hs? (s : State) (t : TenantId) (h : Fin 1024) : Option Handshake :=
  s.seals.hs.find? (fun x => x.t = t && x.h = h)

def State.modHs (s : State) (t : TenantId) (h : Fin 1024) (g : Handshake → Handshake) : State :=
  { s with seals := { s.seals with hs := s.seals.hs.map (fun x => if x.t = t && x.h = h then g x else x) } }

/-- The default pipe of a handle's device is between control transfers: none of its transfers has been issued and has not
ended. -/
def State.defaultIdle (s : State) (f : Flow) : Bool :=
  s.flows.all (fun g => !(g.dev = f.dev && g.control) ||
    (!(s.inTransaction g.entry) && g.xs.all (fun x => !x.issued || x.ctl = 3 || x.busEnd)))

/-- Another handshake uses the default pipe of the device. -/
def State.defaultTaken (s : State) (f : Flow) : Bool :=
  s.seals.hs.any (fun x => x.step ≠ .pipe &&
    (match s.flow? x.t x.h with | some g => g.dev = f.dev | none => false))

/-- A request of a handshake: under the TOPO task of its root port, or for a rekey under the SEAL task (10 R265, R277). -/
def State.hsRequest (s : State) (x : Handshake) (f : Flow) (k : SealReq) (bytes : List Byte) : State :=
  s.requestAs (if x.rekey then sealTask else topoTask f.dev.port) f.dev (s.tiraelReq f k bytes)

/-- Step 2 to step 3: a handshake that waits takes the default pipe and sends HELLO; a rekey also waits until no TD of its
handle is in flight. -/
def State.takePipe (s : State) (x : Handshake) : State :=
  match s.flow? x.t x.h with
  | some f =>
    if x.step = .pipe && s.defaultIdle f && !s.defaultTaken f && (!x.rekey || f.tds.isEmpty) then
      (s.modHs x.t x.h (fun y => { y with step := .hello })).hsRequest x f .hello []
    else s
  | none => s

/-- Let every waiting handshake that can take its default pipe. -/
def State.takePipes (s : State) : State := s.seals.hs.foldl State.takePipe s

/-- A request of the handshake of a pipe. -/
def UsbReq.handshakes (ep : Byte) : UsbReq → Bool
  | .tirael .teardown _ _ _ _ => false
  | .tirael _ v _ _ _ => v = ep.toNat
  | _ => false

/-- A handle's handshake is over: what it has on the bus is given up, and its deadlines with it. -/
def State.dropHs (s : State) (t : TenantId) (h : Fin 1024) : State :=
  let s := match s.hs? t h, s.flow? t h with
    | some _, some f => s.dropReqs (fun q => q.d = f.dev && q.r.handshakes f.ep.addr)
    | _, _ => s
  { s with seals := { s.seals with hs := s.seals.hs.filter (fun x => !(x.t = t && x.h = h)) } }

/-- Every handshake of a tenant is over. -/
def State.dropTenantHs (s : State) (t : TenantId) : State :=
  ((s.seals.hs.filter (fun x => x.t = t)).foldl (fun (a : State) x => a.dropHs x.t x.h) s).takePipes

/-- Tear a pipe down (10 R280): its key context is freed; TEARDOWN goes out unless the device is gone or being reset; a
notice, unless told not to; a log record. -/
def State.tearDown (s : State) (t : TenantId) (h : Fin 1024) (cause : BitVec 32) (send notify : Bool) : State :=
  match s.flow? t h with
  | some f =>
    if f.key.isNone then s else
    let s := ((s.dropHs t h).modFlow t h (fun f => { f with key := none })).dropDelays (fun w => w = .rekey t h)
    let s := s.dropReqs (fun q => q.d = f.dev && q.r.handshakes f.ep.addr)
    let s := if send && (s.dev? f.dev).isSome then
        s.request f.dev (s.tiraelReq f .teardown []) else s
    let s := if notify then s.notice (.vf t) (.seal h.val) (snTornDown ||| cause) else s
    let loc := match s.dev? f.dev with | some d => some d.loc | none => none
    (s.logEvent 5 (some t) loc (BitVec.ofNat 256 (h.val + (snTornDown ||| cause).toNat * 65536))).takePipes
  | none => s

/-- Tear down every sealed pipe of the flows that a predicate picks. -/
def State.tearDownAll (s : State) (p : Flow → Bool) (cause : BitVec 32) (send notify : Bool) : State :=
  (s.flows.filter (fun f => p f && f.key.isSome)).foldl (fun a f => a.tearDown f.t f.h cause send notify) s

/-! ### Addresses and devices on a bus (06 R137 to R140) -/

/-- The lowest free address of a bus, if any (R138). -/
def State.freeAddr (s : State) (p : PortId) : Option Nat :=
  (List.range 127).map (· + 1) |>.find? (fun a => !(s.devs.any (fun d => d.id.port = p && d.addr = a)))

/-- The hub above a device. -/
def DevId.parent (d : DevId) : Option DevId :=
  if d.path.isEmpty then none else some { d with path := d.path.dropLast }

/-- A device lies below a hub on the same side. -/
def DevId.below (d hub : DevId) : Bool :=
  d.port = hub.port && d.ss = hub.ss && hub.path.length < d.path.length && hub.path.isPrefixOf d.path

/-- The locator a notice about a device without an address carries: its parent hub's, or root port × 128 (R158). -/
def State.noticeLoc (s : State) (d : DevId) : Nat :=
  match s.dev? d with
  | some x => if x.addr ≠ 0 then x.loc else
    (match d.parent with
     | some h => match s.dev? h with | some y => y.loc | none => d.port.val * 128
     | none => d.port.val * 128)
  | none => d.port.val * 128

/-- The nearest high-speed hub above a USB 2.0 device. -/
def State.hsHub (s : State) (d : DevId) : Nat → Option DevId
  | 0 => none
  | k + 1 =>
    let h : DevId := { d with path := d.path.take k }
    match s.dev? h with
    | some x => if x.speed = .high && x.hub.isSome then some h else State.hsHub s d k
    | none => State.hsHub s d k

/-- The transaction translator that serves a full- or low-speed device (R149): the hub, and the hub's port on a multi-TT
hub (bDeviceProtocol 2), else 0. -/
def State.ttOf (s : State) (d : DevId) (sp : Speed) : Option (DevId × Nat) :=
  if sp = .full || sp = .low then
    match s.hsHub d d.path.length with
    | some h => match s.dev? h with
      | some x => match x.desc with
        | some y => some (h, if y.proto = 2 then d.path.getD h.path.length 0 else 0)
        | none => some (h, 0)
      | none => none
    | none => none
  else none

/-- Drop translators that serve no device any more (R150). -/
def State.freeTts (s : State) : State :=
  { s with tts := s.tts.filter (fun k => s.devs.any (fun d => s.ttOf d.id d.speed = some k)) }

/-- A device that holds the default address is reset: a SuperSpeed link that is in SS.Inactive, which is free, by a warm reset; one that
enumerates and is not in it needs no reset once it is in U0 (Table 6.1 step 4, R163). -/
def State.driveReset (s : State) (d : DevId) : State :=
  match s.dev? d with
  | none => s
  | some x =>
    let s := s.modDev d (fun x => { x with step := .reset })
    if !d.ss then s.request d (.portReset false)
    else
      let (inactive, s) := s.drawBool
      if inactive || x.reset ≠ .none then s.request d (.portReset inactive) else s

/-- The default address of a bus goes to the next device that waits for it (R142). -/
def State.passDefault (s : State) (p : PortId) : State :=
  let q := vget s.ports p
  match q.defQueue with
  | [] => s.modPort p (fun q => { q with defOwner := none })
  | d :: l => (s.modPort p (fun q => { q with defOwner := some d, defQueue := l })).driveReset d

/-- A device asks for the default address of its bus and waits in arrival order while another holds it (R142). -/
def State.askDefault (s : State) (d : DevId) : State :=
  let q := vget s.ports d.port
  if q.defOwner = some d then s.driveReset d
  else if q.defOwner.isNone then (s.modPort d.port (fun q => { q with defOwner := some d })).driveReset d
  else (s.modPort d.port (fun q => { q with defQueue := q.defQueue ++ [d] })).modDev d (fun x => { x with step := .waitDefault })

/-- A device leaves the default address. -/
def State.dropDefault (s : State) (d : DevId) : State :=
  let q := vget s.ports d.port
  if q.defOwner = some d then s.passDefault d.port
  else s.modPort d.port (fun q => { q with defQueue := q.defQueue.filter (fun x => x ≠ d) })

/-! ### The end of a grant and detach (06 R157, R167) -/

/-- Every handle of a VP ends abruptly with DETACHED, except those already LOST (05 Table 5.3). -/
def State.detachHandles (s : State) (t : TenantId) (vp : Nat) : State :=
  { s with flows := s.flows.map (fun f =>
      if f.t = t && f.vp = vp && (f.st = .running || f.st = .halted)
      then f.endAbruptly (s.inTransaction f.entry) .detached .detached else f) }

/-- Handshakes of a device end: a SEAL_PIPE of it completes DETACHED, one that still waits for its TDs too, and a pin that is not yet
written never is (10 Table 10.7). -/
def State.dropHandshakes (s : State) (d : DevId) : State :=
  let mine := fun (t : TenantId) (h : Fin 1024) => match s.flow? t h with | some f => f.dev = d | none => false
  let ends := fun (t : TenantId) => s.modRings (.vf t) (fun r => { r with orders := r.orders.map (fun o =>
    if o.code = 8 && (o.stage = .waiting || o.stage = .acting) && mine t o.handle
    then { o with stage := .ended, ev := o.doneEv .detached o.handle.val 0 0 } else o) })
  let who := match s.dev? d with | some x => some x.identity | none => none
  let pin := s.seals.hs.any (fun x => mine x.t x.h && x.step = .commit)
  let s : State := (match s.dev? d with
    | some x => (match x.tenant with | some t => ends t | none => s)
    | none => s)
  let s := s.dropReqs (fun q => q.d = d && (match q.r with | .tirael k _ _ _ _ => k ≠ .teardown | _ => false))
  { s with seals := { s.seals with hs := s.seals.hs.filter (fun x => !mine x.t x.h) },
           peat := if pin then { s.peat with queue := s.peat.queue.filter (fun q => match q.body with
              | .pin l => q.ckpt || !(l.any (fun e => some e.1 = who)) | _ => true) } else s.peat }

/-- Orders of a tenant on a device's VP that wait (reset, suspend, resume) complete with a status; those whose rows have not run
are told. -/
def State.endVpOrders (s : State) (t : TenantId) (vp : Nat) (st : Status) : State :=
  s.modRings (.vf t) (fun r => { r with orders := r.orders.map (fun o =>
    if (o.code = 5 || o.code = 6 || o.code = 7) && o.stage = .waiting && o.vp = vp
    then { o with stage := .ended, ev := o.doneEv st vp 0 0 }
    else if o.stage = .acting && ((5 ≤ o.code && o.code ≤ 7 && o.vp = vp) || (o.code = 1 && field (o.p 0) 16 7 = vp))
    then { o with gone := true } else o) })

/-- End a device's grant (R157, R167): handles end, pipes are torn down, the VP registers clear and PORT_CHANGE is
raised with the bits. `gone` when the device is no longer attached, so that no TEARDOWN is sent. -/
def State.endGrant (s : State) (d : DevId) (c : BitVec 8) (gone : Bool) : State :=
  match s.dev? d with
  | some x => match x.st, x.tenant with
    | .granted, some t =>
      let s := s.dropHandshakes d
      let s := s.detachHandles t x.vp
      let s := s.tearDownAll (fun f => f.t = t && f.dev = d) 0 (!gone) true
      let s := s.endVpOrders t x.vp .detached
      let s := s.vpEmpty t x.vp (c ||| x.liveBits (s.fedOc d))
      s.modDev d (fun y => { y with st := .unmatched, tenant := none, vp := 0, suspendWait := none, resumeOrder := none })
    | _, _ => s
  | none => s

/-- End the manager's waiting orders of some codes that name a tenant. -/
def State.endWaiting (s : State) (t : TenantId) (codes : List Nat) (st : Status) : State :=
  s.endWhere .pf0 (fun o => codes.contains o.code && (if o.code = 0x44 then field (o.p 5) 8 8 else o.tenant.val) = t.val)
    (fun o => o.doneEv st t.val 0 0)

/-- A reset for a manager order is over: REVOKE completes, and TEN_RELEASE once its last device reset has ended (R157, 11 R302). -/
def State.resetOver (s : State) : ResetFor → State
  | .revoke k vp => s.endOrder .pf0 k .success vp 0 0
  | .release t n =>
    if s.devs.any (fun d => d.reset = .release t n || d.resetWait = .release t n) then s
    else
      let s := s.modTenant t (fun x => if x.st = .resetting then { x with st := if x.vf then .standby else .vacant } else x)
      s.endWhere .pf0 (fun o => o.code = 0x43 && o.tenant = t) (fun o => o.doneEv .success t.val 0 n)
  | _ => s

/-- One device becomes absent (R167): its grant ends, its address is freed, DETACHED is noticed if it had one. -/
def State.removeDev (s : State) (d : DevId) (oc : Bool) : State :=
  match s.dev? d with
  | none => s
  | some x =>
    let c := vcConnect ||| vcGrant ||| (if oc then vcOverCurrent else 0)
    let s := s.endGrant d c true
    let s := if x.addr ≠ 0 then s.mgrPortNotice x.loc 3 else s
    let s := { s with devs := s.devs.filter (fun y => y.id ≠ d) }
    let s := (s.dropReqs (fun q => q.about d || (!q.onRoot && q.target = d))).dropDelays (fun w => w.dev? = some d)
    (((s.resetOver x.reset).resetOver x.resetWait).dropDefault d).freeTts

/-- Devices in the order in which a hub's removal reports them: ascending VP (R148). -/
def vpOrder (l : List Dev) : List DevId := (sortBy (fun a b => a.vp ≤ b.vp) l).map (fun d => d.id)

/-- A device detaches with everything below it (R148, R167). -/
def State.detach (s : State) (d : DevId) (oc : Bool) : State :=
  let under := vpOrder (s.devs.filter (fun x => x.id.below d))
  (under.foldl (fun a x => a.removeDev x oc) s).removeDev d oc

/-! ### Reset, suspend and resume (R163 to R166) -/

/-- A transaction of a device is in progress. -/
def State.devBusy (s : State) (d : DevId) : Bool :=
  s.flows.any (fun f => f.dev = d && s.inTransaction f.entry) ||
  (allFin 32).any (fun w => match (vget s.sched.workers w).cur with
    | some o => (match o.usb with | some (e, r) => ({ d := e, r := r, task := o.task } : Req).target = d | none => false)
    | none => false)

/-- An open periodic handle of a device has an interval shorter than 1 ms (07 R206). -/
def State.fastPeriodic (s : State) (d : DevId) : Bool :=
  s.flows.any (fun f => f.dev = d && (match f.resv with | some r => !r.frame && r.interval < 8 | none => false))

/-- The inactivity timeouts of the link above a device: in the port engine, or in the hub port by requests (07 R206). -/
def State.setTimeouts (s : State) (d : DevId) (u1 u2 : Nat) : State :=
  match s.dev? d with
  | some x =>
    let ask := fun (second : Bool) (was now : Nat) (s : State) =>
      if was = now || d.path.isEmpty then s else s.request d (.portTimeout second now)
    ask true x.timeouts.2 u2 (ask false x.timeouts.1 u1 (s.modDev d (fun y => { y with timeouts := (u1, u2) })))
  | none => s

/-- Once the timeouts are set, that of U2 follows the periodic handles of the device (07 R206). -/
def State.syncU2 (s : State) (d : DevId) : State :=
  match s.dev? d with
  | some x => if x.timeouts.1 = 0 then s else s.setTimeouts d x.timeouts.1 (if s.fastPeriodic d then 0 else 256)
  | none => s

/-- A device starts to be reset: from suspend if it is suspended (Table 6.8), and from the default address. -/
def State.beginReset (s : State) (d : DevId) (why : ResetFor) : State :=
  let was := match s.dev? d with | some x => x.suspended | none => false
  let s := (s.modDev d (fun x => { x with reset := why, resetWait := .none, attempts := 0, suspended := false, timeouts := (0, 0),
                                          cap := none, l1 := false, linkU := 0, uWait := false })).dropReqs
    (fun q => q.d = d && !q.r.ofPort)
  (s.vpEvent d (if was then vcEnable ||| vcSuspend else vcEnable)).askDefault d

/-- The hub above a device is suspended. -/
def State.underSuspended (s : State) (d : DevId) : Bool :=
  match d.parent with
  | some h => match s.dev? h with | some x => x.suspended | none => false
  | none => false

/-- Waiting resumes whose hub is not suspended drive their signalling (R164, R165). -/
def State.kickResumes (s : State) : State :=
  (s.devs.filter (fun x => x.resume = .waiting && !s.underSuspended x.id)).foldl (fun (a : State) x =>
    (a.modDev x.id (fun y => { y with resume := .signalling })).request x.id .resume) s

/-- A device is to be resumed: the suspended hubs above it first (R164, R165). -/
def State.beginResume (s : State) (d : DevId) (k : Option Nat) : State :=
  let s := { s with devs := s.devs.map (fun (x : Dev) =>
    if d.below x.id && x.suspended && decide (x.resume = ResumeSt.none) then { x with resume := .waiting } else x) }
  (s.modDev d (fun x => { x with resume := .waiting, resumeOrder := k })).kickResumes

/-- A device is suspended for a PORT_SUSPEND, which completes; a remote wake that came first makes the controller resume it at
once (R164, Table 6.8). -/
def State.enterSuspend (s : State) (d : DevId) (t : TenantId) (k : Nat) : State :=
  match s.dev? d with
  | some x =>
    let s := s.modDev d (fun x => { x with suspended := true, suspendWait := none, l1 := false, linkU := 0 })
    let s := (s.request d .suspend).vpEvent d vcSuspend
    let s := s.endOrder (.vf t) k .success x.vp 0 0
    if x.remote then s.beginResume d none else s
  | none => s

/-- A PORT_SUSPEND that waited for a transaction of its device takes effect (R164). -/
def State.suspendDue (s : State) (d : DevId) : State :=
  match s.dev? d with
  | some x => match x.suspendWait, x.tenant with
    | some k, some t => if s.devBusy d then s else s.enterSuspend d t k
    | _, _ => s
  | none => s

/-- Every device of a port that a predicate picks detaches, root devices with all below them. -/
def State.detachPort (s : State) (p : PortId) (q : Dev → Bool) (oc : Bool) : State :=
  let l := vpOrder (s.devs.filter (fun x => x.id.port = p && q x))
  l.foldl (fun a x => a.removeDev x oc) s

/-! ### Port power (06 R168 to R172) -/

/-- The ports an over-current unit of a root port feeds: its gang's, or itself. -/
def State.ocPorts (s : State) (p : PortId) : List PortId :=
  match s.gangOf p with
  | some g => (allFin 16).filter (fun q => (vget s.gangMask g).getLsbD q.val)
  | none => [p]

/-- The level of PPWR_EN of a port. -/
def State.powered (s : State) (p : PortId) : Bool := s.pins.ppwrEn.getLsbD p.val

def State.setOc (s : State) (p : PortId) (o : OcSt) : State :=
  match s.gangOf p with
  | some g => { s with gangs := vset s.gangs g o }
  | none => s.modPort p (fun q => { q with oc := o })

/-- A device appears on a VP (R154): GRANT and CONNECT, with the bits of R136 for the status that it shows; the manager notice GRANTED. -/
def State.present (s : State) (d : DevId) (t : TenantId) (vp : Nat) : State :=
  let s := s.modDev d (fun x => { x with st := .granted, tenant := some t, vp := vp })
  let live := match s.dev? d with | some x => x.liveBits (s.fedOc d) | none => 0
  let s := s.vpEvent d (vcGrant ||| vcConnect ||| live)
  s.mgrPortNotice (s.noticeLoc d) 2

/-- The VP that a grant takes: the one named if it is free, or the lowest free of 1 to 64 (R153). -/
def State.grantVp (s : State) (t : TenantId) (vp : Nat) : Option Nat :=
  let free := fun (v : Nat) => (s.vpDev t v).isNone
  if vp = 0 then ((List.range 64).map (· + 1)).find? free else if free vp then some vp else none

/-- The port is enabled by the image, the start-up sequence has reached it, and it is not held off, latched or waiting for a
retry (R57, R168, R169). -/
def State.mayPower (s : State) (p : PortId) : Bool :=
  (match s.img.image with | some i => i.glob.portEnable.getLsbD p.val | none => false) &&
  9 ≤ s.img.step && !(s.img.portSeq.contains p) &&
  !(vget s.ports p).powerOff && !(s.ocOf p).latched && (s.ocOf p).waiting.isNone

/-- PPWR_EN of a port changes: 100 ms after it rises enumeration starts, and 10 s after a retry its count returns to 0 (R144, R169); a port
that loses power detaches everything below it (R168). The delays of a gang are those of its lowest port. -/
def State.setPower (s : State) (p : PortId) (on : Bool) : State :=
  if on then
    let s : State := { s with pins := { s.pins with ppwrEn := s.pins.ppwrEn ||| (1#16 <<< p.val) } }
    let s := s.setDelay (topoTask p) (s.time.now + 100000000) (.enumStart p)
    let u := (s.ocPorts p).headD p
    if (s.ocOf p).retries = 0 || s.hasDelay (.ocQuiet (.root u)) then s
    else s.setDelay (topoTask u) (s.time.now + 10000000000) (.ocQuiet (.root u))
  else
    let s : State := { s with pins := { s.pins with ppwrEn := s.pins.ppwrEn &&& ~~~(1#16 <<< p.val) } }
    let dark := (s.ocPorts p).all (fun q => !s.powered q)
    let s := s.dropDelays (fun w => w = .enumStart p || w = .enumerate p || (dark && w = .ocQuiet (.root ((s.ocPorts p).headD p))))
    (s.detachPort p (fun _ => true) false).modPort p (fun q =>
      { q with usb2 := { q.usb2 with on := false }, ss := { q.ss with on := false } })

/-- Drive PPWR_EN of a port. While the pads are held the change waits, with PAD_HELD and its notice (R172). -/
def State.drivePower (s : State) (p : PortId) (on : Bool) : State :=
  if s.power.padsHeld then
    ({ s with power := { s.power with waiting := s.power.waiting ++ [(p, on)] } } : State).mgrPortNotice (p.val * 128) 11
  else s.setPower p on

/-- A trip drives PPWR_EN low at once, held pads or not (02 R26); changes that waited for the pads are void (13 R339). -/
def State.cutPower (s : State) (p : PortId) : State :=
  let s := s.detachPort p (fun _ => true) true
  ({ s with power := { s.power with waiting := s.power.waiting.filter (fun x => x.1 ≠ p) } } : State).setPower p false

end Sys2Proof.Machine
end

