-- ==== Sys2Proof/Machine/Irq.lean ====
section
/-! DEFINITION. Event sources and interrupt delivery (12 R309 to R324): levels, pending sources, messages, claim and end of
service, routes. -/

namespace Sys2Proof.Machine

/-- What a source is delivered to (Table 12.1). -/
inductive Target where
  | fn (f : Fn)
  | core (c : CoreId)
  deriving DecidableEq, Repr

/-- The target of a route code: 0 PF0, 1 to 4 the cores (R320). -/
def routeTarget (code : BitVec 8) : Target :=
  if code = 1 then .core 0 else if code = 2 then .core 1 else if code = 3 then .core 2
  else if code = 4 then .core 3 else .fn .pf0

/-! ### The banks -/

def State.irqSrc (s : State) : Src → IrqSrc
  | .vf t n => vget (s.tenant t).irq n
  | .pf n => vget s.pfIrq n
  | .shared n => vget s.shared n
  | .core c n => vget (vget s.sched.cores c).bank n

def State.modSrc (s : State) (x : Src) (g : IrqSrc → IrqSrc) : State :=
  match x with
  | .vf t n => s.modTenant t (fun y => { y with irq := vmod y.irq n g })
  | .pf n => { s with pfIrq := vmod s.pfIrq n g }
  | .shared n => { s with shared := vmod s.shared n g }
  | .core c n => s.modCore c (fun y => { y with bank := vmod y.bank n g })

/-- The target of a source. -/
def State.srcTarget (s : State) : Src → Target
  | .vf t _ => .fn (.vf t)
  | .pf _ => .fn .pf0
  | .shared n => routeTarget (vget s.shared n).target
  | .core c _ => .core c

/-- The number of a source at its target (Table 12.1). -/
def Src.number : Src → Nat
  | .vf _ n => n.val
  | .pf n => n.val
  | .shared n => 64 + n.val
  | .core _ n => n.val

/-- Sources that Tables 12.2 to 12.4 list; a core's private bank is the ROM's own. Others are reserved (R310). -/
def Src.listed : Src → Bool
  | .vf _ n => n.val < 6
  | .pf n => n.val < 7
  | .shared n => n.val < 33
  | .core _ _ => true

/-- The shared sources routed to a target. -/
def State.routed (s : State) (g : Target) : List Src :=
  (allFin 33).filterMap (fun n =>
    let m : Fin 96 := ⟨n.val, Nat.lt_trans n.isLt (by decide)⟩
    if routeTarget (vget s.shared m).target = g then some (.shared m) else none)

/-- The listed sources of a target, in ascending number. -/
def State.sources (s : State) (g : Target) : List Src :=
  match g with
  | .fn (.vf t) => ((allFin 32).map (fun n => Src.vf t n)).filter Src.listed
  | .fn .pf0 => ((allFin 64).map (fun n => Src.pf n)).filter Src.listed ++ s.routed g
  | .core c => (allFin 16).map (fun n => Src.core c n) ++ s.routed g

/-! ### Levels (Tables 12.2 to 12.4) -/

def State.vfLevel (s : State) (t : TenantId) (n : Nat) : Bool :=
  let x := s.tenant t
  if n = 0 then x.rings.pi ≠ x.rings.ci
  else if n = 1 then !x.rings.buf.isEmpty
  else if n = 2 then x.rings.stopped
  else if n = 3 then x.vpChange.toList.any (fun b => b ≠ 0)
  else if n = 4 then x.accessErr
  else if n = 5 then x.st ≠ .active
  else false

def State.pfLevel (s : State) (n : Nat) : Bool :=
  if n = 0 then s.mgr.pi ≠ s.mgr.ci
  else if n = 1 then !s.mgr.buf.isEmpty
  else if n = 2 then s.mgr.stopped
  else if n = 3 then s.gblAccessErr
  else if n = 4 then s.vfRefused
  else if n = 5 then s.trace.spilling && s.trace.pi ≠ s.trace.ci
  else if n = 6 then s.trace.lost ≠ 0
  else false

/-- A worker is fenced. -/
def State.anyFenced (s : State) : Bool := s.sched.workers.toList.any (fun w => w.fenced)

/-- A POC_N of a gang is asserted beyond the deglitch time. -/
def State.gangActive (s : State) (g : Fin 4) : Bool :=
  (allFin 16).any (fun p => (vget s.gangMask g).getLsbD p.val && (vget s.ports p).ocActive)

def State.sharedLevel (s : State) (n : Nat) : Bool :=
  if n < 16 then
    let p : PortId := ⟨n % 16, Nat.mod_lt _ (by decide)⟩
    (vget s.ports p).ocActive || (s.ocOf p).latched
  else if n < 20 then
    let g : Fin 4 := ⟨n % 4, Nat.mod_lt _ (by decide)⟩
    s.gangActive g || (vget s.gangs g).latched
  else if n = 20 then !s.faults.records.isEmpty
  else if n = 21 then s.anyFenced
  else if n = 22 then s.peat.state ≠ .mounted
  else if n = 23 then s.energy.stage ≠ .normal
  else if n = 24 then s.energy.stdWait || s.energy.defWait
  else if n = 25 then s.time.state = .acquiring || s.time.state = .holdover
  else if n = 26 then s.frames.lock = .slewing
  else if n = 27 then s.pins.tamper ≠ 0 || s.seals.zeroised
  else if n = 28 then !s.peat.quars.isEmpty
  else if n = 29 then !s.pins.pwrfailN
  else if n = 30 then s.power.lost ≠ 0
  else if n = 31 then s.power.oppFault
  else if n = 32 then s.svc.change ≠ 0
  else false

/-- The level the source's island drives; a core's private levels are the ROM's own and not derived. -/
def State.levelOf (s : State) : Src → Bool
  | .vf t n => s.vfLevel t n.val
  | .pf n => s.pfLevel n.val
  | .shared n => s.sharedLevel n.val
  | .core c n => (vget (vget s.sched.cores c).bank n).level

/-! ### Pending and deliverable (R311, R312) -/

def IrqSrc.pending (x : IrqSrc) : Bool := x.en && x.level && !x.inService

def State.pendingSrc (s : State) (x : Src) : Bool := (s.irqSrc x).pending

def State.vectorEntry (s : State) (f : Fn) (v : BitVec 8) : MsixEntry :=
  vget (s.fn f).msix ⟨v.toNat % 64, Nat.mod_lt _ (by decide)⟩

/-- The entry is masked, by its mask bit or by an unaligned address (R86). -/
def MsixEntry.blocked (e : MsixEntry) : Bool := e.mask || e.addr.extractLsb' 0 2 ≠ 0

/-- The function's side lets a message on the vector out (R312, R318). -/
def State.fnOpen (s : State) (f : Fn) (v : BitVec 8) : Bool :=
  !(s.fn f).d3 && !s.fencedFn f && (s.fn f).msixEn && !(s.fn f).fnMask && !(s.vectorEntry f v).blocked

/-- The target's HOLD bit. -/
def State.held (s : State) : Target → Bool
  | .fn .pf0 => s.pfHold
  | .fn (.vf t) => (s.tenant t).irqHold
  | .core c => (vget s.sched.cores c).hold

def State.deliverable (s : State) (x : Src) : Bool :=
  s.pendingSrc x && !s.held (s.srcTarget x) &&
  (match s.srcTarget x with | .fn f => s.fnOpen f (s.irqSrc x).vector | .core _ => true)

/-- The level of a core's wire (R312). -/
def State.coreWire (s : State) (c : CoreId) : Bool := (s.sources (.core c)).any s.deliverable

/-- The first of a list of sources ranked by PRIO, then the lowest number (R314). -/
def State.best (s : State) (l : List Src) : Option Src :=
  l.foldl (fun b x => match b with
    | none => some x
    | some y => if (s.irqSrc y).prio.toNat < (s.irqSrc x).prio.toNat then some x else some y) none

/-- One message on a vector of a function. -/
def State.sendMsix (s : State) (f : Fn) (v : BitVec 8) : State :=
  let e := s.vectorEntry f v
  s.postWrite f (.msix e.addr e.data)

/-- One message for each vector that some listed source has, in the order of the vector's best source (R313). -/
def State.sendVectors (s : State) (f : Fn) : Nat → List Src → State
  | 0, _ => s
  | k + 1, l => match s.best l with
    | none => s
    | some x => State.sendVectors (s.sendMsix f (s.irqSrc x).vector) f k
        (l.filter (fun y => (s.irqSrc y).vector ≠ (s.irqSrc x).vector))

/-- The function signals PME: a source became PENDING in D3hot with PME_En 1 and PME_Status 0 (R319). -/
def State.signalPme (s : State) (f : Fn) : State :=
  if (s.fn f).d3 && (s.fn f).pmeEn && !(s.fn f).pmeStatus then
    (s.modFn f (fun p => p.setDword 0x44 (p.dword 0x44 ||| 0x8000))).emitOut (.pme f)
  else s

/-- Settle a function after a change: PME for a source newly PENDING, a message for each vector with a source newly
deliverable (R312, R313, R319). `pre` is the state before the change. -/
def State.settle (s pre : State) (f : Fn) : State :=
  let l := s.sources (.fn f)
  let newly := l.filter (fun x => s.deliverable x && !(pre.srcTarget x = .fn f && pre.deliverable x))
  let s := if l.any (fun x => s.pendingSrc x && !(pre.srcTarget x = .fn f && pre.pendingSrc x)) then s.signalPme f else s
  s.sendVectors f newly.length newly

/-- Settle the target of a source, if it takes messages. -/
def State.settleSrc (s pre : State) (x : Src) : State :=
  match s.srcTarget x with
  | .fn f => s.settle pre f
  | .core _ => s

/-! ### Levels change (R311) -/

/-- LEVEL of a source becomes 1: a transition counts while EN is 1. -/
def IrqSrc.rise (x : IrqSrc) : IrqSrc :=
  { x with level := true, count := if x.en && !x.level then satAdd x.count 1 255 else x.count }

def IrqSrc.fall (x : IrqSrc) : IrqSrc := { x with level := false }

/-- The controller samples every level again on wake (R324). -/
def State.resample (s : State) : State :=
  let all := s.sources (.fn .pf0) ++ (allFin 4).flatMap (fun c => s.sources (.core c)) ++
    (allFin 256).flatMap (fun t => if (s.tenant t).vf then s.sources (.fn (.vf t)) else [])
  let t := all.foldl (fun a x => a.modSrc x (fun y => if s.levelOf x then y.rise else y.fall)) s
  (allFin 256).foldl (fun a i => if (s.tenant i).vf then a.settle s (.vf i) else a) (t.settle s .pf0)

/-- MGMT runs; while it sleeps, is waking or restarts, levels wait for its next sampling (R324). -/
def State.mgmtRuns (s : State) : Bool := (vget s.power.islands Island.mgmt.idx).state = .running

/-- SOURCE_LEVEL_RISE (R311, R312): an island raises a source's level. Nothing while the level is not driven, the number is
reserved or the level is already 1. A rise that finds MGMT asleep wakes it as a held request does (Table 12.5); the level waits for
the sampling on wake (R324), as it does while MGMT wakes or restarts. -/
def execSourceLevelRise (x : Src) (s : State) : Host.Outcome State Fault Refusal :=
  let drives := match x with | .core _ _ => true | _ => x.listed && s.levelOf x
  if drives && !(s.irqSrc x).level then
    .next (if s.mgmtRuns then (s.modSrc x IrqSrc.rise).settleSrc s x else s.rouse .mgmt)
  else .next s

/-- SOURCE_LEVEL_FALL (R311): the level falls once its cause is gone. -/
def execSourceLevelFall (x : Src) (s : State) : Host.Outcome State Fault Refusal :=
  let drives := match x with | .core _ _ => false | _ => s.levelOf x
  if !drives && (s.irqSrc x).level && s.mgmtRuns then .next (s.modSrc x IrqSrc.fall)
  else .next s

/-! ### Claim and end of service (R314, R315) -/

/-- The claimed source of a claim read, if any. -/
def State.claimable (s : State) (g : Target) : Option Src := s.best ((s.sources g).filter s.pendingSrc)

/-- The value a claim register returns. -/
def State.claimValue (s : State) (g : Target) : Word :=
  match s.claimable g with
  | some x => pack [(1, 63), ((s.irqSrc x).count, 16), (x.number, 0)]
  | none => 0xFFFF

/-- A claim clears COUNT and puts the source in service. -/
def State.claim (s : State) (g : Target) : State :=
  match s.claimable g with
  | some x => s.modSrc x (fun y => { y with count := 0, inService := true })
  | none => s

/-- A claim through the register: either half claims, once. -/
def State.claimTake (s : State) (f : Fn) (h : RdHalf) : State :=
  if s.unsupported f then s.answer .ur
  else if s.fencedFn f then (s.dropLatch f).answer (readResp h 0)
  else ((s.dropLatch f).claim (.fn f)).answer (readResp h (s.claimValue (.fn f)))

/-- The offset of a function's claim register. -/
def claimOff : Fn → Nat
  | .pf0 => 0x60608
  | .vf _ => 0x1108

/-- A read of the claim register; it is held on its way to an island that does not run. -/
def State.claimRead (s : State) (f : Fn) (h : RdHalf) : State :=
  s.front (s.wayTo f (claimOff f)) (.access (h.access f (claimOff f))) (s.claimTake f h)

/-- The source that a number names at a target. -/
def State.srcAt (s : State) (g : Target) (n : Nat) : Option Src :=
  (s.sources g).find? (fun x => x.number = n)

/-- End of service at a target. -/
def State.endService (s : State) (x : Src) : State :=
  if (s.irqSrc x).inService then
    let t := s.modSrc x (fun y => match y.heldRoute with
      | some (tg, v) => { y with inService := false, target := tg, vector := v, heldRoute := none }
      | none => { y with inService := false })
    t.settleSrc s x
  else s

/-- A write to an EOI register (R315). -/
def State.eoiWrite (f : Fn) (v : Word) (s : State) : State :=
  if v.toNat < 65536 then
    match s.srcAt (.fn f) v.toNat with
    | some x => s.endService x
    | none => s.refuseWrite f
  else s.refuseWrite f

/-- T_IRQ_CLAIM (R314). -/
def execTIrqClaim (t : TenantId) (r : RdHalf) (s : State) : Host.Outcome State Fault Refusal := .next (s.claimRead (.vf t) r)

/-- IRQ_PF_CLAIM (R314). -/
def execIrqPfClaim (r : RdHalf) (s : State) : Host.Outcome State Fault Refusal := .next (s.claimRead .pf0 r)

/-- T_IRQ_EOI (R315). -/
def execTIrqEoi (t : TenantId) (a : WrAcc) (v : Word) (s : State) : Host.Outcome State Fault Refusal :=
  .next (s.regWrite (.vf t) 0x1110 .side 0 0 a v (State.eoiWrite (.vf t)))

/-- IRQ_PF_EOI (R315). -/
def execIrqPfEoi (a : WrAcc) (v : Word) (s : State) : Host.Outcome State Fault Refusal :=
  .next (s.regWrite .pf0 0x60610 .side 0 0 a v (State.eoiWrite .pf0))

/-! ### Source registers (R311, R320, R322) -/

/-- The RSV fields of a source register: all of a reserved source's. -/
def Src.rsvFields (x : Src) : List (Nat × Nat) :=
  if x.listed then
    (match x with
     | .shared _ => [(63, 33), (15, 15)]
     | _ => [(63, 24), (15, 15)])
  else [(63, 0)]

def Src.rsv (x : Src) : Word := masks x.rsvFields

/-- A source register's value. -/
def State.srcView (s : State) (x : Src) : Word :=
  let y := s.irqSrc x
  if x.listed then
    pack [(b2n y.heldRoute.isSome, 32), (y.target.toNat, 24), (y.vector.toNat, 16), (y.prio.toNat, 12), (y.count, 4),
          (b2n y.inService, 3), (b2n y.pending, 2), (b2n y.level, 1), (b2n y.en, 0)]
  else 0

/-- EN and PRIO as a write leaves them; setting EN while LEVEL is 1 counts as a transition. -/
def IrqSrc.writeEn (x : IrqSrc) (v : Word) : IrqSrc :=
  let en := v.getLsbD 0
  { x with en := en, prio := v.extractLsb' 12 3,
           count := if en && !x.en && x.level then satAdd x.count 1 255 else x.count }

/-- A write of a private source's register: a vector the function does not have is refused. -/
def State.privateWrite (f : Fn) (x : Src) (vectors : Nat) (v : Word) (s : State) : State :=
  if !x.listed then s
  else if vectors ≤ field v 16 8 then s.refuseWrite f
  else (s.modSrc x (fun y => { y.writeEn v with vector := v.extractLsb' 16 8 })).settleSrc s x

/-- A write of a shared source's register: EN and PRIO at once, the route at once or held. -/
def State.sharedWrite (n : Fin 96) (v : Word) (s : State) : State :=
  let x : Src := .shared n
  let tg := v.extractLsb' 24 8
  let ve := v.extractLsb' 16 8
  if !x.listed then s
  else if 4 < tg.toNat || (tg = 0 && 63 < ve.toNat) || (tg ≠ 0 && ve ≠ 0) then s.refuseWrite .pf0
  else
    let y := s.irqSrc x
    let t := s.modSrc x (fun y =>
      let z := y.writeEn v
      if y.inService then
        (if y.heldRoute.isSome || tg ≠ y.target || ve ≠ y.vector then { z with heldRoute := some (tg, ve) } else z)
      else { z with target := tg, vector := ve })
    if y.inService then t else t.settleSrc s x

/-- The source register that a function's source number names. -/
def srcOf (f : Fn) (n : Fin 64) : Option Src :=
  match f with
  | .pf0 => some (.pf n)
  | .vf t => if h : n.val < 32 then some (.vf t ⟨n.val, h⟩) else none

/-- IRQ_SHARED_WRITE (R322). -/
def execIrqSharedWrite (n : Fin 96) (a : WrAcc) (v : Word) (s : State) : Host.Outcome State Fault Refusal :=
  .next (s.regWrite .pf0 (0x60000 + 8 * n.val) .plain (Src.rsv (.shared n)) (s.srcView (.shared n)) a v (State.sharedWrite n))

/-- The number of vectors of a function (Table 12.1). -/
def vectorsOf : Fn → Nat
  | .pf0 => 64
  | .vf _ => 16

/-- Where a function's source registers start, and how far on its HOLD register lies. -/
def srcOff : Fn → Nat
  | .pf0 => 0x60400
  | .vf _ => 0x1000

def holdOff : Fn → Nat
  | .pf0 => 0x200
  | .vf _ => 0x100

/-- IRQ_SOURCE_WRITE (R311). -/
def execIrqSourceWrite (f : Fn) (n : Fin 64) (a : WrAcc) (v : Word) (s : State) : Host.Outcome State Fault Refusal :=
  match srcOf f n with
  | some x => .next (s.regWrite f (srcOff f + 8 * n.val) .plain x.rsv (s.srcView x) a v (State.privateWrite f x (vectorsOf f)))
  | none => .next s

/-- Set or clear a function target's HOLD (R317). -/
def State.setHold (f : Fn) (v : Word) (s : State) : State :=
  let on := v.getLsbD 0
  let t := match f with
    | .pf0 => { s with pfHold := on }
    | .vf t => s.modTenant t (fun y => { y with irqHold := on })
  t.settle s f

/-- IRQ_HOLD_WRITE (R317). -/
def execIrqHoldWrite (f : Fn) (a : WrAcc) (v : Word) (s : State) : Host.Outcome State Fault Refusal :=
  .next (s.regWrite f (srcOff f + holdOff f) .plain (masks [(63, 1)]) (BitVec.ofNat 64 (b2n (s.held (.fn f)))) a v (State.setHold f))

/-! ### Cores (R321) -/

/-- CORE_CLAIM (R321): a core whose slot is empty, and that is not fenced, claims its best pending source. -/
def execCoreClaim (c : CoreId) (s : State) : Host.Outcome State Fault Refusal :=
  let k := vget s.sched.cores c
  if k.op.isSome || k.fenced || !s.mgmtRuns then .next s
  else match s.claimable (.core c) with
    | some (.shared n) =>
      .next ((s.claim (.core c)).modCore c (fun y =>
        { y with claimed := y.claimed ++ [(n.val, (vget s.shared n).count, s.time.now)] }))
    | _ => .next (s.claim (.core c))

/-- End the core's service of one shared source: the log record, then EOI. -/
def State.coreEnd (s : State) (c : CoreId) (e : Nat × Nat × Nat) : State :=
  let n : Fin 96 := ⟨e.1 % 96, Nat.mod_lt _ (by decide)⟩
  let s := s.modCore c (fun y => { y with claimed := y.claimed.filter (fun z => z ≠ e) })
  let s := if s.peatUp then s.logEvent 0x0B none none (BitVec.ofNat 256 (e.1 + e.2.1 * 256 + e.2.2 * 2 ^ 64)) else s
  s.endService (.shared n)

/-- CORE_EOI (R321): the core ends service of its first claimed shared source whose LEVEL reads 0, and of its private
sources likewise. -/
def execCoreEoi (c : CoreId) (s : State) : Host.Outcome State Fault Refusal :=
  let k := vget s.sched.cores c
  if !s.mgmtRuns then .next s
  else match k.claimed.find? (fun e => !(vget s.shared ⟨e.1 % 96, Nat.mod_lt _ (by decide)⟩).level) with
  | some e => .next (s.coreEnd c e)
  | none =>
    .next ((allFin 16).foldl (fun a n =>
      if (vget k.bank n).level then a else a.endService (.core c n)) s)

/-- IRQ_CORE[c]. -/
def State.coreView (s : State) (c : CoreId) : Word :=
  let k := vget s.sched.cores c
  pack ([(b2n k.hold, 48), (b2n (s.coreWire c), 16)] ++
    (allFin 16).map (fun n => (b2n (vget k.bank n).inService, 32 + n.val)) ++
    (allFin 16).map (fun n => (b2n (vget k.bank n).pending, n.val)))

/-- The PBA word of a function (R318). -/
def State.pba (s : State) (f : Fn) : Word :=
  pack ((List.range (vectorsOf f)).map (fun v =>
    (b2n (!s.fnOpen f (BitVec.ofNat 8 v) &&
      (s.sources (.fn f)).any (fun x => s.pendingSrc x && (s.irqSrc x).vector.toNat = v)), v)))

end Sys2Proof.Machine
end

