-- ==== Sys2Proof/Machine/RingRegs.lean ====
section
/-! DEFINITION. The ring registers of PF0 and of each VF and the doorbells (04 R95, R96; 05 R104 to R111). A function's
registers differ only in their offsets: one operation each serves both. -/

namespace Sys2Proof.Machine

/-- The ring registers' values. -/
def Rings.ctlView (r : Rings) : Word := BitVec.ofNat 64 (b2n r.en)
def Rings.orderSizeView (r : Rings) : Word := BitVec.ofNat 64 r.orderLog2
def Rings.eventSizeView (r : Rings) : Word := BitVec.ofNat 64 r.eventLog2
def Rings.ciView (r : Rings) : Word := BitVec.ofNat 64 r.ci
def Rings.piView (r : Rings) : Word := BitVec.ofNat 64 r.pi

/-- RING_EN (R95, R104): when it becomes 1, waiting notices and completions are written. -/
def State.writeCtl (f : Fn) (v : Word) (s : State) : State :=
  (s.modRings f (fun r => { r with en := v.getLsbD 0 })).drainRing f

/-- Run an update of a ring register that needs RING_IDLE, or refuse it (R95). -/
def State.whenIdle (s : State) (f : Fn) (ok : Bool) (g : Rings → Rings) : State :=
  if ok && s.ringIdle f then s.modRings f g else s.refuseWrite f

/-- The order ring holds no order until the next doorbell. -/
def Rings.emptyOrders (r : Rings) : Rings := { r with cons := 0, prod := 0 }

/-- The event ring restarts: indices 0, CYCLE 1. Events that held an index of the old ring and were not written take new
ones when the rings are enabled again (notes/assumptions/16.md). -/
def Rings.restartEvents (r : Rings) : Rings :=
  { r with pi := 0, ci := 0, alloc := 0, cycle := true, notify := [], again := r.again ++ r.notify }

def State.writeOrderBase (f : Fn) (v : Word) (s : State) : State :=
  s.whenIdle f true (fun r => { r.emptyOrders with orderBase := v &&& bits 63 6 })

def State.writeOrderSize (f : Fn) (v : Word) (s : State) : State :=
  let l := field v 0 4
  s.whenIdle f (4 ≤ l && l ≤ 12) (fun r => { r.emptyOrders with orderLog2 := l })

def State.writeEventBase (f : Fn) (v : Word) (s : State) : State :=
  s.whenIdle f true (fun r => { r.restartEvents with eventBase := v &&& bits 63 5 })

def State.writeEventSize (f : Fn) (v : Word) (s : State) : State :=
  let l := field v 0 5
  s.whenIdle f (6 ≤ l && l ≤ 16) (fun r => { r.restartEvents with eventLog2 := l })

/-- The order doorbell (R96): PRODUCER below the ring's size. -/
def State.writeOrderDb (f : Fn) (v : Word) (s : State) : State :=
  let n := field v 0 12
  if n < (s.rings f).orderSize then s.modRings f (fun r => { r with prod := n }) else s.refuseWrite f

/-- A consumer index is accepted from the current CONSUMER to PI, counted forward around the ring (R107). -/
def Rings.ciOk (r : Rings) (n : Nat) : Bool :=
  n < r.eventSize && (n + r.eventSize - r.ci) % r.eventSize ≤ (r.pi + r.eventSize - r.ci) % r.eventSize

/-- The event consumer index (R107): freed entries take latched notices, then buffered completions (R109). -/
def State.writeEventCi (f : Fn) (v : Word) (s : State) : State :=
  let n := field v 0 16
  if (s.rings f).ciOk n then (s.modRings f (fun r => { r with ci := n })).drainRing f else s.refuseWrite f

/-- An endpoint doorbell (R111). An accepted value joins the tenant's submission order (R123), unless the handle is halted:
then RESET_EP or SET_DEQUEUE joins it (08 R224). -/
def State.writeEpDb (t : TenantId) (h : Fin 1024) (v : Word) (s : State) : State :=
  match s.flow? t h with
  | none => s.refuseWrite (.vf t)
  | some f =>
    let n : BitVec 32 := v.extractLsb' 0 32
    if f.st = .detached || f.st = .lost then s
    else if n = f.last then s
    else if (f.last - n).toNat ≤ f.ringEntries then s
    else if (n - f.consumed).toNat ≤ f.ringEntries && n ≠ f.consumed then
      (s.modFlow t h (fun g =>
        { g with last := n,
                 announced :=
            if g.st = .running then g.announced ++ [((s.tenant t).seqNo, (n - g.last).toNat)] else g.announced })).modTenant t
        (fun x => { x with seqNo := x.seqNo + 1 })
    else s.refuseWrite (.vf t)

/-! ### The rows -/

/-- GBL_CTL_WRITE (R95). -/
def execGblCtlWrite (a : WrAcc) (v : Word) (s : State) : Host.Outcome State Fault Refusal :=
  .next (s.regWrite .pf0 0x10 .plain (bits 63 1) s.mgr.ctlView a v (State.writeCtl .pf0))

/-- GBL_ORDER_BASE_WRITE (R96). -/
def execGblOrderBaseWrite (a : WrAcc) (v : Word) (s : State) : Host.Outcome State Fault Refusal :=
  .next (s.regWrite .pf0 0x200 .plain (bits 5 0) s.mgr.orderBase a v (State.writeOrderBase .pf0))

/-- GBL_ORDER_SIZE_WRITE (R96). -/
def execGblOrderSizeWrite (a : WrAcc) (v : Word) (s : State) : Host.Outcome State Fault Refusal :=
  .next (s.regWrite .pf0 0x208 .plain (bits 63 4) s.mgr.orderSizeView a v (State.writeOrderSize .pf0))

/-- GBL_ORDER_DB (R96). -/
def execGblOrderDb (a : WrAcc) (v : Word) (s : State) : Host.Outcome State Fault Refusal :=
  .next (s.regWrite .pf0 0x210 .side (bits 63 12) 0 a v (State.writeOrderDb .pf0))

/-- GBL_EVENT_BASE_WRITE (R96). -/
def execGblEventBaseWrite (a : WrAcc) (v : Word) (s : State) : Host.Outcome State Fault Refusal :=
  .next (s.regWrite .pf0 0x218 .plain (bits 4 0) s.mgr.eventBase a v (State.writeEventBase .pf0))

/-- GBL_EVENT_SIZE_WRITE (R96). -/
def execGblEventSizeWrite (a : WrAcc) (v : Word) (s : State) : Host.Outcome State Fault Refusal :=
  .next (s.regWrite .pf0 0x220 .plain (bits 63 5) s.mgr.eventSizeView a v (State.writeEventSize .pf0))

/-- GBL_EVENT_CI (R107). -/
def execGblEventCi (a : WrAcc) (v : Word) (s : State) : Host.Outcome State Fault Refusal :=
  .next (s.regWrite .pf0 0x228 .side (bits 63 16) s.mgr.ciView a v (State.writeEventCi .pf0))

/-- T_CTL_WRITE (R104). -/
def execTCtlWrite (t : TenantId) (a : WrAcc) (v : Word) (s : State) : Host.Outcome State Fault Refusal :=
  .next (s.regWrite (.vf t) 0x10 .plain (bits 63 1) (s.tenant t).rings.ctlView a v (State.writeCtl (.vf t)))

/-- T_ORDER_BASE_WRITE (R104). -/
def execTOrderBaseWrite (t : TenantId) (a : WrAcc) (v : Word) (s : State) : Host.Outcome State Fault Refusal :=
  .next (s.regWrite (.vf t) 0x100 .plain (bits 5 0) (s.tenant t).rings.orderBase a v (State.writeOrderBase (.vf t)))

/-- T_ORDER_SIZE_WRITE (R104). -/
def execTOrderSizeWrite (t : TenantId) (a : WrAcc) (v : Word) (s : State) : Host.Outcome State Fault Refusal :=
  .next (s.regWrite (.vf t) 0x108 .plain (bits 63 4) (s.tenant t).rings.orderSizeView a v (State.writeOrderSize (.vf t)))

/-- T_ORDER_DB (R104). -/
def execTOrderDb (t : TenantId) (a : WrAcc) (v : Word) (s : State) : Host.Outcome State Fault Refusal :=
  .next (s.regWrite (.vf t) 0x110 .side (bits 63 12) 0 a v (State.writeOrderDb (.vf t)))

/-- T_EVENT_BASE_WRITE (R104). -/
def execTEventBaseWrite (t : TenantId) (a : WrAcc) (v : Word) (s : State) : Host.Outcome State Fault Refusal :=
  .next (s.regWrite (.vf t) 0x118 .plain (bits 4 0) (s.tenant t).rings.eventBase a v (State.writeEventBase (.vf t)))

/-- T_EVENT_SIZE_WRITE (R104). -/
def execTEventSizeWrite (t : TenantId) (a : WrAcc) (v : Word) (s : State) : Host.Outcome State Fault Refusal :=
  .next (s.regWrite (.vf t) 0x120 .plain (bits 63 5) (s.tenant t).rings.eventSizeView a v (State.writeEventSize (.vf t)))

/-- T_EVENT_CI (R107). -/
def execTEventCi (t : TenantId) (a : WrAcc) (v : Word) (s : State) : Host.Outcome State Fault Refusal :=
  .next (s.regWrite (.vf t) 0x128 .side (bits 63 16) (s.tenant t).rings.ciView a v (State.writeEventCi (.vf t)))

/-- T_EP_DB (R111). -/
def execTEpDb (t : TenantId) (h : Fin 1024) (a : WrAcc) (v : Word) (s : State) : Host.Outcome State Fault Refusal :=
  .next (s.regWrite (.vf t) (0x2000 + 8 * h.val) .side (bits 63 32) 0 a v (State.writeEpDb t h))

end Sys2Proof.Machine
end

