-- ==== Sys2Proof/Machine/Tenancy.lean ====
section
/-! DEFINITION. Shares, reservations, fencing, wiping and the coming and going of VFs (11 R291 to R306). -/

namespace Sys2Proof.Machine

/-! ### Share records (03 Table 3.10; 11 Table 11.3) -/

/-- Where MASK's field i lies in a share record: word, low bit, width. -/
def sharePlace (i : Nat) : Nat × Nat × Nat :=
  match i with
  | 0 => (0, 0, 16) | 1 => (0, 16, 16) | 2 => (0, 32, 16) | 3 => (0, 48, 16) | 4 => (1, 0, 64) | 5 => (2, 0, 64)
  | 6 => (3, 0, 32) | 7 => (3, 32, 32) | 8 => (4, 0, 8) | 9 => (4, 8, 8) | 10 => (4, 16, 8) | 11 => (4, 24, 8)
  | 12 => (4, 32, 32) | _ => (5, 0, 8)

/-- The raw value of field i in a record's six words. -/
def shareRaw (l : List Word) (i : Nat) : Nat :=
  field (l.getD (sharePlace i).1 0) (sharePlace i).2.1 (sharePlace i).2.2

/-- The range of field i (Table 3.10). -/
def shareRange (i v : Nat) : Bool :=
  match i with
  | 0 => v ≤ 1024
  | 1 | 2 | 3 => v ≤ 256
  | 4 | 5 => v < 2 ^ 48
  | 6 | 7 => true
  | 8 => 1 ≤ v && v ≤ 255
  | 9 => v ≤ 7
  | 10 => 1 ≤ v && v ≤ 32
  | 11 => v ≤ 2
  | 12 => v < 2 ^ 24
  | _ => v ≤ 7 || v = 0xFF

/-- BANK_AFFINITY 0xFF stands for the tenant number mod 8. -/
def shareValue (t i v : Nat) : Nat := if i = 13 && v = 0xFF then t % 8 else v

/-- Field i of a share. -/
def ShareRec.get (r : ShareRec) (i : Nat) : Nat :=
  match i with
  | 0 => r.epQuota | 1 => r.capHs | 2 => r.capFs | 3 => r.capSs | 4 => r.cir | 5 => r.pir | 6 => r.cbs | 7 => r.pbs
  | 8 => r.weight | 9 => r.base | 10 => r.workerLimit | 11 => r.energy | 12 => r.tcMap.toNat | _ => r.bank

/-- A share with field i replaced. -/
def ShareRec.put (r : ShareRec) (i v : Nat) : ShareRec :=
  match i with
  | 0 => { r with epQuota := v } | 1 => { r with capHs := v } | 2 => { r with capFs := v } | 3 => { r with capSs := v }
  | 4 => { r with cir := v } | 5 => { r with pir := v } | 6 => { r with cbs := v } | 7 => { r with pbs := v }
  | 8 => { r with weight := v } | 9 => { r with base := v } | 10 => { r with workerLimit := v }
  | 11 => { r with energy := v } | 12 => { r with tcMap := BitVec.ofNat 24 v } | _ => { r with bank := v }

/-- A share from a record's six words, for a tenant. -/
def shareOf (t : Nat) (l : List Word) : ShareRec :=
  (List.range 14).foldl (fun r i => r.put i (shareValue t i (shareRaw l i))) {}

/-- Word k of a share as TEN_SHARE shows it. -/
def ShareRec.word (r : ShareRec) (k : Nat) : Word :=
  pack ((List.range 14).filterMap (fun i =>
    if (sharePlace i).1 = k then some (r.get i, (sharePlace i).2.1) else none))

/-- min ≤ v ≤ max for field i; TC_MAP class by class (03 R63). -/
def fieldWithin (i lo v hi : Nat) : Bool :=
  if i = 12 then (List.range 8).all (fun c =>
    lo / 8 ^ c % 8 ≤ v / 8 ^ c % 8 && v / 8 ^ c % 8 ≤ hi / 8 ^ c % 8)
  else lo ≤ v && v ≤ hi

/-- The tenant's TENANTS entry. -/
def State.entry? (s : State) (t : TenantId) : Option TenantEntry :=
  match s.img.image with
  | some i => i.tenants.find? (fun e => e.tenant = t.val)
  | none => none

/-! ### Endpoint-table entries (R298, R299) -/

/-- Open handles and key contexts of a tenant. -/
def State.handles (s : State) (t : TenantId) : Nat := (s.flows.filter (fun f => f.t = t)).length
def State.keyCtxs (s : State) (t : TenantId) : Nat := (s.flows.filter (fun f => f.t = t && f.key.isSome)).length
def State.use (s : State) (t : TenantId) : Nat := s.handles t + s.keyCtxs t

/-- The larger EP_QUOTA of the share in force and the one that waits for the swap; none without either. -/
def Tenant.quota (x : Tenant) : Option Nat :=
  match x.share, x.swap with
  | some a, some b => some (Nat.max a.epQuota b.epQuota)
  | some a, none => some a.epQuota
  | none, some b => some b.epQuota
  | none, none => none

/-- Entries reserved for a tenant. -/
def State.reserved (s : State) (t : TenantId) : Nat :=
  match (s.tenant t).quota with
  | some q => Nat.max q (s.use t)
  | none => 0

/-- Unreserved entries of the whole table (TEN_POOL). -/
def State.pool (s : State) : Nat := 16384 - ((allFin 256).map (fun t => s.reserved t)).foldl (· + ·) 0

/-- Entries of the endpoint table in use. -/
def State.usedEntries (s : State) : List Nat :=
  s.flows.flatMap (fun f => f.entry :: (match f.key with | some k => [k.entry] | none => []))

/-- The lowest free entry from bank b on, wrapping after bank 7 (R299). An operation of a closed handle that still occupies a
slot keeps its entry until it ends. -/
def State.freeEntry (s : State) (b : Nat) : Option Nat :=
  let used := s.usedEntries ++ s.slotOps.map (fun o => o.task)
  (List.range 16384).findSome? (fun i =>
    let n := (b * 2048 + i) % 16384
    if used.contains n then none else some n)

/-! ### Waiting orders on a tenant -/

/-- Discard a share that waits for the swap: its order, or the auto-enable, ends ABORTED (Table 11.4, R293). -/
def State.dropSwap (s : State) (t : TenantId) : State :=
  if (s.tenant t).swap.isSome then
    let auto := (s.tenant t).st = .standby &&
      !(s.mgr.orders.any (fun o => o.stage = .waiting && o.code = 0x40 && o.tenant = t))
    let en := (s.tenant t).st = .standby
    let s := s.modTenant t (fun x =>
      { x with swap := none, lastEnable := if en then BitVec.ofNat 8 Status.aborted.code else x.lastEnable })
    let s := s.endWaiting t [0x40, 0x44] .aborted
    if auto then s.mgrTenantNotice t 4 else s
  else s

/-! ### Fencing and wiping (Tables 11.7, 11.8) -/

/-- Fence a tenant (Table 11.8): nothing of it leaves from here on. -/
def State.fence (s : State) (t : TenantId) : State :=
  let s := s.dropSwap t
  let s := s.endWaiting t [0x41] .aborted
  let s := s.modTenant t (fun x =>
    { x with st := .fenced, pci := { x.pci with held := [] }, rings := { x.rings with notify := [], orders := [] } })
  let s := s.dropTenantHs t
  let s := { s with
    sched := { s.sched with ready := s.sched.ready.map (fun (l : List Nat) => l.filter (fun k => s.taskTenant k ≠ some t)) } }
  s.mgrTenantNotice t 2

/-- Count an FLR or a fencing (TEN_STATE.FLRS). -/
def State.countFlr (s : State) (t : TenantId) : State :=
  s.modTenant t (fun x => { x with flrs := satAdd x.flrs 1 65535 })

/-- Steps 1 to 5 of Table 11.7: pipes torn down without notice, handles closed, buffers emptied, registers reset, the
share removed. -/
def State.wipe (s : State) (t : TenantId) : State :=
  let s := s.dropSwap t
  let s := (s.tearDownAll (fun f => f.t = t) 0 true false).dropTenantHs t
  let s := s.modTenant t (fun x =>
    { x with rings := {}, latTol := 0, irq := Vector.replicate 32 {}, irqHold := false, accessErr := false,
             share := none, swap := none, groupBad := [], seqNo := 0 })
  { s with flows := s.flows.filter (fun f => f.t ≠ t) }

/-! ### Auto-enable and VFs (R84, R292, R293) -/

/-- Enable a STANDBY tenant as if by TEN_ENABLE: its INITIAL share waits for the swap, or it fails for want of entries. -/
def State.autoEnable (s : State) (t : TenantId) : State :=
  match s.entry? t with
  | some e =>
    if e.auto && (s.tenant t).st = .standby && (s.tenant t).swap.isNone then
      if s.pool < e.init.epQuota then
        (s.modTenant t (fun x => { x with lastEnable := BitVec.ofNat 8 Status.overQuota.code })).mgrTenantNotice t 4
      else s.modTenant t (fun x => { x with swap := some e.init })
    else s
  | none => s

/-- The grants recorded for a tenant show on its VPs once its VF exists (06 R155, 03 R50). -/
def State.presentVps (s : State) (t : TenantId) : State :=
  (vpOrder (s.devs.filter (fun d => d.st = .granted && d.tenant = some t))).foldl
    (fun a d => a.vpEvent d (vcGrant ||| vcConnect ||| (match a.dev? d with | some x => x.liveBits (a.fedOc d) | none => 0))) s

/-- A tenant's VF comes into existence. -/
def State.vfAppears (s : State) (t : TenantId) : State :=
  let s := (s.modTenant t (fun x => { x with vf := true })).mgrTenantNotice t 0
  let s := s.presentVps t
  if (s.tenant t).st = .vacant then
    (s.modTenant t (fun x => { x with st := .standby })).autoEnable t
  else s

/-- A tenant's VF ceases to exist; its configuration space and MSI-X table go with it. -/
def State.vfCeases (s : State) (t : TenantId) : State :=
  let s := (s.modTenant t (fun x => { x with vf := false, pci := {} })).mgrTenantNotice t 1
  match (s.tenant t).st with
  | .standby => (s.dropSwap t).modTenant t (fun x => { x with st := .vacant })
  | .active | .quiescing | .quiesced => (s.countFlr t).fence t
  | _ => s

/-- VF n exists while VF Enable is 1 and n ≤ NumVFs (R84). -/
def State.vfExists (s : State) (t : TenantId) : Bool := s.vfEnable && decide (t.val < s.numVfs)

/-- Bring every tenant in line with VF Enable and NumVFs, in ascending order. -/
def State.syncVfs (s : State) : State :=
  (allFin 256).foldl (fun a t =>
    if a.vfExists t && !(a.tenant t).vf then a.vfAppears t
    else if !a.vfExists t && (a.tenant t).vf then a.vfCeases t else a) s

/-- An operation of the tenant is in a worker slot. -/
def State.tenantInSlots (s : State) (t : TenantId) : Bool := s.slotOps.any (fun o => s.taskTenant o.task = some t)

/-- FENCE_DRAIN_END (Table 11.8 step 5): the fenced tenant's engine work has drained. -/
def execFenceDrainEnd (t : TenantId) (s : State) : Host.Outcome State Fault Refusal :=
  if (s.tenant t).st = .fenced && !s.tenantInSlots t then
    let s := (s.wipe t).mgrTenantNotice t 3
    if (s.tenant t).vf then .next ((s.modTenant t (fun x => { x with st := .standby })).autoEnable t)
    else .next (s.modTenant t (fun x => { x with st := .vacant }))
  else .next s

/-- The effect of an FLR of a VF on its tenant (Table 11.2, R305). -/
def State.flrTenant (s : State) (t : TenantId) : State :=
  match (s.tenant t).st with
  | .vacant => s
  | .active | .quiescing => (s.countFlr t).fence t
  | .standby | .quiesced => ((s.countFlr t).wipe t).modTenant t (fun x => { x with st := .standby })
  | _ => s.countFlr t

/-! ### Manager reset at PF0 FLR and PERST_N (04 R95) -/

/-- Manager rings, latches and flags return to their reset values; orders past CHECK run on without an event, and a FETCH in a slot takes
nothing. -/
def State.resetManager (s : State) : State :=
  let keep := (s.mgr.orders.filter (fun o => o.stage = .acting || o.stage = .waiting)).map
    (fun o => { o with ghost := true })
  { s.dropFetches .pf0 with mgr := { orders := keep }, gblAccessErr := false, vfRefused := false }

/-! ### Shares at work (Table 11.5, R295) -/

end Sys2Proof.Machine
end

