-- ==== Sys2Proof/Machine/Pci.lean ====
section
/-! DEFINITION. Configuration space, function resets, MSI-X structures and the host link (03 R50, R54; 04 R74 to R86,
R417; 12 R318, R319). The dword layout is PCIe's (notes/assumptions/6.md). -/

namespace Sys2Proof.Machine

/-! ### Dwords -/

/-- One dword: read-only ones, stored bits, write-1-to-clear bits, and bits that nothing fixes. -/
structure CfgReg where
  off : Nat
  ro : BitVec 32 := 0
  rw : BitVec 32 := 0
  w1c : BitVec 32 := 0
  free : BitVec 32 := 0
  deriving DecidableEq, Repr

/-- Dwords that PF0 and every VF share: header, Power Management, AER. -/
def commonCfg : List CfgReg :=
  [{ off := 0x08, ro := 0x0C038001 }, { off := 0x34, ro := 0x40 },
   { off := 0x40, ro := 0x48035001 }, { off := 0x44, ro := 0x8, rw := 0x0103, w1c := 0x8000 },
   { off := 0x50, ro := 0x00029010 }, { off := 0x54, ro := 0x10008022, free := 0xFC0 },
   { off := 0x74, ro := 0x0003081F },
   { off := 0x100, ro := 0x14820001 }, { off := 0x104, w1c := 0x03FFF030 }, { off := 0x108, rw := 0x03FFF030 },
   { off := 0x10C, rw := 0x03FFF030 }, { off := 0x110, w1c := 0x0000F1C1 }, { off := 0x114, rw := 0x0000F1C1 },
   { off := 0x118, ro := 0xA0, rw := 0x140, free := 0x1F }]

/-- PF0's capabilities up to ARI (Table 4.3). -/
def pfCfgLow : List CfgReg :=
  [{ off := 0x00, ro := 0x02561E9D }, { off := 0x04, ro := 0x00100000, rw := 0x0546, w1c := 0xF9000000 },
   { off := 0x0C, rw := 0xFF }, { off := 0x10, ro := 4, rw := 0xFF000000 }, { off := 0x14, rw := 0xFFFFFFFF },
   { off := 0x18, ro := 4, rw := 0xFFFFC000 }, { off := 0x1C, rw := 0xFFFFFFFF }, { off := 0x3C, rw := 0xFF },
   { off := 0x58, rw := 0x71FF, w1c := 0xF0000 }, { off := 0x5C, ro := 0x00400845, free := 0xFF03F000 },
   { off := 0x60, rw := 0xCA, free := 0xFFFF0000 }, { off := 0x78, rw := 0x141F }, { off := 0x7C, ro := 0x3E },
   { off := 0x80, rw := 0xFFFF, free := 0xFFFF0000 },
   { off := 0x90, ro := 0x003F0011, rw := 0xC0000000 }, { off := 0x94, ro := 0x2 }, { off := 0x98, ro := 0x2002 },
   { off := 0x148, ro := 0x1501000E }, { off := 0x14C, ro := 0x0100 }, { off := 0x150, ro := 0x16010003 }]

/-- PF0's capabilities from SR-IOV on (Table 4.3, R83). -/
def pfCfgHigh : List CfgReg :=
  [{ off := 0x160, ro := 0x1A010010 }, { off := 0x168, rw := 0x19 }, { off := 0x16C, ro := 0x01000100 },
   { off := 0x170, rw := 0xFFFF }, { off := 0x174, ro := 0x00010001 }, { off := 0x178, ro := 0x02570000 },
   { off := 0x17C, ro := 0x11 }, { off := 0x180, rw := 0x11 }, { off := 0x184, ro := 4, rw := 0xFFFF0000 },
   { off := 0x188, rw := 0xFFFFFFFF }, { off := 0x18C, ro := 4, rw := 0xFFFFF000 }, { off := 0x190, rw := 0xFFFFFFFF },
   { off := 0x1A0, ro := 0x1B01000D }, { off := 0x1A4, ro := 0xC, rw := 0x000C0000 },
   { off := 0x1B0, ro := 0x1D010019 }, { off := 0x1B4, rw := 0x3 }, { off := 0x1B8, w1c := 0xF },
   { off := 0x1D0, ro := 0x1E010025 }, { off := 0x1D4, ro := 0x80000001 },
   { off := 0x1E0, ro := 0x21010026 }, { off := 0x210, ro := 0x2401002A }, { off := 0x214, free := 0x3 }, { off := 0x218, free := 0x3 },
   { off := 0x21C, free := 0x7DF }, { off := 0x240, ro := 0x26010027 },
   { off := 0x260, ro := 0x27010018 }, { off := 0x264, rw := 0x1FFF1FFF },
   { off := 0x270, ro := 0x2801001E }, { off := 0x274, ro := 0x0021001F, free := 0xFF00 },
   { off := 0x278, rw := 0xE3FFFF0F }, { off := 0x27C, rw := 0xFB },
   { off := 0x280, ro := 0x0001001F }, { off := 0x284, ro := 0x0401 }, { off := 0x288, rw := 0xFF01 }]

/-- Dwords of PF0's capabilities whose contents neither text fixes. -/
def pfFree (off : Nat) : Bool :=
  (0x11C ≤ off && off < 0x12C) || (0x1BC ≤ off && off < 0x1C4) || off = 0x1D8 || (0x1E4 ≤ off && off < 0x204) ||
  off = 0x230 || (0x244 ≤ off && off < 0x258)

/-- A VF's own dwords (Table 4.4). -/
def vfCfg : List CfgReg :=
  [{ off := 0x00, ro := 0xFFFFFFFF }, { off := 0x04, ro := 0x00100000, rw := 0x0004, w1c := 0xF9000000 },
   { off := 0x58, w1c := 0xF0000 },
   { off := 0x90, ro := 0x000F0011, rw := 0xC0000000 }, { off := 0x94, ro := 0x2 }, { off := 0x98, ro := 0x802 },
   { off := 0x148, ro := 0x1501000E }, { off := 0x150, ro := 0x0001000D }, { off := 0x154, ro := 0xC, rw := 0x000C0000 }]

/-- The dword at an offset of a function; bytes outside every capability read 0 and ignore writes (R82). -/
def cfgReg (f : Fn) (off : Nat) : CfgReg :=
  let l := match f with
    | .pf0 => pfCfgLow ++ pfCfgHigh ++ commonCfg
    | .vf _ => vfCfg ++ commonCfg
  match l.find? (fun r => r.off = off) with
  | some r => r
  | none => { off := off, free := if f = .pf0 && pfFree off then 0xFFFFFFFF else 0 }

/-- A dword as the system page size shapes it: at 64 KiB each VF BAR2 spans 64 KiB (R83). -/
def State.cfgReg (s : State) (f : Fn) (off : Nat) : CfgReg :=
  let r := Machine.cfgReg f off
  if f = .pf0 && off = 0x18C && s.pf.bit 0x180 4 then { r with rw := 0xFFFF0000 } else r

/-- The stored and fixed part of a dword. -/
def State.cfgBase (s : State) (f : Fn) (off : Nat) : BitVec 32 :=
  let r := s.cfgReg f off
  ((s.fn f).dword off &&& (r.rw ||| r.w1c)) ||| r.ro ||| (Config.cfgDword off &&& r.free)

/-- The Device Serial Number: the last eight bytes of the unit key's digest, big-endian (R81). -/
def serialNumber : Word :=
  BitVec.ofNat 64 (beNat ((digestBytes (Config.sha256 unitPublicKey)).drop 24))

/-- Subsystem IDs (Table 4.2, R68). -/
def State.subsystem (s : State) (f : Fn) : BitVec 32 :=
  match s.img.image with
  | some i => (match f with | .pf0 => i.glob.pfSub | .vf _ => i.glob.vfSub) ++ i.glob.subVendor
  | none => 0x00001E9D

/-- Next Function Number of a VF: its own plus one, or 0 for the last function on its bus. -/
def State.nextFunction (s : State) (t : TenantId) : Nat :=
  if t.val = 255 || t.val + 1 = Nat.min s.numVfs 255 then 0 else t.val + 2

/-- A configuration read. -/
def State.cfgRead (s : State) (f : Fn) (off : Nat) : BitVec 32 :=
  match f with
  | .pf0 =>
    if off = 0x2C then s.subsystem f
    else if off = 0x154 then serialNumber.extractLsb' 0 32
    else if off = 0x158 then serialNumber.extractLsb' 32 32
    else s.cfgBase f off
  | .vf t =>
    if off = 0x2C then s.subsystem f
    else if off = 0x5C || off = 0x60 || off = 0x7C || off = 0x80 then s.cfgBase .pf0 off
    else if off = 0x14C then BitVec.ofNat 32 (s.nextFunction t * 256)
    else s.cfgBase f off

/-! ### Writes with an effect -/

/-- Store the writable bits of a dword. -/
def State.cfgStore (s : State) (f : Fn) (off : Nat) (v : BitVec 32) : State :=
  let r := s.cfgReg f off
  s.modFn f (fun p =>
    let old := p.dword off
    p.setDword off ((old &&& ~~~r.rw &&& ~~~(v &&& r.w1c)) ||| (v &&& r.rw)))

/-- Every function whose held writes can go out sends them (R417). -/
def State.releaseAll (s : State) : State :=
  (allFin 256).foldl (fun a t => a.releaseHeld (.vf t)) (s.releaseHeld .pf0)

/-- VF Enable (R84): setting it is refused without ARI Capable Hierarchy and on an imageless controller. -/
def State.writeVfEnable (s : State) (on : Bool) : State :=
  if on && (!s.pf.bit 0x168 4 || s.img.image.isNone) then { s with vfRefused := true }
  else
    let d := s.pf.dword 0x168
    ({ s with pf := s.pf.setDword 0x168 (if on then d ||| 1 else d &&& ~~~1#32) }).syncVfs

/-- NumVFs (R84): a value above 256 is stored as 256. -/
def State.writeNumVfs (s : State) (n : Nat) : State :=
  ({ s with pf := s.pf.setDword 0x170 (BitVec.ofNat 32 (Nat.min n 256)) }).syncVfs

/-- The power state of PMCSR: D0 or D3hot; D1 and D2 are absent and leave it. Return to D0 releases delivery (12 R319). -/
def State.writePmState (s : State) (f : Fn) (v : BitVec 2) : State :=
  if v = 0 || v = 3 then
    (s.modFn f (fun p => p.setDword 0x44 ((p.dword 0x44 &&& ~~~3#32) ||| v.setWidth 32))).settle s f
  else s

/-- An FLR of PF0 (03 R50, 04 R95): manager rings, PF0's configuration space and MSI-X table, and every VF go. -/
def State.flrPf0 (s : State) : State := ({ s.resetManager with pf := {} }).syncVfs

/-- An FLR of a VF: its configuration space and MSI-X table reset, its tenant as Table 11.2 states. -/
def State.flrVf (s : State) (t : TenantId) : State := (s.modTenant t (fun x => { x with pci := {} })).flrTenant t

def State.flr (s : State) : Fn → State
  | .pf0 => s.flrPf0
  | .vf t => s.flrVf t

/-- A configuration write. VF Enable and ARI Capable Hierarchy in one write: the new ARI bit judges VF Enable, and the other bits of a
refused write are stored (DESIGN CHOICE, notes/assumptions/104.md). -/
def State.cfgWrite (s : State) (f : Fn) (off : Nat) (v : BitVec 32) : State :=
  let t := s.cfgStore f off v
  if off = 0x04 then t.releaseHeld f
  else if off = 0x44 then
    let keep : BitVec 32 := (s.fn f).dword 0x44 &&& 3
    if v &&& 3 = 0 || v &&& 3 = 3 then t.settle s f
    else (t.modFn f (fun p => p.setDword 0x44 ((p.dword 0x44 &&& ~~~3#32) ||| keep))).settle s f
  else if off = 0x58 && v.getLsbD 15 then t.flr f
  else if off = 0x90 then t.settle s f
  else if off = 0x168 && f = .pf0 then
    let was := s.pf.bit 0x168 0
    let t := { t with pf := t.pf.setDword 0x168 ((t.pf.dword 0x168 &&& ~~~1#32) ||| (if was then 1 else 0)) }
    if v.getLsbD 0 = was then t.syncVfs else t.writeVfEnable (v.getLsbD 0)
  else if off = 0x170 && f = .pf0 then t.writeNumVfs (v.toNat % 65536)
  else t

/-- The function answers configuration requests: PF0 always, a VF while it exists. -/
def State.fnPresent (s : State) : Fn → Bool
  | .pf0 => true
  | .vf t => (s.tenant t).vf

/-- A configuration request at FUNC: Retry Status until the image lock, without effect (03 R54). -/
def State.cfgTake (s : State) (f : Fn) (r : Resp) (eff : State → State) : State :=
  if !s.img.locked then s.answer .crs
  else if !s.fnPresent f then s.answer .ur
  else (eff s).answer r

/-- A configuration request; it is held on its way to an island that does not run. -/
def State.cfgAccess (s : State) (f : Fn) (q : CfgReq) (r : Resp) (eff : State → State) : State :=
  s.front hostWay (.config f q) (s.cfgTake f r eff)

/-- A request that writes some bits of a dword and leaves its other writable bits. -/
def State.cfgField (s : State) (f : Fn) (off : Nat) (mask v : BitVec 32) : CfgReq :=
  .write off (((s.fn f).dword off &&& (s.cfgReg f off).rw &&& ~~~mask) ||| (v &&& mask))

def State.cfgRequest (s : State) (f : Fn) (r : CfgReq) : State :=
  match r with
  | .read off => s.cfgAccess f r (.half (s.cfgRead f off)) id
  | .write off v => s.cfgAccess f r .ok (fun s => s.cfgWrite f off v)

/-- CONFIG_REQUEST (R54). -/
def execConfigRequest (f : Fn) (r : CfgReq) (s : State) : Host.Outcome State Fault Refusal := .next (s.cfgRequest f r)

/-- VF_ENABLE_WRITE (R84). -/
def execVfEnableWrite (on : Bool) (s : State) : Host.Outcome State Fault Refusal :=
  .next (s.cfgAccess .pf0 (s.cfgField .pf0 0x168 1 (if on then 1 else 0)) .ok (fun s => s.writeVfEnable on))

/-- NUMVFS_WRITE (R84). -/
def execNumvfsWrite (n : BitVec 16) (s : State) : Host.Outcome State Fault Refusal :=
  .next (s.cfgAccess .pf0 (s.cfgField .pf0 0x170 0xFFFF (n.setWidth 32)) .ok (fun s => s.writeNumVfs n.toNat))

/-- PM_STATE_WRITE (R319). -/
def execPmStateWrite (f : Fn) (v : BitVec 2) (s : State) : Host.Outcome State Fault Refusal :=
  .next (s.cfgAccess f (s.cfgField f 0x44 3 (v.setWidth 32)) .ok (fun s => s.writePmState f v))

/-- PF0_FLR (R50). -/
def execPf0Flr (s : State) : Host.Outcome State Fault Refusal := 
  .next (s.cfgAccess .pf0 (s.cfgField .pf0 0x58 0x8000 0x8000) .ok State.flrPf0)

/-- VF_FLR (R303). -/
def execVfFlr (t : TenantId) (s : State) : Host.Outcome State Fault Refusal :=
  .next (s.cfgAccess (.vf t) (s.cfgField (.vf t) 0x58 0x8000 0x8000) .ok (fun s => s.flrVf t))

/-! ### MSI-X (04 R86, 12 R318) -/

def State.modEntry (s : State) (f : Fn) (n : Nat) (g : MsixEntry → MsixEntry) : State :=
  s.modFn f (fun p => { p with msix := vmod p.msix ⟨n % 64, Nat.mod_lt _ (by decide)⟩ g })

/-- Store one aligned 32-bit word of a table entry: message address low and high, data, vector control. -/
def MsixEntry.store (e : MsixEntry) (w : Nat) (v : BitVec 32) : MsixEntry :=
  if w = 0 then { e with addr := e.addr.extractLsb' 32 32 ++ v }
  else if w = 1 then { e with addr := v ++ e.addr.extractLsb' 0 32 }
  else if w = 2 then { e with data := v }
  else { e with mask := v.getLsbD 0 }

/-- A write to BAR2 (R86): the table takes aligned 32-bit and 64-bit writes; other writes to an entry are refused; the PBA
and the rest ignore writes. -/
def State.writeMsix (s : State) (f : Fn) (off size : Nat) (v : Word) : State :=
  if vectorsOf f * 16 ≤ off then s
  else if (size = 4 || size = 8) && off % size = 0 then
    let t := s.modEntry f (off / 16) (fun e => e.store (off / 4 % 4) (v.extractLsb' 0 32))
    let t := if size = 8 then t.modEntry f (off / 16) (fun e => e.store (off / 4 % 4 + 1) (v.extractLsb' 32 32)) else t
    t.settle s f
  else s.accessErr f

/-- The aligned 32-bit word i of a function's BAR2 (R86, Table 4.5): the table, the PBA, and 0 elsewhere. -/
def State.bar2Word (s : State) (f : Fn) (i : Nat) : BitVec 32 :=
  let pba := if f = .pf0 then 0x800 else 0x200
  if i < vectorsOf f * 4 then
    let e := vget (s.fn f).msix ⟨i / 4 % 64, Nat.mod_lt _ (by decide)⟩
    if i % 4 = 0 then e.addr.extractLsb' 0 32 else if i % 4 = 1 then e.addr.extractLsb' 32 32
    else if i % 4 = 2 then e.data else BitVec.ofNat 32 (b2n e.mask)
  else if i = pba then (s.pba f).extractLsb' 0 32
  else if i = pba + 1 then (s.pba f).extractLsb' 32 32
  else 0

/-- What a read of BAR2 returns (R86): the aligned 32-bit words that it touches, whatever its size and alignment. It has no side
effect. -/
def State.bar2Read (s : State) (f : Fn) (off size : Nat) : List (BitVec 32) :=
  (List.range ((off + size + 3) / 4 - off / 4)).map (fun k => s.bar2Word f (off / 4 + k))

/-- A write of the MSI-X table, by way of FUNC. -/
def State.tableWrite (s : State) (f : Fn) (off size : Nat) (v : Word) : State :=
  s.front hostWay (.tableWrite f off size v)
    (if s.unsupported f then s.answer .ur else (s.writeMsix f off size v).answer .ok)

/-- A read of BAR2, by way of FUNC. -/
def State.tableRead (s : State) (f : Fn) (off size : Nat) : State :=
  s.front hostWay (.tableRead f off size) (s.answer (if s.unsupported f then .ur else .words (s.bar2Read f off size)))

/-- MSIX_TABLE_WRITE (R86). -/
def execMsixTableWrite (f : Fn) (off size : Nat) (v : Word) (s : State) : Host.Outcome State Fault Refusal :=
  .next (s.tableWrite f off size v)

/-- MSIX_CONTROL_WRITE (R318): MSI-X Enable and Function Mask in configuration space, an entry's mask in BAR2. -/
def execMsixControlWrite (f : Fn) (c : MsixCtl) (s : State) : Host.Outcome State Fault Refusal :=
  match c with
  | .enable on => .next (s.cfgRequest f (s.cfgField f 0x90 0x80000000 (if on then 0x80000000 else 0)))
  | .functionMask on => .next (s.cfgRequest f (s.cfgField f 0x90 0x40000000 (if on then 0x40000000 else 0)))
  | .entryMask n on => .next (s.tableWrite f (n.val * 16 + 12) 4 (BitVec.ofNat 64 (b2n on)))

/-! ### PERST_N and the link -/

/-- What PERST_N does (03 R50, R52): the link is down, the manager rings reset, every function's configuration space and
MSI-X table reset, every VF ceases to exist. -/
def State.perst (s : State) : State := ({ s.resetManager with link := .down, pf := {} } : State).syncVfs

/-- PERST_N_DEASSERT (03 R50): configuration space answers again; the link retrains. Before POR_N it counts from POR_N on (02 R30): the
link comes up, and configuration space answers, only with POR_N high. -/
def execPerstNDeassert (s : State) : Host.Outcome State Fault Refusal :=
  .next { s with pins := { s.pins with perstN := true } }

/-- HOST_LINK_UP (R417): the data link layer comes up, or Bus Master Enable of a function is set, and held writes go out
in order. The link stays down while the TAP has the pins (16 R414). -/
def execHostLinkUp (u : LinkUp) (s : State) : Host.Outcome State Fault Refusal :=
  match u with
  | .link =>
    if s.link = .down && s.pins.perstN && s.pins.porN && !s.tap.pinsTaken && !s.power.perstDue then .next (({ s with link := .l0 }).releaseAll) else .next s
  | .busMaster f => .next (s.cfgAccess f (s.cfgField f 0x04 4 4) .ok (fun s =>
      (s.modFn f (fun p => p.setDword 0x04 (p.dword 0x04 ||| 4))).releaseHeld f))

end Sys2Proof.Machine
end

