-- ==== Sys2Proof/Machine/Keeper.lean ====
section
/-! DEFINITION. Keeper time: rate, measurements, steps, pulses and the time registers (04 R89, R97 to R103). -/

namespace Sys2Proof.Machine

/-- The TIME section in force; the defaults stand for an imageless controller (03 Table 3.7). -/
def State.timeSec (s : State) : TimeSec :=
  match s.img.image with
  | some i => i.time
  | none => {}

/-- A value clamped to ±n. -/
def clampInt (n x : Int) : Int := if x < -n then -n else if n < x then n else x

/-- The rate correction in ppb: frequency estimate plus slew, within ±200 ppm (R97). -/
def TimeSt.rate (t : TimeSt) : Int := clampInt 200000 (t.freq + t.slew)

/-- Keeper time moved by a signed number of ns, in its 64-bit register. -/
def addNs (now : Nat) (d : Int) : Nat := ((now : Int) + d).emod (2 ^ 64) |>.toNat

/-- One 4 ns tick of the timebase: 4 ns and the rate correction, whose part below 1 ns is carried (R97). -/
def TimeSt.tick (t : TimeSt) : TimeSt :=
  let x := t.frac + 4 * t.rate
  { t with now := addNs t.now (4 + x / 1000000000), frac := x % 1000000000 }

/-- The measurement interval in ns: PTM_INTERVAL_MS, or 1 s for PPS_IN. -/
def State.intervalNs (s : State) : Int := if s.time.source = .pps then 1000000000 else (s.timeSec.intervalMs : Int) * 1000000

/-- The measurement lies within ±100 ns. -/
def within100 (o : Int) : Bool := -100 ≤ o && o ≤ 100

/-- The discipline state after an applied measurement, and the run of measurements within ±100 ns (Table 4.9). -/
def TimeSt.measured (t : TimeSt) (o : Int) : TimeSt :=
  match t.state with
  | .free => { t with state := .acquiring, good := 0 }
  | .holdover => { t with state := .acquiring, good := 0 }
  | .locked => if within100 o then t else { t with state := .acquiring, good := 0 }
  | .acquiring =>
    let n := if within100 o then t.good + 1 else 0
    if 3 ≤ n then { t with state := .locked, good := 0 } else { t with good := n }

/-- A measured offset (R99 to R101): recorded; unless frozen, slewed away over one interval or stepped at the next
boundary. The frequency filter is not given: the estimate is a free value. A slew in force keeps running when a step is called for, and a
measurement that calls for none leaves a pending step in force (DESIGN CHOICE, notes/assumptions/103.md). -/
def State.measure (s : State) (o : Int) : State :=
  let t := { s.time with offset := o }
  if t.freeze && t.state ≠ .free then { s with time := t }
  else
    let t := t.measured o
    if (o.natAbs : Int) ≤ s.timeSec.stepNs then
      { s with time := { t with freq := Config.freqEstimate s.free o, slew := -o * 1000000000 / s.intervalNs },
               free := s.free + 1 }
    else { s with time := { t with pending := some (-o) } }

/-- The offset of Keeper time from the nearest whole second; a tie counts as ahead (R98). -/
def secondOffset (now : Nat) : Int :=
  let r := now % 1000000000
  if r ≤ 500000000 then (r : Int) else (r : Int) - 1000000000

/-- PTM Enable in PF0's PTM capability. -/
def State.ptmEnabled (s : State) : Bool := s.pf.bit 0x288 0

/-- SOURCE selects PTM, alone or with fallback. -/
def TimeSec.usesPtm (t : TimeSec) : Bool := t.source = 1 || t.source = 3

/-- PTM_DIALOGUE (R98): the interval expires and a dialogue starts; a request leaves only while PTM Enable is 1. -/
def execPtmDialogue (s : State) : Host.Outcome State Fault Refusal :=
  if s.img.locked && s.timeSec.usesPtm && !s.time.dialogue then
    let s := { s with time := { s.time with dialogue := true, nextPtm := some (s.time.now + s.timeSec.intervalMs * 1000000) } }
    .next (if s.ptmEnabled then s.emitOut .ptm else s)
  else .next s

/-- PTM_RESPONSE (R98 to R101): the master time, corrected for propagation, gives the offset. -/
def execPtmResponse (master : Word) (s : State) : Host.Outcome State Fault Refusal :=
  if s.time.dialogue && s.ptmEnabled then
    let s := { s with time := { s.time with dialogue := false, failRun := 0, source := .ptm } }
    .next (s.measure ((s.time.now : Int) - master.toNat))
  else .next s

/-- PTM_DIALOGUE_FAIL (R98): the dialogue fails; after three in a row a fallback uses PPS_IN. -/
def execPtmDialogueFail (s : State) : Host.Outcome State Fault Refusal :=
  if s.time.dialogue then
    let n := s.time.failRun + 1
    .next { s with time := { s.time with
      dialogue := false, failRun := n, ptmFails := satAdd s.time.ptmFails 1 255,
      source := if s.timeSec.source = 3 && 3 ≤ n then .pps else s.time.source } }
  else .next s

/-- PPS_IN measurements are in use (R98). -/
def State.ppsInUse (s : State) : Bool :=
  s.timeSec.source = 2 || (s.timeSec.source = 3 && 3 ≤ s.time.failRun)

/-- An edge of PPS_IN (R98): of the configured polarity, at least 900 ms after the last accepted one. -/
def State.ppsInEdge (s : State) (falling : Bool) : State :=
  let late := match s.time.lastPps with
    | some x => x + 900000000 ≤ s.time.now
    | none => true
  if s.img.locked && s.ppsInUse && falling = s.timeSec.falling && late then
    let s := { s with time := { s.time with lastPps := some s.time.now, source := .pps } }
    s.measure (secondOffset s.time.now)
  else s

/-- DISCIPLINE_HOLDOVER (R101): three intervals without a measurement; slew stops, the estimate stays. -/
def execDisciplineHoldover (s : State) : Host.Outcome State Fault Refusal :=
  if s.time.state = .acquiring || s.time.state = .locked then
    .next { s with time := { s.time with state := .holdover, slew := 0, good := 0 } }
  else .next s

/-- PPS_OUT_PULSE (R103): held pads show no pulse. -/
def execPpsOutPulse (s : State) : Host.Outcome State Fault Refusal :=
  if s.time.ppsOutEn && !s.power.padsHeld then .next { s with pins := { s.pins with ppsOut := true } }
  else .next s

/-- PPS_OUT_PULSE_END (R103). -/
def execPpsOutPulseEnd (s : State) : Host.Outcome State Fault Refusal :=
  if s.power.padsHeld then .next s else .next { s with pins := { s.pins with ppsOut := false } }

/-! ### Registers -/

def TimeSt.statusView (t : TimeSt) : Word :=
  pack [(t.ptmFails, 16), (t.steps, 8), (t.source.code, 4), (t.state.code, 0)]

/-- GBL_TIME or T_TIME. -/
def State.timeView (s : State) : Word := BitVec.ofNat 64 s.time.now

/-- What a 32-bit read of the high half returns (R89). -/
def State.timeHigh (s : State) (f : Fn) : BitVec 32 :=
  ((s.fn f).timeLatch).getD (s.timeView.extractLsb' 32 32)

/-- Latch the high half of Keeper time for the function (R89). -/
def State.latchTime (s : State) (f : Fn) : State :=
  s.modFn f (fun p => { p with timeLatch := some (s.timeView.extractLsb' 32 32) })

/-- A read of GBL_TIME or T_TIME (R89): the low half latches the high half of the same moment; the high half returns what is latched;
either of the other reads clears the latch. -/
def State.timeTake (s : State) (f : Fn) (r : RdHalf) : State :=
  if s.unsupported f then s.answer .ur
  else if s.fencedFn f then (s.dropLatch f).answer (readResp r 0)
  else match r with
    | .low => (s.latchTime f).answer (.half (s.timeView.extractLsb' 0 32))
    | .high => (s.dropLatch f).answer (.half (s.timeHigh f))
    | .full => (s.dropLatch f).answer (.data s.timeView)

/-- The offset of the register in its function's BAR0. -/
def timeOff : Fn → Nat
  | .pf0 => 0x100
  | .vf _ => 0x18

/-- A read of the time register; it is held on its way to an island that does not run. -/
def State.timeRead (s : State) (f : Fn) (r : RdHalf) : State :=
  s.front (s.wayTo f (timeOff f)) (.access (r.access f (timeOff f))) (s.timeTake f r)

/-- GBL_TIME_LOW_READ (R89), and the reads that spend or clear its latch. -/
def execGblTimeLowRead (r : TimeRead) (s : State) : Host.Outcome State Fault Refusal := .next (s.timeRead r.fn r.half)

/-- A GBL_TIME_STEP write (R102). -/
def State.writeTimeStep (v : Word) (s : State) : State :=
  if s.time.state = .free || s.time.state = .holdover then { s with time := { s.time with pending := some v.toInt } }
  else s.refuseWrite .pf0

/-- GBL_TIME_STEP (R102). -/
def execGblTimeStep (a : WrAcc) (v : Word) (s : State) : Host.Outcome State Fault Refusal :=
  .next (s.regWrite .pf0 0x118 .side 0 0 a v State.writeTimeStep)

/-- A GBL_TIME_CTL write. -/
def State.writeTimeCtl (v : Word) (s : State) : State :=
  { s with time := { s.time with ppsOutEn := v.getLsbD 0, freeze := v.getLsbD 1 } }

def TimeSt.ctlView (t : TimeSt) : Word := pack [(b2n t.freeze, 1), (b2n t.ppsOutEn, 0)]

/-- A pending step is applied at a boundary (R100, R102): Keeper time moves, and the mark of the last PPS edge with it, so that R98 counts
time elapsed; STEPS counts, TIME_NOTICE goes to the manager and to every ACTIVE tenant. -/
def State.applyStep (s : State) : State :=
  match s.time.pending with
  | none => s
  | some d =>
    let s := { s with time := { s.time with now := addNs s.time.now d, pending := none,
                                            lastPps := s.time.lastPps.map (fun x => addNs x d),
                                            steps := satAdd s.time.steps 1 255 } }
    (allFin 256).foldl (fun a t => if (a.tenant t).st = .active then a.notice (.vf t) .time 0 d else a)
      (s.notice .pf0 .time 0 d)

end Sys2Proof.Machine
end

