-- ==== Sys2Proof/Machine/Shaping.lean ====
section
/-! DEFINITION. Bus-time costs, sluice gates, policing and the energy account (07 Table 7.1; 09 R234 to R261). -/

namespace Sys2Proof.Machine

/-! ### Costs (07 Table 7.1), in ps and rounded up to ns -/

/-- ⌊3.167 + BitStuffTime(bytes)⌋, with BitStuffTime(x) = 7/6 × 8 × x. -/
def stuffed (bytes : Nat) : Nat := (9501 + 28000 * bytes) / 3000

/-- Round up to whole ns. -/
def ceilNs (ps : Nat) : Nat := (ps + 999) / 1000

/-- HS interrupt, control or bulk. -/
def costHs (bytes : Nat) : Nat := ceilNs (966520 + 2083 * stuffed bytes)
/-- HS isochronous. -/
def costHsIso (bytes : Nat) : Nat := ceilNs (683230 + 2083 * stuffed bytes)
/-- A start-split or complete-split that carries some bytes. -/
def costSplit (bytes : Nat) : Nat := costHs (bytes + 4)
/-- FS interrupt, and FS control or bulk (09 Table 9.3). -/
def costFs (bytes : Nat) : Nat := ceilNs (9157000 + 83540 * stuffed bytes)
/-- FS isochronous. -/
def costFsIso (isIn : Bool) (bytes : Nat) : Nat := ceilNs ((if isIn then 7318000 else 6315000) + 83540 * stuffed bytes)
/-- LS interrupt, and LS control (09 Table 9.3). -/
def costLs (isIn : Bool) (bytes : Nat) : Nat := ceilNs ((if isIn then 64776000 else 64823000) + 676670 * stuffed bytes)
/-- A SuperSpeed transaction of some packets with their bytes. -/
def costSs (sp : Speed) (packets bytes : Nat) : Nat :=
  ceilNs ((bytes + 36 * packets) * (if sp = .gen2 then 825 else 2000) + 300000)

/-- The cost on the bus that the device is attached to, FS and LS rows. -/
def costSlow (sp : Speed) (kind : EpType) (isIn : Bool) (bytes : Nat) : Nat :=
  if sp = .low then costLs isIn bytes else if kind = .iso then costFsIso isIn bytes else costFs bytes

/-- The speed of a root port side: that of the device attached to it. -/
def State.rootSpeed (s : State) (d : DevId) : Speed :=
  match s.dev? { d with path := [] } with
  | some x => x.speed
  | none => if d.ss then .gen1 else .high

/-! ### Gate lists (R241 to R245) -/

/-- The cycle of a list of entries. -/
def cycleOf (l : List GateEntry) : Nat := (l.map (fun e => e.ns)).sum

/-- A list's entries with its first p ns cut off. -/
def cutEntries : List GateEntry → Nat → List GateEntry
  | [], _ => []
  | e :: l, p => if e.ns ≤ p then cutEntries l (p - e.ns) else { e with ns := e.ns - p } :: l

/-- The position of Keeper time t in a list's cycle; the list covers all of Keeper time (R241). -/
def GateList.pos (g : GateList) (t : Nat) : Nat := (((t : Int) - (g.base : Int)) % (cycleOf g.entries : Int)).toNat

/-- The entries from Keeper time t on, one cycle and the rest of the current entry. -/
def GateList.ahead (g : GateList) (t : Nat) : List GateEntry := cutEntries g.entries (g.pos t) ++ g.entries

/-- The open mask at Keeper time t. -/
def GateList.maskAt (g : GateList) (t : Nat) : BitVec 8 :=
  match g.ahead t with | e :: _ => e.mask | [] => 0xFF

/-- The instant at which the entries first close for a predicate on the mask; none if they never do. -/
def closing (ok : BitVec 8 → Bool) : List GateEntry → Nat → Option Nat
  | [], _ => none
  | e :: l, t => if ok e.mask then closing ok l (t + e.ns) else some t

/-- The mask bit of a traffic class; the controller's own transactions need any bit (R243). -/
def gateOk (c : Option Nat) (m : BitVec 8) : Bool := match c with | some i => m.getLsbD i | none => m ≠ 0

/-- The operating mask of a port at Keeper time t; a pending list governs from S on. -/
def SluicePort.maskAt (p : SluicePort) (t : Nat) : BitVec 8 :=
  if p.state = .pending && p.switchAt ≤ t then
    GateList.maskAt { base := p.switchAt, entries := p.admin } t
  else match p.oper with | some g => g.maskAt t | none => 0xFF

/-- The end of the window that is open at Keeper time t; none is unbounded. A pending switchover is followed from its
time S on (R245). -/
def SluicePort.windowEnd (p : SluicePort) (ok : BitVec 8 → Bool) (t : Nat) : Option Nat :=
  let first := match p.oper with | some g => closing ok (g.ahead t) t | none => none
  if p.state = .pending then
    if p.switchAt ≤ t then closing ok (GateList.ahead { base := p.switchAt, entries := p.admin } t) t
    else match first with
      | some e => if e < p.switchAt then some e else closing ok p.admin p.switchAt
      | none => closing ok p.admin p.switchAt
  else first

/-- The margin of the fit test (R245). -/
def State.margin (s : State) : Nat := if s.frames.lock = .locked then 16 else s.frames.phase.natAbs + 16

/-- The fit test of R245 for a duration at Keeper time t. -/
def State.fitsAt (s : State) (p : PortId) (c : Option Nat) (d t : Nat) : Bool :=
  let q := vget s.sluice.ports p
  gateOk c (q.maskAt t) &&
  (match q.windowEnd (gateOk c) t with | some e => t + d + s.margin ≤ e | none => true)

/-- The longest of some runs of open entries. -/
def longestRun (ok : BitVec 8 → Bool) : List GateEntry → Nat → Nat → Nat
  | [], run, best => Nat.max run best
  | e :: l, run, best => if ok e.mask then longestRun ok l (run + e.ns) best else longestRun ok l 0 (Nat.max run best)

/-- The longest window of a class in a list, around the cycle; none is unbounded (R247). -/
def longestWindow (ok : BitVec 8 → Bool) (l : List GateEntry) : Option Nat :=
  if l.all (fun e => ok e.mask) then none else some (longestRun ok (l ++ l) 0 0)

/-- A duration plus 16 ns never fits a window of its class (R247). -/
def SluicePort.neverFits (p : SluicePort) (c : Nat) (d : Nat) : Bool :=
  match p.oper with
  | some g => (match longestWindow (gateOk (some c)) g.entries with | some w => w < d + 16 | none => false)
  | none => false

/-- A duration fits at some start from t0 up to, but not including, t1: at t0 or where an entry begins. -/
def State.fitsWithin (s : State) (p : PortId) (c : Option Nat) (d t0 t1 : Nat) : Bool :=
  let q := vget s.sluice.ports p
  let l := match q.oper with | some g => g.ahead t0 | none => []
  let from_ := fun (t : Nat) (l : List GateEntry) => (l.foldl (fun (a : Nat × List Nat) e => (a.1 + e.ns, a.2 ++ [a.1 + e.ns])) (t, [])).2
  let next := if q.switchAt ≤ t0 then from_ t0 (GateList.ahead { base := q.switchAt, entries := q.admin } t0)
    else q.switchAt :: from_ q.switchAt q.admin
  let starts := from_ t0 l ++ (if q.state = .pending then next else [])
  s.fitsAt p c d t0 || (starts.filter (fun t => t0 < t && t < t1)).any (fun t => s.fitsAt p c d t)

def State.modSluice (s : State) (p : PortId) (f : SluicePort → SluicePort) : State :=
  { s with sluice := { s.sluice with ports := vmod s.sluice.ports p f } }

/-- Count a periodic miss for the gates (R249). -/
def State.countGateMiss (s : State) (p : PortId) : State :=
  s.modSluice p (fun q => { q with missed := satAdd q.missed 1 (2 ^ 24 - 1) })

/-- Count a periodic miss for energy (R258). -/
def State.countEnergyMiss (s : State) : State :=
  { s with energy := { s.energy with missed := satAdd s.energy.missed 1 (2 ^ 24 - 1) } }

/-! ### Policing (R234 to R240) -/

inductive Colour where
  | green | yellow | red
  deriving DecidableEq, Repr

/-- Credit n ticks to a tenant's buckets, capped (R234). -/
def Tenant.tickBuckets (x : Tenant) (n : Nat) : Tenant :=
  match x.share with
  | some r => { x with tc := Nat.min (x.tc + n * r.cir) (r.cbs * 1000), tp := Nat.min (x.tp + n * r.pir) (r.pbs * 1000) }
  | none => x

/-- The colour of B bytes and the tokens it takes (R235). -/
def Tenant.colour (x : Tenant) (b : Nat) : Colour × Tenant :=
  if x.tp < b * 1000 then (.red, { x with red := x.red + 1 })
  else if x.tc < b * 1000 then (.yellow, { x with tp := x.tp - b * 1000, yellow := x.yellow + 1 })
  else (.green, { x with tc := x.tc - b * 1000, tp := x.tp - b * 1000 })

/-- Every tenant's buckets gain n ticks. -/
def State.tickPolicing (s : State) (n : Nat) : State := { s with tenants := s.tenants.map (fun (x : Tenant) => x.tickBuckets n) }

/-- POLICING_TICK (R234); none while SCHED is in retention. -/
def execPolicingTick (s : State) : Host.Outcome State Fault Refusal := .next (if s.power.saved.isNone then s.tickPolicing 1 else s)

/-! ### The energy account (R255 to R260) -/

/-- The refill of one tick, in pJ, at a thermal stage (Table 9.9). -/
def Energy.refill (e : Energy) : Nat :=
  match e.stage with
  | .normal => e.active.sustained * 1000
  | .soft => e.active.sustained * 500
  | _ => 0

/-- Change the level, capped at the burst and floored at its negative, and count a charge forgiven at the floor (R255). -/
def Energy.add (e : Energy) (d : Int) : Energy :=
  let cap : Int := e.active.burst * 1000000
  let v := e.level + d
  if v < -cap then { e with level := -cap, forgiven := satAdd e.forgiven 1 (2 ^ 24 - 1) }
  else if cap < v then { e with level := cap } else { e with level := v }

/-- The waits of Table 9.9. -/
def Energy.waits (e : Energy) : Energy :=
  let hard := e.stage = .hard || e.stage = .crit
  { e with stdWait := e.enabled && (hard || decide (e.level < e.active.low * 1000000)),
           defWait := e.enabled && (hard || decide (e.level < e.active.high * 1000000)) }

/-- Island overhead of one tick, in pJ. -/
def State.overhead (s : State) : Nat :=
  ((allFin 14).map (fun i => if (vget s.power.islands i).active then vget s.energy.active.islandNj i * 1000 else 0)).sum

/-- ENERGY_TICK (R255, R256): refill, island overhead, limits, and the BUDGET flags, from the ENERGY_CLASS each tenant has now
(11 Table 11.5). Nothing while the account is disabled (R257), and across LP2 and LP3 (R260). -/
def execEnergyTick (s : State) : Host.Outcome State Fault Refusal :=
  .next (if s.energy.enabled && s.power.lp ≠ .lp2 && s.power.lp ≠ .lp3 then
    { s with energy :=
        { (s.energy.add ((s.energy.refill : Int) - (s.overhead : Int))).waits with
          cls := Vector.ofFn fun t => (s.share t).energy } } else s)

/-- Charge an operation that retired (Table 9.8), in pJ. -/
def State.chargeEnergy (s : State) (pj : Nat) : State :=
  if s.energy.enabled then { s with energy := s.energy.add (-(pj : Int)) } else s

/-- The row of NRG_COST for a speed. -/
def Speed.costRow : Speed → Fin 5
  | .low => 0 | .full => 1 | .high => 2 | .gen1 => 3 | .gen2 => 4

/-- The energy class of a tenant may run (BUDGET, Table 9.9); always with the account disabled (R257). -/
def State.budget (s : State) (t : TenantId) : Bool :=
  !s.energy.enabled || match vget s.energy.cls t with
  | 0 => true
  | 1 => !s.energy.stdWait
  | _ => !s.energy.defWait

end Sys2Proof.Machine
end

