-- ==== Sys2Proof/Machine/Transact.lean ====
section
/-! DEFINITION. The next transaction, piece and seal unit of a flow, bus time within a microframe, and deficit round robin
(05 R116 to R118; 07 R187 to R199; 09 R244 to R248; 10 R272 to R275). -/

namespace Sys2Proof.Machine

/-! ### Microframes (07 R174, R182) -/

/-- Keeper time of the start of port microframe n (R176 to R178). -/
def State.frameStart (s : State) (n : Nat) : Nat := (((n : Int) + s.frames.k) * 125000 - s.frames.phase).toNat

/-- ns into the running microframe. -/
def State.intoFrame (s : State) : Nat := s.time.now - s.frameStart s.frames.f

/-- The slot unit of a root port side is the 1 ms frame (R182). -/
def State.frameSide (s : State) (d : DevId) : Bool :=
  match s.rootSpeed d with | .low | .full => true | _ => false

/-- The speed of a flow's device. -/
def State.flowSpeed (s : State) (f : Flow) : Speed :=
  match s.dev? f.dev with | some d => d.speed | none => .high

/-- The transaction translator that serves the flow. -/
def State.flowTt (s : State) (f : Flow) : Option (DevId × Nat) := s.ttOf f.dev (s.flowSpeed f)

/-- A flow's traffic class (09 "Sluice gates"). -/
def State.tcOf (s : State) (f : Flow) : Nat := (s.share f.t).tcMap.toNat / 8 ^ f.cls.val % 8

/-! ### Bytes a transfer has for the bus -/

/-- Wire bytes of n plaintext bytes that end a transfer (10 R272, R273). -/
def Xfer.wireOf (x : Xfer) (n : Nat) : Nat :=
  if x.unit = 0 then n else n + 24 * Nat.max 1 ((n + x.unit - 1) / x.unit)

/-- Wire bytes of the whole seal units, or of the plain bytes, in the first n bytes of an unfinished transfer. -/
def Xfer.wireSome (x : Xfer) (n : Nat) : Nat := if x.unit = 0 then n else n / x.unit * (x.unit + 24)

/-- Wire bytes that a transfer can carry as far as CHECK has passed its TDs; of an unfinished one, in full packets. -/
def Flow.wireLimit (f : Flow) (x : Xfer) : Nat :=
  if f.whole x then x.wireOf (f.known x) else x.wireSome (f.known x) / f.ep.mps * f.ep.mps

/-- The transfer needs a zero-length packet: it has no data, or its last seal unit is short and ends on a packet boundary
(R116, 10 R273). -/
def Flow.needsZero (f : Flow) (x : Xfer) : Bool :=
  f.whole x &&
  (if x.unit = 0 then f.known x = 0
   else (f.known x % x.unit ≠ 0 || f.known x = 0) && x.wireOf (f.known x) % f.ep.mps = 0)

/-- Wire bytes that OUT has staged for the bus. -/
def Xfer.staged (x : Xfer) : Nat := if x.unit = 0 then x.moved else x.plain + 24 * x.units

/-- Plaintext bytes that IN has ready for MOVE. -/
def Xfer.ready (x : Xfer) : Nat := if x.unit = 0 then x.wire else x.plain

/-- A chain that is longer than what a flow may have in flight, and whose TDs in flight give the bus nothing to do. -/
def Flow.starved (f : Flow) (x : Xfer) : Bool :=
  !x.closed && x.stop.isNone && 8 ≤ f.tds.length &&
  f.tds.all (fun d => d.x = x.id && d.stage = .checked) && f.wireLimit x ≤ x.wire

/-- The data stage of a transfer is over on the bus. -/
def Flow.dataOver (f : Flow) (x : Xfer) : Bool :=
  x.busEnd || x.short ||
  ((f.whole x || x.stop.isSome) && f.wireLimit x ≤ x.wire && (!f.needsZero x || x.zero))

/-- Every transaction of the transfer has ended (R221): of a NOOP there is none. -/
def Flow.busOver (f : Flow) (x : Xfer) : Bool :=
  if x.busEnd then true
  else if f.control then
    x.stop.isSome || x.ctl = 3 || (f.tdsOf x).any (fun d => d.type = 6 && d.stage ≠ .fetched)
  else (f.tdsOf x).any (fun d => d.type = 6 && d.stage ≠ .fetched) || f.dataOver x

/-- A transfer that halts its handle keeps the transactions of later TDs from starting (R221). -/
def Flow.halting (f : Flow) (x : Xfer) : Bool :=
  match x.status with | some (st, _) => st.halts f.iso | none => false

/-- The transfer whose transactions come next: the first that is not over, if none before it halts the handle. -/
def Flow.busXfer (f : Flow) : Option Xfer :=
  (f.xs.find? (fun x => f.halting x || !(f.busOver x))).bind (fun x => if f.halting x then none else some x)

/-! ### The next transaction -/

/-- Packets of one transaction: a burst on SuperSpeed, else one. -/
def State.burst (s : State) (f : Flow) : Nat := if (s.flowSpeed f).isSs then Nat.max 1 (Nat.min f.ep.burst 16) else 1

/-- Packets that carry some bytes. -/
def packetsOf (mps n : Nat) : Nat := Nat.max 1 ((n + mps - 1) / mps)

/-- The data transaction that a transfer could start now. An IN is asked for what its TDs still hold, in full packets while
more TDs may follow; an OUT sends what is staged, in full packets until the end (R116). -/
def State.dataTx (s : State) (f : Flow) (x : Xfer) : Option Tx :=
  let m := f.ep.mps
  let most := m * s.burst f
  if f.dataOver x then none
  else if f.xIn x then
    let left := f.wireLimit x - x.wire
    if 0 < left then
      let w := Nat.min most left
      some { kind := .data, isIn := true, bytes := packetsOf m w * m, wire := w, packets := packetsOf m w }
    else if f.needsZero x then some { kind := .data, isIn := true, bytes := m, wire := 0 }
    else if f.starved x then some { kind := .data, isIn := true, bytes := m, wire := m }
    else none
  else
    let have_ := x.staged - x.wire
    let last := f.whole x && x.staged = f.wireLimit x
    let n := if last then Nat.min most have_ else Nat.min most (have_ / m * m)
    if 0 < n then some { kind := .data, isIn := false, bytes := n, wire := n, packets := packetsOf m n }
    else if last && f.needsZero x && !x.zero && x.wire = x.staged then
      some { kind := .data, isIn := false, bytes := 0, wire := 0 }
    else none

/-- The transaction of a transfer's present stage, before pings and splits. -/
def State.stageTx (s : State) (f : Flow) (x : Xfer) : Option Tx :=
  if f.control then
    if !(f.whole x) then none
    else match x.ctl with
      | 0 => some { kind := .setup, isIn := false, bytes := 8, wire := 8 }
      | 1 => s.dataTx f x
      | 2 => some { kind := .status, isIn := !(f.xIn x) || (f.known x = 0), bytes := 0, wire := 0 }
      | _ => none
  else s.dataTx f x

/-- A start-split carries at most 188 bytes (R185). -/
def Tx.firstSplit (tx : Tx) (cut : Bool) : Tx :=
  if cut then { tx with kind := .startSplit, bytes := Nat.min 188 tx.bytes, wire := Nat.min 188 tx.wire }
  else { tx with kind := .startSplit }

/-- The flow's next transaction and the transfer it belongs to. -/
def State.nextTx (s : State) (f : Flow) : Option (Xfer × Tx) :=
  match f.busXfer with
  | none => none
  | some x =>
    match s.stageTx f x with
    | none => none
    | some tx =>
      if (s.flowTt f).isSome then
        some (x, if f.split then { tx with kind := .completeSplit } else tx.firstSplit (f.iso && !tx.isIn))
      else if f.ping && tx.kind = .data && !tx.isIn then some (x, { tx with kind := .ping, bytes := 0, wire := 0 })
      else some (x, tx)

/-- The duration of a transaction on the root port (09 Table 9.3). -/
def State.duration (s : State) (f : Flow) (tx : Tx) : Nat :=
  let sp := s.flowSpeed f
  let out := if tx.isIn then 0 else tx.wire
  let inn := if tx.isIn then tx.wire else 0
  match tx.kind with
  | .ping => costHs 0
  | .startSplit =>
    if f.periodic then costSplit out else costSplit out + costSlow sp f.ep.kind tx.isIn tx.wire + costSplit inn
  | .completeSplit => costSplit inn
  | _ =>
    if sp.isSs then costSs sp tx.packets tx.wire
    else if sp = .high then (if f.iso then costHsIso tx.wire else costHs tx.wire)
    else costSlow sp f.ep.kind tx.isIn tx.wire

/-- The largest transaction of a TD, before pings and splits, with its seal overhead (09 R244). -/
def State.largestTx (s : State) (f : Flow) (x : Xfer) (d : Td) : Tx :=
  let n := Nat.min (x.wireOf d.dataLen) (f.ep.mps * s.burst f)
  if d.type = 2 then { kind := .setup, isIn := false, bytes := 8, wire := 8 }
  else if d.type = 4 then { kind := .status, isIn := !(f.xIn x) || (f.known x = 0), bytes := 0, wire := 0 }
  else { kind := .data, isIn := f.xIn x, bytes := if f.xIn x then f.ep.mps * s.burst f else n, wire := n, packets := packetsOf f.ep.mps n }

/-- The D of a TD's largest transaction (09 R247): of a periodic split, of the half that carries its bytes. -/
def State.largestNs (s : State) (f : Flow) (x : Xfer) (d : Td) : Nat :=
  let tx := s.largestTx f x d
  if (s.flowTt f).isSome then
    if f.periodic then
      if tx.isIn then Nat.max (costSplit 0) (costSplit (Nat.min 188 tx.wire))
      else costSplit (if f.iso then Nat.min 188 tx.wire else tx.wire)
    else s.duration f { tx with kind := .startSplit }
  else s.duration f tx

/-- The charge of the flow's next transaction (R193): of the one that it could start, or of the first TD that has passed CHECK. -/
def State.nextCharge (s : State) (f : Flow) : Option Nat :=
  match s.nextTx f with
  | some r => some r.2.bytes
  | none => (f.tds.find? (fun d => d.stage = .checked && d.type ≠ 6)).bind (fun d =>
      (f.xs.find? (fun x => x.id = d.x)).map (fun x => (s.largestTx f x d).bytes))

/-! ### Bus time within a microframe (R187) -/

/-- The length of the side's slot unit. -/
def State.slotLen (s : State) (d : DevId) : Nat := if s.frameSide d then 1000000 else 125000

/-- ns since the side's slot unit began. -/
def State.intoSlot (s : State) (d : DevId) : Nat :=
  if s.frameSide d then s.intoFrame + s.frames.f % 8 * 125000 else s.intoFrame

/-- The flows of one port side. -/
def State.sideFlows (s : State) (d : DevId) : List Flow := s.flows.filter (fun g => g.dev.port = d.port && g.dev.ss = d.ss)

/-- Transactions that one service slot holds. -/
def State.perSlot (s : State) (f : Flow) : Nat :=
  let n := Nat.max 1 f.ep.burst
  if (s.flowTt f).isSome then (if f.iso && !f.isIn then Nat.max 1 ((f.ep.mps + 187) / 188) else 1)
  else match s.flowSpeed f with
    | .gen1 | .gen2 => (n + 15) / 16
    | .high => n
    | _ => 1

/-- Time that the transactions of a flow which its slot holds and which have not run still need, with the bytes that they carry; of a
split, the half at hand (R187 step 4). -/
def State.slotNeed (s : State) (g : Flow) : Nat :=
  if g.slotDue && g.slotRoom then
    match s.nextTx g with
    | none => 0
    | some (x, tx) =>
      if (s.flowTt g).isSome then s.duration g tx
      else
        let most := g.ep.mps * s.burst g
        let left := if tx.isIn then g.wireLimit x - x.wire else x.staged - x.wire
        ((List.range (s.perSlot g - g.slotUsed)).map (fun i =>
          if i = 0 || most * i < left then
            let w := Nat.min most (left - most * i)
            s.duration g { tx with wire := w, packets := packetsOf g.ep.mps w }
          else 0)).sum
  else 0

/-- Time that a side keeps for the slot's periodic transactions that have a TD for it and have not run (R187 step 4). -/
def State.slotRest (s : State) (d : DevId) : Nat := ((s.sideFlows d).map s.slotNeed).sum

/-- The time before the end of the slot unit at which the end-of-frame point lies: 560 high-speed bit times, 32 full-speed bit times
(PRESUMED from USB 2.0, notes/assumptions/109.md). -/
def State.eofNs (s : State) (d : DevId) : Nat := if d.ss then 0 else if s.frameSide d then 2667 else 1167

/-- The first PRT_URGENT_RESERVE ns of the slot unit. -/
def State.inReserve (s : State) (d : DevId) : Bool := s.intoSlot d < (vget s.ports d.port).urgent

/-- A transaction of this duration may start now on a side: it ends by the end-of-frame point, one that is not of the slot leaves room
for the slot's periodic ones, and the urgent reserve is for PL0 and periodic work (R187). -/
def State.mayStart (s : State) (d : DevId) (slot periodic : Bool) (ns pl : Nat) : Bool :=
  s.intoSlot d + ns + (if slot then 0 else s.slotRest d) + s.eofNs d ≤ s.slotLen d && (!s.inReserve d || periodic || pl = 0)

/-- An ISSUE is of a port side: of one of its flows, or of a request to one of its devices. -/
def State.issuesOn (s : State) (p : PortId) (ss : Bool) (o : Op) : Bool :=
  o.node = .issue && (match o.usb with
    | some (e, _) => e.port = p && e.ss = ss
    | none => s.flows.any (fun g => g.entry = o.task && g.dev.port = p && g.dev.ss = ss))

/-- A transaction of the side is in progress or placed. -/
def State.sideBusy (s : State) (d : DevId) : Bool := s.slotOps.any (s.issuesOn d.port d.ss)

/-! ### Deficit round robin (R192 to R194) -/

def State.side (s : State) (p : PortId) (ss : Bool) : Side := if ss then (vget s.ports p).ss else (vget s.ports p).usb2

def State.modSide (s : State) (p : PortId) (ss : Bool) (g : Side → Side) : State :=
  s.modPort p (fun q => if ss then { q with ss := g q.ss } else { q with usb2 := g q.usb2 })

/-- A bulk or control TD of the flow has passed CHECK and has not retired. -/
def Flow.drrActive (f : Flow) : Bool := !f.periodic && f.tds.any (fun d => d.stage = .checked && d.type ≠ 6)

/-- The tenants that are active on a side. -/
def State.sideActive (s : State) (p : PortId) (ss : Bool) : List TenantId :=
  (allFin 256).filter (fun t => s.flows.any (fun f => f.t = t && f.dev.port = p && f.dev.ss = ss && f.drrActive))

def Side.deficit (q : Side) (t : TenantId) : Int := (q.deficits.lookup t).getD 0

/-- Add to a tenant's deficit. -/
def Side.addDeficit (q : Side) (t : TenantId) (d : Int) : Side :=
  { q with deficits := q.deficits.map (fun e => if e.1 = t then (e.1, e.2 + d) else e) }

/-- Tenants that stopped being active lose their deficit; those that became active start at 0 (R192). -/
def State.syncSide (s : State) (p : PortId) (ss : Bool) : State :=
  let a := s.sideActive p ss
  s.modSide p ss (fun q => { q with deficits := a.map (fun t => (t, q.deficit t)) })

/-- The quantum of a tenant. -/
def State.quantum (s : State) (t : TenantId) : Nat := Nat.max 1 (s.share t).weight * 1024

/-- Rounds that must begin before a charge is covered. -/
def roundsFor (deficit : Int) (quantum charge : Nat) : Nat :=
  if (charge : Int) ≤ deficit then 0 else (((charge : Int) - deficit).toNat + quantum - 1) / quantum

/-- Begin the rounds that bring some active tenant CREDIT (R192). The side has no transaction in progress. -/
def State.beginRounds (s : State) (p : PortId) (ss : Bool) : State :=
  let q := s.side p ss
  let need := (s.flows.filter (fun f => f.dev.port = p && f.dev.ss = ss && f.drrActive)).filterMap (fun f =>
    (s.nextCharge f).map (fun n => roundsFor (q.deficit f.t) (s.quantum f.t) n))
  match need with
  | [] => s
  | n :: l =>
    let k := l.foldl Nat.min n
    if k = 0 then s
    else s.modSide p ss (fun q => { q with deficits := q.deficits.map (fun e => (e.1, e.2 + k * s.quantum e.1)) })

/-- Keep deficits and rounds in line with the flows on every side. -/
def State.settleDrr (s : State) : State :=
  (allFin 16).foldl (fun a p => [false, true].foldl (fun b ss =>
    let c := b.syncSide p ss
    if c.sideBusy { port := p, ss := ss, path := [] } then c else c.beginRounds p ss) a) s

/-! ### Requests of the controller's own (06 Table 6.1, R146, R147, R163 to R165; 10 Table 10.3) -/

/-- The hub port that a device sits on. -/
def DevId.hubPort (d : DevId) : Nat := d.path.getLast?.getD 0

/-- bmRequestType, bRequest, wValue, wIndex and wLength of a request to a device; a reset, suspend or resume is one to the hub above.
Those of Tirael are Table 10.3's, the others PRESUMED from USB (notes/assumptions/110.md). -/
def State.setupOf (s : State) (q : Req) : Option (Nat × Nat × Nat × Nat × Nat) :=
  let n := q.d.hubPort
  match q.r with
  | .portReset warm => if q.onRoot then none else some (0x23, 3, if warm then 28 else 4, n, 0)
  | .suspend => if q.onRoot then none else some (if q.d.ss then (0x23, 3, 5, n + 768, 0) else (0x23, 3, 2, n, 0))
  | .resume => if q.onRoot then none else some (if q.d.ss then (0x23, 3, 5, n, 0) else (0x23, 1, 2, n, 0))
  | .disablePort => if q.onRoot then none else some (if q.d.ss then (0x23, 3, 5, n + 1024, 0) else (0x23, 1, 1, n, 0))
  | .portTimeout u2 us => if q.onRoot then none else some (0x23, 3, if u2 then 24 else 23, n + 256 * (if u2 then us / 256 else us), 0)
  | .getDevice8 => some (0x80, 6, 0x100, 0, 8)
  | .setAddress a => some (0, 5, a, 0, 0)
  | .getDescriptor t i g l => some (0x80, 6, 256 * t + i, g, l)
  | .setSel => some (0, 48, 0, 0, 6)
  | .setIsochDelay => some (0, 49, 0, 0, 0)
  | .setConfiguration n => some (0, 9, n, 0, 0)
  | .setInterface i a => some (1, 11, a, i, 0)
  | .getHub => some (0xA0, 6, if q.d.ss then 0x2A00 else 0x2900, 0, if q.d.ss then 12 else 71)
  | .setHubDepth n => some (0x20, 12, n, 0, 0)
  | .setPortPower p => some (0x23, 3, 8, p, 0)
  | .clearPortPower p => some (0x23, 1, 8, p, 0)
  | .getPortStatus p => some (0xA3, 0, 0, p, 4)
  | .clearPortChange p f => some (if p = 0 then 0x20 else 0x23, 1, f, p, 0)
  | .setRemoteWakeup => some (0, 3, 1, 0, 0)
  | .setU1 => some (0, 3, 48, 0, 0)
  | .setU2 => some (0, 3, 49, 0, 0)
  | .clearTt _ _ d e _ => match s.dev? d with
    | some x => some (0x23, 8, e.addr.toNat % 16 + 16 * x.addr + (if e.kind = .control then 0 else 4096) +
        (if e.addr.getLsbD 7 then 32768 else 0), (match s.ttOf d x.speed with | some k => Nat.max 1 k.2 | none => 1), 0)
    | none => none
  | .hubPoll | .lpm _ => none
  | .tirael .hello v i l _ => some (0xC1, 1, v, i, l)
  | .tirael .keyShare v i l _ => some (0x41, 2, v, i, l)
  | .tirael .confirm v i l _ => some (0xC1, 3, v, i, l)
  | .tirael .finish v i l _ => some (0x41, 4, v, i, l)
  | .tirael .teardown v i l _ => some (0x41, 5, v, i, l)
  | .tirael .rekey v i l _ => some (0x41, 6, v, i, l)

/-- Maximum packet size of the pipe that a request uses: the default pipe's, or the status-change endpoint's. -/
def State.reqMps (s : State) (q : Req) : Nat :=
  match q.r with
  | .hubPoll => (match (s.dev? q.d).bind (fun x => x.hub) with | some h => h.ports / 8 + 1 | none => 1)
  | _ => match s.dev? q.target with | some x => Nat.max 1 x.mps0 | none => 64

/-- The transaction of a request's present stage. -/
def State.reqTx (s : State) (q : Req) : Tx :=
  let m := s.reqMps q
  match s.setupOf q with
  | none => match q.r with
    | .hubPoll => { kind := .data, isIn := true, bytes := m, wire := m }
    | _ => { kind := .status, isIn := false, bytes := 0, wire := 0 }
  | some (t, _, _, _, l) => match q.stage with
    | 0 => { kind := .setup, isIn := false, bytes := 8, wire := 8 }
    | 1 => { kind := .data, isIn := 128 ≤ t, bytes := if 128 ≤ t then m else Nat.min m (l - q.got), wire := Nat.min m (l - q.got) }
    | _ => { kind := .status, isIn := t < 128 || l = 0, bytes := 0, wire := 0 }

/-- The row of Table 9.8 for the device that takes a request: its own speed, high behind a translator. -/
def State.reqSpeed (s : State) (q : Req) : Speed :=
  match s.dev? q.target with
  | some x => if (s.ttOf x.id x.speed).isSome then .high else x.speed
  | none => .high

/-- The duration of a request's next transaction on the root port; a pair of splits runs as one (notes/assumptions/111.md). -/
def State.reqNs (s : State) (q : Req) : Nat :=
  let tx := s.reqTx q
  let out := if tx.isIn then 0 else tx.wire
  let inn := if tx.isIn then tx.wire else 0
  if q.onRoot then 0
  else match s.dev? q.target with
  | some x =>
    if (s.ttOf x.id x.speed).isSome then costSplit out + costSlow x.speed .control tx.isIn tx.wire + costSplit inn
    else if x.speed.isSs then costSs x.speed 1 tx.wire
    else if x.speed = .high then costHs tx.wire
    else costSlow x.speed .control tx.isIn tx.wire
  | none => 0

/-- A request after a transaction of its own (R196 to R201): the next stage, the same again, or its end. -/
def Req.after (q : Req) (control : Bool) (len mps : Nat) (o : BusOutcome) : Req :=
  let next := fun (n : Nat) =>
    let q := { q with strikes := 0, got := if q.stage = 1 then q.got + n else q.got }
    match q.stage with
    | 0 => { q with stage := if !control then 3 else if len = 0 then 2 else 1 }
    | 1 => { q with stage := if len ≤ q.got || n < mps then 2 else 1 }
    | _ => { q with stage := 3 }
  match o with
  | .notStarted => q
  | .stall | .babble => { q with stage := 3, failed := true }
  | .error | .noResponse => if 3 ≤ q.strikes + 1 then { q with stage := 3, failed := true } else { q with strikes := q.strikes + 1 }
  | .ack => next (Nat.min mps (len - q.got))
  | .data n => next n
  | .nak | .nrdy | .nyet | .mismatch => if control then { q with strikes := 0 } else { q with stage := 3, strikes := 0 }

end Sys2Proof.Machine
end

