-- ==== Sys2Proof/Machine/Calendar.lean ====
section
/-! DEFINITION. The schedule calendar: service intervals, loads, periodic admission (07 R180 to R186). -/

namespace Sys2Proof.Machine

/-- The largest power of two that is at most n, from 1 to 2^k. -/
def floorPow2 : Nat → Nat → Nat
  | 0, _ => 1
  | k + 1, n => if 2 ^ (k + 1) ≤ n then 2 ^ (k + 1) else floorPow2 k n

/-- Clip to a range. -/
def clip (lo hi n : Nat) : Nat := Nat.max lo (Nat.min hi n)

/-- Service interval of a periodic endpoint (Table 7.4), in the slot unit of its own speed. -/
def serviceInterval (sp : Speed) (e : EpDesc) : Nat :=
  match sp, e.kind with
  | .full, .interrupt | .low, _ => floorPow2 7 (clip 1 255 e.bInterval)
  | _, _ => 2 ^ (clip 1 16 e.bInterval - 1)

/-- Bytes per service interval of a periodic endpoint. -/
def EpDesc.perService (e : EpDesc) : Nat := e.mps * Nat.max 1 e.burst

/-- The side's calendar period P (R182). -/
def periodOf (frame : Bool) : Nat := if frame then 32 else 256

/-- A reservation occupies a slot of its side at phase p, with a load: its cost there. -/
def Resv.costAt (r : Resv) (slot : Nat) : Nat :=
  ((r.loads.filter (fun l => slot % r.width = (r.phase + l.1) % r.width)).map (fun l => l.2)).sum

/-- Its payload bytes in microframe slot m of 256: in its own slot, and for full and low speed in the first microframe of its frame
(R181). -/
def Resv.bytesAt (r : Resv) (m : Nat) : Nat :=
  if r.frame then (if m % 8 = 0 && m / 8 % r.width = r.phase then r.bytes else 0)
  else if r.tt.isSome then (if m % 8 = 0 && (List.range 8).any (fun i => (m + i) % r.width = r.phase) then r.bytes else 0)
  else if m % r.width = r.phase then r.bytes else 0

/-- Its cost on its TT's full-speed frame k of 32 (R185). -/
def Resv.ttFrame (r : Resv) (k : Nat) : Nat :=
  if r.tt.isSome && (List.range 8).any (fun i => (8 * k + i) % r.width = r.phase) then r.ttCost else 0

/-- Its start-split bytes in microframe slot m. -/
def Resv.ttBytesAt (r : Resv) (m : Nat) : Nat :=
  if r.tt.isSome then ((r.ttBytes.filter (fun l => m % r.width = (r.phase + l.1) % r.width)).map (fun l => l.2)).sum
  else 0

/-- Every reservation with its tenant. -/
def State.resvs (s : State) : List (TenantId × Resv) :=
  s.flows.filterMap (fun f => f.resv.map (fun r => (f.t, r)))

def Resv.onSide (r : Resv) (p : PortId) (ss : Bool) : Bool := r.port = p && r.ss = ss

/-- The load of a side's slot, of all tenants or of one. -/
def loadAt (l : List (TenantId × Resv)) (p : PortId) (ss : Bool) (who : Option TenantId) (slot : Nat) : Nat :=
  ((l.filter (fun e => e.2.onSide p ss && (who = none || who = some e.1))).map (fun e => e.2.costAt slot)).sum

/-- Controller-wide bytes of microframe slot m. -/
def bytesAt (l : List (TenantId × Resv)) (m : Nat) : Nat := (l.map (fun e => e.2.bytesAt m)).sum

/-- The worst load of a side over its slots. -/
def worstLoad (l : List (TenantId × Resv)) (p : PortId) (ss frame : Bool) : Nat :=
  ((List.range (periodOf frame)).map (loadAt l p ss none)).foldl Nat.max 0

/-- SCH_PERIODIC_BYTES.WORST. -/
def worstBytes (l : List (TenantId × Resv)) : Nat := ((List.range 256).map (bytesAt l)).foldl Nat.max 0

/-- Capacity of a slot (Table 7.3). -/
def slotCapacity (ss frame : Bool) (urgent : Nat) : Nat :=
  if ss then Nat.min 112500 (125000 - urgent) else if frame then 900000 else 100000

/-- The tenant's cap on a side or TT (R184). -/
def ShareRec.cap (r : ShareRec) (ss frame : Bool) : Nat := if ss then r.capSs else if frame then r.capFs else r.capHs

/-- The reservation that an endpoint of a device would make, at phase 0 (R182, R183, R185). The start-split lies one microframe
before the best-case position of the full-speed transaction, the three complete-splits from the one after that position
on (notes/assumptions/21.md). -/
def State.resvFor (s : State) (d : Dev) (e : EpDesc) : Resv :=
  let sp := d.speed
  let isIn := e.addr.getLsbD 7
  let i := serviceInterval sp e
  let b := e.perService
  let frame := s.frameSide d.id
  let tt := s.ttOf d.id sp
  if tt.isSome then
    let chunks := Nat.max 1 ((b + 187) / 188)
    let bytes := (List.range chunks).map (fun k => (k, Nat.min 188 (b - 188 * k)))
    let starts := if isIn then [(0, costSplit 0)] else bytes.map (fun l => (l.1, costSplit l.2))
    let ends := if e.kind = .iso && !isIn then []
      else (List.range 3).map (fun k => ((if isIn then 2 else chunks + 1) + k, costSplit (if isIn then Nat.min 188 b else 0)))
    { port := d.id.port, ss := false, frame := false, phase := 0, interval := 8 * i, width := Nat.min (8 * i) 256,
      loads := starts ++ ends, bytes := b, tt := tt, ttCost := costSlow sp e.kind isIn b, ttBytes := bytes }
  else
    let cost := if sp.isSs then
        let n := Nat.max 1 e.burst
        ((List.range ((n + 15) / 16)).map (fun k => costSs sp (Nat.min 16 (n - 16 * k)) (e.mps * Nat.min 16 (n - 16 * k)))).sum
      else if sp = .high then Nat.max 1 e.burst * (if e.kind = .iso then costHsIso e.mps else costHs e.mps)
      else costSlow sp e.kind isIn b
    { port := d.id.port, ss := d.id.ss, frame := frame, phase := 0, interval := i, width := Nat.min i (periodOf frame),
      loads := [(0, cost)], bytes := b }

/-- The TT budgets hold with the reservation added (R185): per frame and per microframe. -/
def ttOk (l : List (TenantId × Resv)) (t : TenantId) (r : Resv) : Bool :=
  match r.tt with
  | none => true
  | some k =>
    let l := (t, r) :: l.filter (fun e => e.2.tt = some k)
    (List.range 32).all (fun fr => (l.map (fun e => e.2.ttFrame fr)).sum ≤ 900000) &&
    (List.range 256).all (fun m => (l.map (fun e => e.2.ttBytesAt m)).sum ≤ 188)

/-- The tenant's PERIODIC_CAP_FS holds on the TT with the reservation added (R184). -/
def ttCapOk (l : List (TenantId × Resv)) (t : TenantId) (cap : Nat) (r : Resv) : Bool :=
  match r.tt with
  | none => true
  | some k => (List.range 32).all (fun fr =>
      ((((t, r) :: l).filter (fun e => e.2.tt = some k && e.1 = t)).map (fun e => e.2.ttFrame fr)).sum * 256 ≤ cap * 900000)

/-- Why a phase is rejected: 1 port capacity, 2 tenant cap, 3 controller bytes, 4 TT budget; 0 if it is not. Each limit is tested over every
slot of the phase before the next (DESIGN CHOICE, notes/assumptions/112.md). -/
def State.rejectPhase (s : State) (t : TenantId) (r : Resv) : Nat :=
  let l := s.resvs
  let all := (t, r) :: l
  let slots := (List.range (periodOf r.frame)).filter (fun k => 0 < r.costAt k)
  let capacity := slotCapacity r.ss r.frame (vget s.ports r.port).urgent
  if slots.any (fun k => capacity < loadAt all r.port r.ss none k) then 1
  else if slots.any (fun k => (s.share t).cap r.ss r.frame * capacity < 256 * loadAt all r.port r.ss (some t) k) then 2
  else if !(ttCapOk l t (s.share t).capFs r) then 2
  else if (List.range 256).any (fun m => 0 < r.bytesAt m && 800000 < bytesAt all m) then 3
  else if !(ttOk l t r) then 4
  else 0

/-- The admission search over phases: the best phase with its worst load, and the reason of the last rejection. -/
def State.admitFrom (s : State) (t : TenantId) (r : Resv) : Nat → Option (Nat × Nat) × Nat
  | 0 => (none, 0)
  | k + 1 =>
    let (best, why) := s.admitFrom t r k
    let c := { r with phase := k }
    let x := s.rejectPhase t c
    if x ≠ 0 then (best, x)
    else
      let w := worstLoad ((t, c) :: s.resvs) r.port r.ss r.frame
      match best with
      | some (_, v) => if w < v then (some (k, w), why) else (best, why)
      | none => (some (k, w), why)

/-- Periodic admission (R183): the reservation made, or none with the refusal counted in SCH_ADMIT_FAILS. -/
def State.reserveEp (s : State) (t : TenantId) (d : Dev) (e : EpDesc) : Option Resv × State :=
  let r := s.resvFor d e
  match s.admitFrom t r r.width with
  | (some (p, _), _) => (some { r with phase := p }, s)
  | (none, why) =>
    (none, { s with frames := { s.frames with
      admitFails := satAdd s.frames.admitFails 1 (2 ^ 32 - 1), lastReason := why, lastPort := r.port } })

/-- The running count of the side's slot unit. -/
def Resv.count (r : Resv) (f : Nat) : Nat := if r.frame then f / 8 else f

/-- Microframe f starts a service interval of the reservation (R182): in a served pass, at its phase. -/
def Resv.dueAt (r : Resv) (f : Nat) : Bool :=
  (!r.frame || f % 8 = 0) && r.count f % r.interval = r.phase

/-- The first microframe from f on that starts a service interval. -/
def Resv.nextDue (r : Resv) (f : Nat) : Nat :=
  let u := if r.frame then 8 else 1
  let c := (f + u - 1) / u
  (c + (r.phase + r.interval - c % r.interval) % r.interval) * u

/-- Microframes of one service slot: the frame on a frame side, the split's microframes behind a TT, else one. -/
def Resv.slotSpan (r : Resv) : Nat :=
  if r.frame then 8 else if r.tt.isSome then ((r.loads.map (fun l => l.1)).foldl Nat.max 0) + 1 else 1

end Sys2Proof.Machine
end

