-- ==== Sys2Proof/Machine/Flags.lean ====
section
/-! DEFINITION. Pending nodes, event flags, wait masks and levels (08 R208 to R214, R218 to R221). -/

namespace Sys2Proof.Machine

/-! ### What each node would work on -/

/-- A piece that MOVE would carry next: transfer, TD slot, bytes (08 R218). -/
structure Piece where
  x : Nat
  slot : Nat
  bytes : Nat
  deriving DecidableEq, Repr

/-- The TD of the transfer that holds a byte of its stream. -/
def Flow.tdAt (f : Flow) (x : Xfer) (off : Nat) : Option Td :=
  (f.tdsOf x).find? (fun d => x.passed d && f.offset x d ≤ off && off < f.offset x d + d.dataLen)

/-- The end of the 4 KiB piece that byte `off` lies in: at most the TD's end and the seal unit's end. -/
def Flow.pieceEnd (f : Flow) (x : Xfer) (d : Td) (off : Nat) : Nat :=
  let st := f.offset x d
  let e := Nat.min (st + ((off - st) / 4096 + 1) * 4096) (st + d.dataLen)
  if x.unit = 0 then e else Nat.min e ((off / x.unit + 1) * x.unit)

/-- The piece of a transfer that MOVE can carry now. An IN piece is complete when its bytes have arrived, or when no more
will come. -/
def Flow.pieceOf (f : Flow) (x : Xfer) : Option Piece :=
  if x.status = some (.dmaFault, 0) then none
  else match f.tdAt x x.moved with
    | none => none
    | some d =>
      let e := f.pieceEnd x d x.moved
      if f.xIn x then
        let have_ := Nat.min x.ready (f.known x)
        if e ≤ have_ then some { x := x.id, slot := d.slot, bytes := e - x.moved }
        else if f.dataOver x && x.moved < have_ then some { x := x.id, slot := d.slot, bytes := have_ - x.moved }
        else none
      else if x.busEnd then none
      else some { x := x.id, slot := d.slot, bytes := e - x.moved }

/-- MOVE's next piece, in ring order. -/
def Flow.movePiece (f : Flow) : Option Piece := f.xs.findSome? f.pieceOf

/-- The plaintext size of the next unit that SEAL can seal: a whole unit, or the last of the transfer (10 R273). -/
def Flow.sealOf (f : Flow) (x : Xfer) : Option (Nat × Nat) :=
  if x.unit = 0 || x.busEnd || f.xIn x then none
  else if (x.units + 1) * x.unit ≤ x.moved then some (x.id, x.unit)
  else if f.whole x && x.moved = f.known x && (x.plain < f.known x || x.units = 0) then some (x.id, f.known x - x.plain)
  else none

/-- SEAL works on the first transfer that has not retired, so that a sequence that is not sent can be given back
(notes/assumptions/115.md). -/
def Flow.sealNext (f : Flow) : Option (Nat × Nat) := f.xs.head?.bind f.sealOf

/-- The wire size of the next unit that UNSEAL can take: a whole unit, or what a short packet ended (10 R273, R274). -/
def Flow.unsealOf (f : Flow) (x : Xfer) : Option (Nat × Nat) :=
  if x.unit = 0 || !(f.xIn x) then none
  else if x.used + x.unit + 24 ≤ x.wire then some (x.id, x.unit + 24)
  else if x.used < x.wire && !x.busEnd && f.dataOver x then some (x.id, x.wire - x.used)
  else none

def Flow.unsealNext (f : Flow) : Option (Nat × Nat) := f.xs.findSome? f.unsealOf

/-- Nothing is left to move of what the bus brought in. -/
def Flow.movesOver (f : Flow) (x : Xfer) : Bool :=
  (f.pieceOf x).isNone && (f.unsealOf x).isNone

/-- A TD's own work on its graph is done, so that its RETIRE is ready (08 Table 8.6). -/
def Flow.tdDone (f : Flow) (x : Xfer) (d : Td) : Bool :=
  let last := f.offset x d + d.dataLen
  if d.stage ≠ .checked then false
  else if d.type = 6 then true
  else if (match x.stop with | some n => decide (n ≤ d.slot) | none => false) then true
  else if x.busEnd then f.movesOver x
  else if f.control then
    if d.type = 2 then 1 ≤ x.ctl
    else if d.type = 3 then 2 ≤ x.ctl && f.movesOver x
    else x.ctl = 3
  else if d.isEnd || x.stop.isSome then f.dataOver x && f.movesOver x
  else if f.xIn x then last ≤ x.moved || (f.dataOver x && f.movesOver x)
  else last ≤ x.acked || f.dataOver x || (f.starved x && last ≤ x.moved)

/-- The TD that RETIRE takes next: the first that has not retired, if its work is done. -/
def Flow.retireNext (f : Flow) : Option Td :=
  match f.live with
  | [] => none
  | d :: _ => match f.xfer? d.x with
    | some x => if f.tdDone x d then some d else none
    | none => some d

/-- The TD that CHECK takes next. -/
def Flow.checkNext (f : Flow) : Option Td := f.tds.find? (fun d => d.stage = .fetched)

/-! ### Operations in slots -/

/-- A node of a task is in a worker slot. -/
def State.placed (s : State) (task : Nat) (n : Node) : Bool := s.slotOps.any (fun o => o.task = task && o.node = n)

/-- Prefetch-cache entries that a tenant's FETCH can take (08 R220): its own 8, and what the guarantees leave. -/
def State.cacheFor (s : State) (t : TenantId) : Nat :=
  let fetching := fun (u : TenantId) => ((s.slotOps.filter (fun o => o.node = .fetch && o.task < 16384 &&
    s.taskTenant o.task = some u)).map (fun o => o.arg)).sum
  let used := fun (u : TenantId) =>
    ((s.flows.filter (fun f => f.t = u)).map (fun f => f.tds.length)).sum + fetching u
  let active := fun (u : TenantId) => (s.tenant u).st = .active
  let kept := ((allFin 256).map (fun u => if active u then Nat.max 8 (used u) else used u)).sum
  (if active t then 8 - used t else 0) + (4096 - kept)

/-- SCH_CACHE.FREE. -/
def State.cacheFree (s : State) : Nat := 4096 - (s.flows.map (fun f => f.tds.length)).sum

/-- The default pipe waits while a handshake's requests use it (10 Table 10.2 step 2, R265). -/
def State.defaultHeld (s : State) (f : Flow) : Bool := f.control && s.defaultTaken f

/-- FETCH of a handle is stopped: SEAL_PIPE, UNSEAL_PIPE or SET_GROUP is at work on it (R134), a rekey handshake (10 R277), or, of a
default pipe, a handshake that uses it. -/
def State.fetchHeld (s : State) (f : Flow) : Bool :=
  (s.rings (.vf f.t)).orders.any (fun o => (o.code = 8 || o.code = 9 || o.code = 0xC) &&
    (o.stage = .acting || o.stage = .waiting) && field (o.p 0) 0 10 = f.h.val) ||
  s.seals.hs.any (fun x => x.t = f.t && x.h = f.h) || s.defaultHeld f

/-- TDs that a FETCH of the flow would read: at most 8, up to LAST, in flight and cache limits. -/
def State.fetchCount (s : State) (f : Flow) : Nat :=
  Nat.min (Nat.min (8 - f.tds.length) (f.last - f.consumed).toNat) (s.cacheFor f.t)

/-- The device of the flow can take a transaction: present, addressed, not suspended, resuming or being reset. -/
def State.devReady (s : State) (f : Flow) : Bool :=
  match s.dev? f.dev with
  | some d => !d.suspended && d.suspendWait.isNone && d.resume = .none && d.reset = .none
  | none => false

/-- An earlier periodic flow of the slot, in calendar order, could still start (R187 step 3). -/
def State.earlierInSlot (s : State) (f : Flow) : Bool :=
  let lvl := fun (g : Flow) => if (s.share g.t).base + g.plOff = 0 then 0 else 1
  f.periodic && (s.sideFlows f.dev).any (fun g => g.entry ≠ f.entry && g.slotDue && g.slotRoom &&
    (lvl g < lvl f || (lvl g = lvl f && g.entry < f.entry)) && (s.nextTx g).isSome && s.devReady g)

/-- Seal engines without an operation. -/
def State.sealFree (s : State) : Bool := (s.slotOps.filter (fun o => o.node = .seal || o.node = .unseal)).length < 2

/-- The TD that a node of a flow would work on, for its colour. -/
def State.nodeTd (s : State) (f : Flow) : Node → Option Td
  | .check => none
  | .move => f.movePiece.bind (fun p => f.tds.find? (fun d => d.slot = p.slot))
  | .retire => f.retireNext
  | .issue => (s.nextTx f).bind (fun r =>
      if f.control then f.setupOf r.1 else
      (f.tdAt r.1 (if r.1.unit = 0 then r.1.wire else r.1.acked)).orElse (fun _ => (f.tdsOf r.1).getLast?))
  | .seal => f.sealNext.bind (fun p => (f.xfer? p.1).bind (fun x => f.tdAt x x.plain))
  | .unseal => f.unsealNext.bind (fun p => (f.xfer? p.1).bind (fun x => f.tdAt x x.plain))
  | _ => none

/-- The next event that a NOTIFY of the flow would write. -/
def State.notifyNext (s : State) (f : Flow) : Option NotifyOp :=
  (s.rings (.vf f.t)).notify.find? (fun n => !n.placed && n.ev.task = some f.entry)

/-- The TD that a node would work on is yellow; a NOTIFY is of the colour of the TD that it reports. -/
def State.nodeYellow (s : State) (f : Flow) : Node → Bool
  | .notify => match s.notifyNext f with | some n => n.ev.yellow | none => false
  | n => match s.nodeTd f n with | some d => d.yellow | none => false

/-- The level of a node of a flow (Table 8.4): a yellow TD's from CHECK onward is lowered by two. -/
def State.flowNodeLevel (s : State) (f : Flow) (n : Node) : Nat :=
  if f.periodic then s.taskLevel f else if s.nodeYellow f n then Nat.min 7 (s.flowLevel f + 2) else s.flowLevel f

/-! ### Flags (Table 8.2) -/

/-- The SETUP TD of the transfer that is next on the bus has passed CHECK, and TDs of the transfer have not (R117). -/
def Flow.setupWaits (f : Flow) : Bool :=
  match f.busXfer with
  | some x => f.control && x.ctl = 0 && !(f.whole x) && (match f.setupOf x with | some d => x.passed d | none => false)
  | none => false

/-- Bytes of a transfer in the staging buffers: carried on one side, not yet on the other. -/
def Flow.stagedBytes (f : Flow) (x : Xfer) : Nat :=
  if f.xIn x then (if x.unit = 0 then x.wire - x.moved else (x.wire - x.used) + (x.plain - x.moved))
  else if x.busEnd then 0
  else if x.unit = 0 then x.moved - x.wire else (x.plain + 24 * x.units - x.wire) + (x.moved - x.plain)

/-- Lines of 32 bytes of the staging buffers in use, those of an IN in a slot included (01 Table 1.5). -/
def State.stagingLines (s : State) : Nat :=
  (s.flows.flatMap (fun f => f.xs.map (fun x => (f.stagedBytes x + 31) / 32))).sum +
  (s.slotOps.map (fun o => match o.tx with | some (_, tx) => if tx.isIn then (tx.bytes + 31) / 32 else 0 | none => 0)).sum

/-- There is staging space for a transaction: an IN's largest payload. -/
def State.stagingRoom (s : State) (tx : Tx) : Bool := !tx.isIn || s.stagingLines + (tx.bytes + 31) / 32 ≤ 16384

/-- A node of a flow has its input (TD_READY). -/
def State.tdReady (s : State) (f : Flow) : Node → Bool
  | .fetch => true
  | .check => f.checkNext.isSome
  | .move => f.movePiece.isSome
  | .seal => f.sealNext.isSome
  | .unseal => f.unsealNext.isSome
  | .issue => ((s.nextTx f).isSome || f.setupWaits) &&
      (!f.iso || f.tds.any (fun d => f.slotDue && d.interval = some f.slotF &&
        (match f.busXfer with | some x => d.x = x.id | none => false)))
  | .retire => f.retireNext.isSome
  | .notify => (s.notifyNext f).isSome

/-- FLOW_HEAD of a node (R221): CHECK of a fenced TD waits for its fence; ISSUE for the transactions of earlier TDs, for a RUNNING handle,
and at a SETUP for the CHECK of the whole transfer. -/
def State.flowHead (s : State) (f : Flow) : Node → Bool
  | .check => match f.checkNext with | some d => !d.fence || s.fenceClear f d | none => true
  | .issue => f.st = .running && !f.setupWaits && !s.inTransaction f.entry
  | _ => false

/-- The device and pipe of a flow can take a transaction, whatever the side does. -/
def State.pipeOpen (s : State) (f : Flow) (tx : Tx) : Bool :=
  s.devReady f && !f.nrdy && !s.ttClearing f.dev f.ep.addr && !s.defaultHeld f && s.stagingRoom tx

/-- GATE_OPEN and WINDOW of a transaction of a flow (09 R243, R245). -/
def State.gateOpen (s : State) (f : Flow) : Bool := gateOk (some (s.tcOf f)) (vget s.sluice.ports f.dev.port).open8

def State.inWindow (s : State) (f : Flow) (tx : Tx) : Bool :=
  s.fitsAt f.dev.port (some (s.tcOf f)) (s.duration f tx) (s.time.now + 100)

/-- An asynchronous transaction at PL0 is ready on its side, but for the side itself. -/
def State.urgent (s : State) (g : Flow) : Bool :=
  !g.periodic && s.flowNodeLevel g .issue = 0 && g.ending.isNone && s.flowHead g .issue && s.gateOpen g && s.budget g.t && !g.parked &&
  (s.tenant g.t).st = .active && !(s.rings (.vf g.t)).stopped &&
  (match s.nextTx g with
   | some (_, tx) => s.pipeOpen g tx && s.inWindow g tx && s.mayStart g.dev false false (s.duration g tx) 0
   | none => false)

/-- In the urgent reserve asynchronous PL0 work goes first whenever it is ready (R187 step 2). -/
def State.urgentFirst (s : State) (f : Flow) : Bool :=
  f.periodic && s.inReserve f.dev && (s.sideFlows f.dev).any (fun g => g.entry ≠ f.entry && s.urgent g)

/-- PORT_READY of an endpoint flow. -/
def State.portReady (s : State) (f : Flow) : Bool :=
  !s.sideBusy f.dev && (match s.nextTx f with
    | some (_, tx) => s.mayStart f.dev (f.periodic && f.slotDue && f.slotRoom) f.periodic (s.duration f tx) (s.flowNodeLevel f .issue) &&
        s.pipeOpen f tx && !s.earlierInSlot f && !s.urgentFirst f
    | none => true)

/-- CREDIT: the deficit covers the next transaction's charge; an asynchronous PL0 one starts in the urgent reserve without it (R192, R194). -/
def State.credit (s : State) (f : Flow) : Bool :=
  f.periodic || (s.flowNodeLevel f .issue = 0 && s.inReserve f.dev && (s.nextTx f).isSome) ||
  decide (((s.nextCharge f).getD 0 : Int) ≤ (s.side f.dev.port f.dev.ss).deficit f.t)

/-- The sixteen flags of an endpoint flow for a node. -/
def State.flowFlags (s : State) (f : Flow) (n : Node) : BitVec 16 :=
  BitVec.ofNat 16 (
    b2n (f.st = .running && !f.fetchFault && !s.fetchHeld f && 0 < s.fetchCount f) +
    2 * b2n (s.tdReady f n) + 4 * b2n (f.slotDue || !f.periodic) +
    8 * b2n (s.gateOpen f) + 16 * b2n (s.credit f) + 32 * b2n (s.budget f.t) + 64 * b2n (s.portReady f) +
    128 * b2n (s.flowHead f n) + 256 * b2n (match s.nextTx f with | some (_, tx) => s.inWindow f tx | none => true) +
    512 * b2n (!f.parked || f.periodic) + 1024 * b2n ((s.tenant f.t).st = .active) +
    2048 * b2n (f.key.isSome && s.sealFree) + 4096 * b2n (!(s.rings (.vf f.t)).stopped) + 8192)

/-- The wait mask of an endpoint flow's node (Table 8.3). -/
def flowMask (periodic : Bool) : Node → BitVec 16
  | .fetch => 0x1401
  | .check => 0x1482
  | .move => 0x1022
  | .seal => 0x1822
  | .unseal => 0x1822
  | .issue => if periodic then 0x17EE else 0x17FA
  | .retire => 0x1002
  | .notify => 0x0002

/-- The nodes of a flow, latest in the graph first (Table 8.6): MOVE follows ISSUE on an IN and goes before it on an OUT; a default pipe
has the direction of its first transfer. -/
def Flow.nodesLatest (f : Flow) : List Node :=
  if (match f.xs with | x :: _ => f.xIn x | [] => f.isIn)
  then [.notify, .retire, .move, .unseal, .seal, .issue, .check, .fetch]
  else [.notify, .retire, .unseal, .issue, .seal, .move, .check, .fetch]

/-- Work of a tenant may run: it is ACTIVE, QUIESCING or QUIESCED. -/
def State.runs (s : State) (f : Fn) : Bool := s.mayNotify f

/-- A node of an endpoint flow is ready; while an abrupt end waits for the transaction in progress, only events are written. -/
def State.flowReady (s : State) (f : Flow) (n : Node) : Bool :=
  s.runs (.vf f.t) && (f.ending.isNone || n = .notify) && !(s.placed f.entry n) &&
  (s.flowFlags f n &&& flowMask f.periodic n = flowMask f.periodic n)

/-! ### Order flows and internal tasks -/

/-- Entries that a FETCH of an order ring would read: up to the producer, in flight at most 8, not past the ring's end. -/
def Rings.orderCount (r : Rings) : Nat :=
  Nat.min (8 - (r.orders.filter (fun o => !o.ghost)).length)
    (Nat.min ((r.prod + r.orderSize - r.cons) % r.orderSize) (r.orderSize - r.cons))

/-- An event of the owner whose NOTIFY runs on its order flow: of no handle, or of one that has closed. -/
def State.orderNotify (s : State) (f : Fn) (n : NotifyOp) : Bool :=
  !n.placed && (match n.ev.task with
    | some e => !(s.flows.any (fun g => g.entry = e && .vf g.t = f))
    | none => true)

/-- The order moves data in a MOVE of its own (Table 8.6): ATTEST, IMAGE_WRITE, PEAT_EXPORT, PROVISION_CLAIM with MODE 1; its action is
not over. -/
def Order.moves (o : Order) : Bool :=
  (o.code = 0xB || o.code = 0x49 || o.code = 0x4B || (o.code = 0x4C && field (o.p 0) 0 8 = 1)) && (o.stage = .acting || o.stage = .waiting)

/-- Flags of an order flow for a node; CREDIT and BUDGET read 1, and TENANT_ACTIVE does for the manager's, which has no tenant. -/
def State.orderFlags (s : State) (f : Fn) (n : Node) : BitVec 16 :=
  let r := s.rings f
  let active := match f with | .pf0 => true | .vf t => (s.tenant t).st = .active
  let inp := match n with
    | .check => r.orders.any (fun o => o.stage = .fetched && !o.inSlot)
    | .retire => r.orders.any (fun o => o.stage = .ended && !o.inSlot)
    | .notify => r.notify.any (s.orderNotify f)
    | .fetch => true
    | .move => r.orders.any Order.moves
    | _ => false
  BitVec.ofNat 16 (b2n (r.en && 0 < r.orderCount) + 2 * b2n inp + 0x30 + 128 * b2n (decide (n = .check)) + 1024 * b2n active +
    4096 * b2n (!r.stopped))

/-- Order flows have no SEAL, UNSEAL or ISSUE. -/
def orderNodes : List Node := [.notify, .retire, .move, .check, .fetch]

/-- A node of an order flow is ready. CHECK runs on a core, one operation a core (R218). -/
def State.orderReady (s : State) (f : Fn) (n : Node) : Bool :=
  s.runs f && !(s.placed (orderTask f) n) &&
  !(n = .check && (allFin 4).any (fun c => match (vget s.sched.cores c).op with
      | some o => o.task = orderTask f && o.item.isNone | none => false)) &&
  (s.orderFlags f n &&& flowMask false n = flowMask false n)

/-- The owner of an order flow. -/
def taskOwner (task : Nat) : Option Fn :=
  if task = 16640 then some .pf0
  else if h : 16384 ≤ task ∧ task < 16640 then some (.vf ⟨task - 16384, by omega⟩) else none

/-- Level of an internal task or the manager order flow (Table 8.1). -/
def internalLevel (task : Nat) : Nat :=
  if task = 16640 then 1 else if task = sealTask then 2 else if task = peatTask then 3
  else if task = traceTask then 7 else 0

/-- Spill writes that are held because they cannot be sent. -/
def State.heldSpills (s : State) : Nat := (s.pf.held.filter (fun p => match p with | .spill _ _ _ => true | _ => false)).length

/-- The index of the spill ring that the next record takes. -/
def State.spillIndex (s : State) : Nat := (s.trace.pi + s.heldSpills) % 2 ^ s.trace.log2

/-- A record waits in the trace buffer and the spill ring has room (R232). -/
def State.canSpill (s : State) : Bool :=
  s.trace.spilling && !s.trace.buf.isEmpty && (s.spillIndex + 1) % 2 ^ s.trace.log2 ≠ s.trace.ci

/-- The ready node of an endpoint flow or of an order flow, latest in its graph at its highest level. -/
def State.graphNode (s : State) (task : Nat) : Option (Nat × Node) :=
  if task < 16384 then
    match s.flows.find? (fun f => f.entry = task) with
    | none => none
    | some f =>
      let l := (f.nodesLatest.filter (s.flowReady f)).map (fun n => (s.flowNodeLevel f n, n))
      l.foldl (fun a b => match a with | none => some b | some c => if b.1 < c.1 then some b else some c) none
  else match taskOwner task with
    | some f =>
      (orderNodes.find? (s.orderReady f)).map (fun n => (s.orderLevel f, n))
    | none => none

/-- The work of a task that a slot can take next: a node of its graph, an item or an internal node in the order in which they
were queued, a transaction of a request, or a record to spill. -/
inductive Ready where
  | node (n : Node)
  | work (w : Work)
  | req (q : Req)
  deriving DecidableEq, Repr

/-- Queued work may be placed: of an order flow, not while the owner's dispatch is stopped (05 R108). -/
def State.workReady (s : State) (w : Work) : Bool :=
  match taskOwner w.task with | some f => !(s.rings f).stopped | none => true

/-- A request has its next transaction to make: it is the first of its device that has, and none of it is placed (TD_READY). A suspend
waits for the requests of the device and of those below it (06 R164). -/
def State.reqHead (s : State) (q : Req) : Bool :=
  (q.r ≠ .suspend || s.sched.reqs.all (fun x => x = q || x.stage = 3 || !(x.target = q.d || x.target.below q.d))) &&
  s.sched.reqs.find? (fun x => x.target = q.target && decide (x.stage < 3)) = some q &&
  !(s.slotOps.any (fun o => o.usb = some (q.d, q.r)))

/-- PORT_READY, GATE_OPEN and WINDOW of a request, whose transactions belong to no class (09 R243). -/
def State.reqPort (s : State) (q : Req) : Bool :=
  !s.sideBusy q.target && s.mayStart q.target false false (s.reqNs q) 0 && s.stagingRoom (s.reqTx q)

def State.reqGate (s : State) (q : Req) : Bool := gateOk none (vget s.sluice.ports q.d.port).open8

def State.reqWindow (s : State) (q : Req) : Bool := s.fitsAt q.d.port none (s.reqNs q) (s.time.now + 100)

/-- An ISSUE of a request is ready (Table 8.3, last row). -/
def State.reqReady (s : State) (q : Req) : Bool := s.reqHead q && s.reqPort q && s.reqGate q && s.reqWindow q

/-- The wait mask of an internal task's ISSUE, of a node that waits on a delay, and of any other (Table 8.3). -/
def State.internalMask (s : State) (task : Nat) : BitVec 16 :=
  if s.sched.reqs.any (fun q => q.task = task && s.reqHead q) then 0x14A
  else if s.sched.work.all (fun w => w.task ≠ task) && s.sched.wheel.any (fun d => d.task = task) then 0x2002 else 0x2

/-- The flags of an internal task: those that have no meaning read 1; TIME_DUE of a delay that was released, and the flags of its first
request. -/
def State.internalFlags (s : State) (task : Nat) : BitVec 16 :=
  let q := s.sched.reqs.find? (fun q => q.task = task && s.reqHead q)
  let at_ := fun (p : Req → Bool) => b2n (match q with | some q => p q | none => true)
  let due := s.sched.due.any (fun d => d.task = task) || s.sched.work.any (fun w => w.task = task && w.why.isSome)
  let input := s.sched.work.any (fun w => w.task = task) || s.sched.wheel.any (fun d => d.task = task) || (task = traceTask && s.canSpill)
  BitVec.ofNat 16 (0x1430 + 2 * b2n (q.isSome || input) +
    8 * at_ s.reqGate + 64 * at_ s.reqPort + 256 * at_ s.reqWindow + 8192 * b2n due)

/-- The ready work of a task with its level. An order flow's items go after its ready nodes. -/
def State.readyWork (s : State) (task : Nat) : Option (Nat × Ready) :=
  match s.graphNode task with
  | some (l, n) => some (l, .node n)
  | none =>
    match s.sched.work.find? (fun w => w.task = task && s.workReady w), s.sched.reqs.find? (fun q => q.task = task && s.reqReady q) with
    | some w, _ => some (match taskOwner task with | some f => s.orderLevel f | none => internalLevel task, .work w)
    | none, some q => some (internalLevel task, .req q)
    | none, none =>
      if task = traceTask && s.canSpill && !(s.placed traceTask .move) then some (7, .node .move) else none

end Sys2Proof.Machine
end

