-- ==== Sys2Proof/Machine/Place.lean ====
section
/-! DEFINITION. DISPATCH: ready lists, arrival order, slot choice and placement (08 R211 to R217, R230). -/

namespace Sys2Proof.Machine

/-! ### Ready lists (R211, R213) -/

/-- Every task that could be ready, in the order of R213: internal tasks and the manager order flow, then tenants from tenant F
mod 256 on, each with its order flow and its handles ascending. -/
def State.arrivalOrder (s : State) : List Nat :=
  let first := (List.range 23).map (fun i => 16640 + i)
  let t0 := s.frames.f % 256
  first ++ (allFin 256).flatMap (fun i =>
    let t : TenantId := ⟨(i.val + t0) % 256, Nat.mod_lt _ (by decide)⟩
    let mine := s.flows.filter (fun f => f.t = t)
    let byHandle := mine.foldl (fun (a : List Flow) f =>
      a.takeWhile (fun g => g.h.val ≤ f.h.val) ++ [f] ++ a.dropWhile (fun g => g.h.val ≤ f.h.val)) []
    (16384 + t.val) :: byHandle.map (fun f => f.entry))

/-- The list of a level. -/
def State.list (s : State) (l : Nat) : List Nat := s.sched.ready.toList.getD l []

def State.modList (s : State) (l : Nat) (g : List Nat → List Nat) : State :=
  { s with sched := { s.sched with ready := vmod s.sched.ready ⟨l % 8, Nat.mod_lt _ (by decide)⟩ g } }

/-- Append a task to the list of its level if it is ready and listed nowhere. -/
def State.listTask (s : State) (task : Nat) : State :=
  if s.sched.ready.toList.any (fun l => l.contains task) then s
  else match s.readyWork task with
    | some (l, _) => s.modList l (fun x => x ++ [task])
    | none => s

/-- Tasks that stopped being ready, or whose level changed, leave their lists. -/
def State.dropLists (s : State) : State :=
  (List.range 8).foldl (fun a l => a.modList l (fun x => x.filter (fun k =>
    match s.readyWork k with | some (n, _) => n = l | none => false))) s

/-- The wheel releases one delay in the cycle: the node that waited on it is ready (R227). -/
def State.releaseOne (s : State) : State :=
  match s.sched.due with
  | d :: l =>
    (({ s with sched := { s.sched with due := l } } : State).addWork
      { task := d.task, node := .check, why := some d.why, late := d.late }).listTask d.task
  | [] => s

/-- One wheel release of the cycle, then every other arrival (R213, R227). -/
def State.refreshLists (s : State) : State := s.arrivalOrder.foldl State.listTask s.dropLists.releaseOne

/-! ### DEFER records (Table 8.12) -/

/-- Flags in the mask of a pending node that are clear. -/
def State.missingFlags (s : State) (f : Flow) (n : Node) : BitVec 16 := flowMask f.periodic n &&& ~~~(s.flowFlags f n)

/-- The DEFER kind of a set of missing flags: only BUDGET, only gate flags, only CREDIT. -/
def deferKind (m : BitVec 16) : Option Nat :=
  if m = 0x20 then some 1
  else if m ≠ 0 && m &&& ~~~0x108#16 = 0 then some 2
  else if m = 0x10 then some 3
  else none

/-- DETAIL of a DEFER record. -/
def State.deferDetail (s : State) (f : Flow) (kind : Nat) (m : BitVec 16) : Nat :=
  if kind = 1 then (s.share f.t).energy
  else if kind = 2 then s.tcOf f + 8 * b2n (!m.getLsbD 3)
  else twos 24 (clampInt 8388607 ((s.side f.dev.port f.dev.ss).deficit f.t))

/-- The sets that DEFER records name now: task, node code, missing flags. -/
def State.defersNow (s : State) : List (Flow × Node × BitVec 16) :=
  s.flows.flatMap (fun f => f.nodesLatest.filterMap (fun n =>
    let m := s.missingFlags f n
    if s.runs (.vf f.t) && !(s.placed f.entry n) && (deferKind m).isSome then some (f, n, m) else none))

/-- Write a record for each set that changed to one of those. -/
def State.traceDefers (s : State) : State :=
  let l := s.defersNow
  let was := s.sched.defers
  let key := fun (e : Flow × Node × BitVec 16) => (e.1.entry, e.2.1.code, e.2.2.toNat)
  let s1 := (l.filter (fun e => !(was.contains (key e)))).foldl (fun a e =>
    match deferKind e.2.2 with
    | some k => a.traceRec k e.1.entry (a.flowNodeLevel e.1 e.2.1) 0 false e.2.1.code (a.deferDetail e.1 k e.2.2)
    | none => a) s
  { s1 with sched := { s1.sched with defers := l.map key } }

/-! ### Slots (R215) -/

/-- A slot that takes an operation. -/
inductive SlotAt where
  | core (c : CoreId)
  | cur (w : WorkerId)
  | nxt (w : WorkerId)
  deriving DecidableEq, Repr

/-- Workers in the order of R215: non-reserved ascending, then W0, then W16. -/
def workerOrder : List WorkerId := (allFin 32).filter (fun w => w ≠ 0 && w ≠ 16) ++ [0, 16]

/-- A worker holds an operation of the tenant. -/
def State.workerOf (s : State) (t : TenantId) (w : WorkerId) : Bool :=
  let x := vget s.sched.workers w
  (x.cur.toList ++ x.next.toList).any (fun o => s.taskTenant o.task = some t)

/-- Workers that an operation of a task at a level may use. -/
def State.allowedWorkers (s : State) (task lvl : Nat) : List WorkerId :=
  let l := workerOrder.filter (fun w => !(vget s.sched.workers w).fenced && !s.restarting (workerIsland w) && !(2 ≤ lvl && (w = 0 || w = 16)))
  match s.taskTenant task with
  | some t =>
    let mine := workerOrder.filter (s.workerOf t)
    if (s.share t).workerLimit ≤ mine.length then l.filter (fun w => mine.contains w) else l
  | none => l

/-- The decisions on a tenant's task need a word of the active policy snapshot that is lost, and wait for the swap (15 Table 15.2). -/
def State.policyWaits (s : State) (task : Nat) : Bool :=
  (s.taskTenant task).isSome && s.sched.policyLost.any (fun w => match w with | some off => Config.policyNeeds off task | none => true)

/-- A worker slot for an operation: an empty current slot, else an empty next slot; none while the DATA area is in ITEM mode
(R228), or while the decision waits. -/
def State.chooseWorker (s : State) (task lvl : Nat) : Option SlotAt :=
  if s.sched.data = .item || s.policyWaits task then none
  else
    let l := s.allowedWorkers task lvl
    match l.find? (fun w => (vget s.sched.workers w).cur.isNone) with
    | some w => some (.cur w)
    | none => (l.find? (fun w => (vget s.sched.workers w).next.isNone)).map SlotAt.nxt

/-- The lowest-numbered core with an empty slot. -/
def State.chooseCore (s : State) : Option SlotAt :=
  if s.restarting .mgmt then none
  else ((allFin 4).find? (fun c => (vget s.sched.cores c).op.isNone && !(vget s.sched.cores c).fenced)).map SlotAt.core

/-- A self-test item. -/
def ItemCode.selfTest : ItemCode → Bool
  | .selfTestMbist | .selfTestLoopback => true
  | _ => false

/-- An item may be placed: in custody a self-test item only; the item for which the workers are held waits until their slots are
empty (R228). -/
def State.itemAllowed (s : State) (c : ItemCode) : Bool :=
  if s.sched.cause = .custody && !c.selfTest then false
  else if c = .selfTestLoopback then s.sched.data = .item && s.slotOps.isEmpty
  else if c = .faultRecover && s.sched.cause = .recovery then s.slotOps.isEmpty
  else true

/-- The slot for a task's ready work. -/
def State.chooseSlot (s : State) (task lvl : Nat) : Ready → Option SlotAt
  | .node .check =>
    if (taskOwner task).isSome then (if s.sched.mgmt = .item then none else s.chooseCore) else s.chooseWorker task lvl
  | .node _ => s.chooseWorker task lvl
  | .work w => match w.item with
    | some c => if s.itemAllowed c then s.chooseCore else none
    | none => s.chooseWorker task lvl
  | .req _ => s.chooseWorker task lvl

/-! ### Placement -/

/-- Put an operation in a slot. -/
def State.putOp (s : State) (at_ : SlotAt) (o : Op) : State :=
  match at_ with
  | .core c => s.modCore c (fun x => { x with op := some { o with start := s.time.now } })
  | .cur w => s.modWorker w (fun x => { x with cur := some { o with start := s.time.now } })
  | .nxt w => s.modWorker w (fun x => { x with next := some o })

/-- The ring slot, order index or event index that an operation concerns. -/
def State.opRef (s : State) (task : Nat) (n : Node) : Nat :=
  match s.flows.find? (fun f => f.entry = task), taskOwner task with
  | some f, _ => match n with
    | .fetch => f.slots
    | .check => match f.checkNext with | some d => d.slot | none => 0
    | .retire => match f.retireNext with | some d => d.slot | none => 0
    | .move => match f.movePiece with | some p => p.slot | none => 0
    | .notify => match s.notifyNext f with | some x => x.idx | none => 0
    | m => match s.nodeTd f m with | some d => d.slot | none => 0
  | none, some g => match n with
    | .fetch => (s.rings g).cons
    | .check => match (s.rings g).orders.find? (fun o => o.stage = .fetched && !o.inSlot) with | some o => o.k | none => 0
    | .retire => match (s.rings g).orders.find? (fun o => o.stage = .ended && !o.inSlot) with | some o => o.k | none => 0
    | .move => match (s.rings g).orders.find? Order.moves with | some o => o.k | none => 0
    | .notify => match (s.rings g).notify.find? (s.orderNotify g) with | some x => x.idx | none => 0
    | _ => 0
  | _, _ => 0

/-- What an operation takes along: the TDs or orders that a FETCH reads, the charge of an ISSUE (R193). -/
def State.opArg (s : State) (task : Nat) (n : Node) : Nat :=
  match s.flows.find? (fun f => f.entry = task), taskOwner task with
  | some f, _ => match n with
    | .fetch => s.fetchCount f
    | .issue => match s.nextTx f with | some (_, tx) => tx.bytes | none => 0
    | _ => 0
  | none, some g => (s.rings g).orderCount
  | _, _ => 0

/-- The effect of a placement, or of taking it back, on what the operation works on: an event or order is taken, a transaction is
charged. -/
def State.markOp (s : State) (o : Op) (on : Bool) : State :=
  let event := fun (g : Fn) => s.modRings g (fun r => { r with notify := r.notify.map (fun x =>
    if x.idx = o.ref then { x with placed := on } else x) })
  match s.flows.find? (fun f => f.entry = o.task), taskOwner o.task with
  | some f, _ => match o.node with
    | .issue => if f.periodic then s
      else s.modSide f.dev.port f.dev.ss (fun q => q.addDeficit f.t (if on then -(o.arg : Int) else (o.arg : Int)))
    | .notify => event (.vf f.t)
    | _ => s
  | none, some g => match o.kind, o.item, o.node with
    | .graph, none, .notify => event g
    | .graph, none, .check | .graph, none, .retire => s.modOrder g o.ref (fun x => { x with inSlot := on })
    | _, _, _ => s
  | _, _ => s

def State.noteOp (s : State) (o : Op) : State := s.markOp o true

def SlotAt.unit : SlotAt → Nat
  | .core c => c.val
  | .cur w => w.val
  | .nxt w => w.val

def SlotAt.isCore : SlotAt → Bool
  | .core _ => true
  | _ => false

def SlotAt.isNext : SlotAt → Bool
  | .nxt _ => true
  | _ => false

/-- The ring index that a trace record shows: of an endpoint flow, the slot within its ring. -/
def State.ringIndex (s : State) (o : Op) : Nat :=
  match o.item with
  | some c => c.code
  | none => match s.flows.find? (fun f => f.entry = o.task) with
    | some f => if o.node = .notify then o.ref else o.ref % Nat.max 1 f.ringEntries
    | none => o.ref

/-- The unit of a slot. -/
def SlotAt.unitId : SlotAt → UnitId
  | .core c => .core c
  | .cur w => .worker w
  | .nxt w => .worker w

/-- An operation written to a slot reaches its unit's island (01 R17). -/
def State.crossOp (s : State) (at_ : SlotAt) : State := s.passOp at_.unitId .sched [at_.unitId.island] s

/-- Place an operation: slot, decision count, DISPATCH record. -/
def State.place (s : State) (at_ : SlotAt) (o : Op) : State :=
  let s := ((s.putOp at_ o).noteOp o).crossOp at_
  let s := { s with sched := { s.sched with decisions := (s.sched.decisions + 1) % 2 ^ 64 } }
  s.traceRec 0 o.task o.pl at_.unit at_.isCore (if o.item.isSome then 8 else o.node.code)
    (s.ringIndex o % 65536 + 65536 * b2n at_.isNext)

/-- The transaction that an ISSUE of a task would start, with its transfer. -/
def State.opTx (s : State) (task : Nat) (n : Node) : Option (Nat × Tx) :=
  match n, s.flows.find? (fun f => f.entry = task) with
  | .issue, some f => (s.nextTx f).map (fun r => (r.1.id, r.2))
  | _, _ => none

/-- The operation of a task's ready work. -/
def State.opOf (s : State) (task lvl : Nat) : Ready → Op
  | .node n => { task := task, node := n, pl := lvl, ref := s.opRef task n, arg := s.opArg task n, time := s.time.now,
                 tx := s.opTx task n }
  | .work w => { task := task, node := w.node, pl := lvl, item := w.item, arg := w.arg, time := s.time.now, why := w.why, late := w.late }
  | .req q => { task := task, node := .issue, pl := lvl, time := s.time.now, usb := some (q.d, q.r), tx := some (0, s.reqTx q) }

/-- Take queued work out of its queue. -/
def State.takeWork (s : State) : Ready → State
  | .node _ => s
  | .work w => { s with sched := { s.sched with work := s.sched.work.erase w } }
  | .req _ => s

/-- The first task of a list whose work has a slot. -/
def State.pick (s : State) (lvl : Nat) : List Nat → Option (Nat × Ready × SlotAt)
  | [] => none
  | k :: l => match s.readyWork k with
    | some (_, r) => match s.chooseSlot k lvl r with
      | some a => some (k, r, a)
      | none => s.pick lvl l
    | none => s.pick lvl l

/-- The slot for an operation that is placed again: of an order's check on a core, while those take graph nodes. -/
def State.againSlot (s : State) (o : Op) : Option SlotAt :=
  if (taskOwner o.task).isSome && o.node = .check then (if s.sched.mgmt = .item then none else s.chooseCore)
  else s.chooseWorker o.task o.pl

/-- The first operation of a level that waits to be placed again, in the original order, and has a slot. -/
def State.againAt (s : State) (lvl : Nat) : List (Op × Nat) → Option (Op × Nat × SlotAt)
  | [] => none
  | (o, w) :: l => if o.pl = lvl then (match s.againSlot o with | some a => some (o, w, a) | none => s.againAt lvl l) else s.againAt lvl l

/-- Place an operation again: one of a fenced worker counts and is traced as FAULT_REDISPATCH (Table 8.8, Table 8.12). -/
def State.replace (s : State) (o : Op) (w : Nat) (a : SlotAt) : State :=
  let s : State := { s with sched := { s.sched with redo := s.sched.redo.erase (o, w), decisions := (s.sched.decisions + 1) % 2 ^ 64 } }
  let s := (s.putOp a o).crossOp a
  if w < 64 then
    ({ s with sched := { s.sched with redispatch := satAdd s.sched.redispatch 1 (2 ^ 32 - 1) } } : State).traceRec 10 o.task o.pl a.unit
      a.isCore o.node.code w
  else s.traceRec 0 o.task o.pl a.unit a.isCore o.node.code (s.ringIndex o % 65536)

/-- The first placement from a level down (R212): of an operation that is placed again, else of a listed task. -/
def State.placeFrom (s : State) : List Nat → State
  | [] => s
  | l :: ls => match s.againAt l s.sched.redo with
    | some (o, w, a) => s.replace o w a
    | none => match s.pick l (s.list l) with
      | some (k, r, a) => (((s.modList l (fun x => x.erase k)).takeWork r).place a (s.opOf k l r)).listTask k
      | none => s.placeFrom ls

/-- An endpoint that sent NRDY is ready again when its ERDY came, which is free (07 R198). -/
def State.erdys (s : State) : State :=
  s.flows.foldl (fun a f =>
    if f.nrdy then (let (b, a) := a.drawBool; if b then a.modFlow f.t f.h (fun f => { f with nrdy := false }) else a) else a) s

/-- One SCHED cycle: at most one placement. -/
def State.dispatch (s : State) : State := s.cycle (fun s => s.erdys.settleDrr.traceDefers.refreshLists.placeFrom (List.range 8))

/-- DISPATCH (R212): SCHED runs; a task that can be listed wakes it while it sleeps, and placement waits (01 R17, 13 R331). -/
def execDispatch (s : State) : Host.Outcome State Fault Refusal :=
  .next (if s.running .sched then s.dispatch
    else if s.refreshLists.sched.ready.toList.all List.isEmpty then s
    else s.rouse .sched)

/-! ### Registers -/

/-- SCH_WORKER[w]. -/
def State.workerView (s : State) (w : WorkerId) : Word :=
  let x := vget s.sched.workers w
  let c := x.cur.toList.flatMap (fun o => [(1, 43), (o.node.code, 40), (o.pl, 32), (o.task, 0)])
  let n := x.next.toList.flatMap (fun o => [(1, 47), (o.node.code, 44), (o.task, 16)])
  pack (c ++ n ++ [(b2n x.fenced, 48), (b2n (w = 0 || w = 16), 49)])

/-- SCH_CORE[c]. -/
def State.coreSlotView (s : State) (c : CoreId) : Word :=
  pack ((vget s.sched.cores c).op.toList.flatMap (fun o =>
    [(1, 33), (b2n o.item.isSome, 32), (match o.item with | some i => i.code | none => o.node.code, 16), (o.task, 0)]))

/-- SCH_STATUS. -/
def State.schStatusView (s : State) : Word :=
  pack ([((s.sched.workers.toList.filter (fun w => w.cur.isSome)).length, 0)] ++
    (allFin 32).map (fun w => (b2n (vget s.sched.workers w).fenced, 32 + w.val)))

/-- SCH_MODE. -/
def Sched.modeView (x : Sched) : Word := pack [(x.cause.code, 4), (b2n (x.mgmt = .item), 2), (b2n (x.data = .item), 0)]

/-- SCH_TASK_FLAGS: those of the earliest node of the graph that has its input, for an endpoint flow; an internal task's flags that
have no meaning read 1. -/
def State.taskFlags (s : State) (task : Nat) : BitVec 16 :=
  if task < 16384 then
    match s.flows.find? (fun f => f.entry = task) with
    | some f => s.flowFlags f ((f.nodesLatest.reverse.find? (fun n => n ≠ .fetch && s.tdReady f n)).getD .fetch)
    | none => 0
  else match taskOwner task with
    | some f => s.orderFlags f ((orderNodes.reverse.find? (fun n => n ≠ .fetch && (s.orderFlags f n).getLsbD 1)).getD .fetch)
    | none => if task ≤ 16662 then s.internalFlags task else 0

/-- SCH_TASK_INFO. -/
def State.taskInfo (s : State) (task : Nat) : Word :=
  let ten := match s.taskTenant task with | some t => t.val | none => 0
  let lvl := match s.readyWork task with
    | some (l, _) => l
    | none => match s.flows.find? (fun f => f.entry = task), taskOwner task with
      | some f, _ => s.taskLevel f
      | none, some (.vf t) => (s.share t).base
      | _, _ => if 16640 ≤ task && task ≤ 16662 then internalLevel task else 0
  let listed := s.sched.ready.toList.any (fun l => l.contains task)
  match s.flows.find? (fun f => f.entry = task), taskOwner task with
  | some f, _ =>
    let ready := (f.nodesLatest.filter (s.flowReady f)).map (fun n => (1, 40 + n.code))
    let pend := (f.nodesLatest.reverse.find? (fun n => n ≠ .fetch && s.tdReady f n)).getD .fetch
    pack (ready ++ [(ten, 56), (lvl, 48), (Nat.min 8 f.tds.length, 36), (b2n listed, 35), (f.group, 24),
      ((s.missingFlags f pend).toNat, 0)])
  | none, some g =>
    let ready := (orderNodes.filter (s.orderReady g)).map (fun n => (1, 40 + n.code))
    let pend := (orderNodes.reverse.find? (fun n => n ≠ .fetch && (s.orderFlags g n).getLsbD 1)).getD .fetch
    pack (ready ++ [(ten, 56), (lvl, 48), (Nat.min 8 (s.rings g).orders.length, 36), (b2n listed, 35),
      ((flowMask false pend &&& ~~~(s.orderFlags g pend)).toNat, 0)])
  | none, none => pack [(lvl, 48), (b2n listed, 35),
      (match s.readyWork task with
        | some (_, .node n) => 2 ^ n.code | some (_, .work w) => 2 ^ w.node.code | some (_, .req _) => 16 | none => 0, 40),
      ((s.internalMask task &&& ~~~(s.internalFlags task)).toNat, 0)]

end Sys2Proof.Machine
end

