-- ==== Sys2Proof/Machine/PeatOps.lean ====
section
/-! DEFINITION. The Peat journal: parameters, geometry, writing records, checkpoints, compaction, states (14 R347 to R374). -/

namespace Sys2Proof.Machine

/-! ### Parameters and geometry -/

/-- The PEAT section in force: the image's from TABLE_BUILD on, before it what the superblock holds (R348). -/
def State.peatSec (s : State) : PeatSec :=
  match s.img.image with | some i => i.peat | none => s.peat.params

/-- Slots of a usable sector (Table 14.2). -/
def PeatSt.perSector (p : PeatSt) : Nat := if p.sectorLog2 = 16 then 247 else 14

def PeatSt.sector? (p : PeatSt) (i : Nat) : Option Sector := p.sectors.find? (fun x => x.idx = i)

/-- A superblock copy is valid. -/
def PeatSt.formatted (p : PeatSt) : Bool := p.copies.toList.any Option.isSome

/-- The superblock in force: copy 0 when it is valid, else copy 1 (R348). -/
def PeatFlash.super (f : PeatFlash) : Option Superblock := (vget f.copies 0).or (vget f.copies 1)

/-- The class of a slot under a fused epoch (Table 14.6); a slot after the last that is listed is FREE. -/
def Slot.cls (x : Slot) (fused : Nat) : SlotClass :=
  match x.commit, x.page with
  | .zeros, .holds r => if r.epoch ≤ fused then .committed r else .epochAhead
  | _, _ => .torn

/-- A slot whose record was committed and then failed its CRC or CMAC (Table 14.7). -/
def Slot.decayed (x : Slot) : Bool := x.commit = .zeros && (match x.page with | .holds _ => false | _ => true)

/-- Map a sector, listing it if it was erased. -/
def PeatSt.modSector (p : PeatSt) (i : Nat) (g : Sector → Sector) : PeatSt :=
  if (p.sector? i).isSome then { p with sectors := p.sectors.map (fun x => if x.idx = i then g x else x) }
  else { p with sectors := p.sectors ++ [g { idx := i, erases := p.freeErases }] }

/-- The sector holds nothing and may be opened. -/
def Sector.free (x : Sector) : Bool := x.seq.isNone && x.slots.isEmpty && !x.dirty && !x.retired

/-- The head: the sector with the highest SECTOR_SEQ. -/
def PeatSt.head (p : PeatSt) : Option Sector :=
  p.sectors.foldl (fun a x => match x.seq, a with
    | none, _ => a
    | some _, none => some x
    | some n, some y => if y.seq.getD 0 < n then some x else a) none

/-- The tail: the written sector with the lowest SECTOR_SEQ that compaction has not left behind. -/
def PeatSt.tail (p : PeatSt) : Option Sector :=
  (p.sectors.filter (fun x => !x.left)).foldl (fun a x => match x.seq, a with
    | none, _ => a
    | some _, none => some x
    | some n, some y => if n < y.seq.getD 0 then some x else a) none

def PeatSt.retiredCount (p : PeatSt) : Nat := (p.sectors.filter (fun x => x.retired)).length

/-- Usable sectors less retired ones that are erased. -/
def PeatSt.erasedCount (p : PeatSt) : Nat :=
  p.usable - (p.sectors.filter (fun x => x.retired || !x.free)).length

/-- Free space is below a percentage of the usable sectors less retired ones (R368). -/
def PeatSt.freeBelow (p : PeatSt) (pct : Nat) : Bool := p.erasedCount * 100 < pct * (p.usable - p.retiredCount)

/-- FREE_PCT. -/
def PeatSt.freePct (p : PeatSt) : Nat :=
  let n := p.usable - p.retiredCount
  if n = 0 then 0 else p.erasedCount * 100 / n

/-- The erase counts of all usable sectors together; an erased sector without a header counts what the mount took for it
(Table 14.7). -/
def PeatSt.eraseSum (p : PeatSt) : Nat := (p.sectors.map (fun x => x.erases)).sum + (p.usable - p.sectors.length) * p.freeErases

/-- Event records retained at most (R370). -/
def State.logKeep (s : State) : Nat :=
  Nat.min (s.peatSec.logKib * 16) ((s.peat.usable * s.peat.perSector - 31616) * 3)

/-! ### States (R369, R374) -/

/-- Change the Peat state: a change of STATE is logged when the log can take it, noticed to every ACTIVE tenant, and raises
PEAT_STATE on EP1 (16 R406). -/
def State.setPeat (s : State) (st : PeatState) (why : PeatReason) : State :=
  let old := s.peat.state
  let s : State := { s with peat := { s.peat with state := st, reason := why } }
  if old = st then s
  else
    let s : State := { s with svc := { s.svc with ep1 := s.svc.ep1 ||| 4 } }
    let s := if s.logOpen then
        s.logEvent 0x0C none none (BitVec.ofNat 256 (old.code + st.code * 256 + why.code * 65536)) else s
    (allFin 256).foldl (fun a t => if (a.tenant t).st = .active then a.tenantNotice t 16 else a) s

/-- The first condition of R369 that holds. -/
def State.degradedWhy (s : State) : Option PeatReason :=
  let p := s.peat
  if p.freeBelow s.peatSec.degradedPct then some .lowSpace
  else if 9 * s.peatSec.endurance * p.usable ≤ 10 * p.eraseSum && p.usable ≠ 0 then some .worn
  else if p.usable ≤ 100 * p.retiredCount && p.retiredCount ≠ 0 then some .retired
  else none

/-- MOUNTED or DEGRADED as R369 says; nothing in another state. -/
def State.updateDegraded (s : State) : State :=
  if s.peatUp then
    match s.degradedWhy with
    | some w => s.setPeat .degraded w
    | none => s.setPeat .mounted .none
  else s

/-! ### Counters (R357 to R359) -/

/-- The counter that an index 4 × tenant + counter names. -/
def State.counter (s : State) (i : Nat) : Counter :=
  vget (s.tenant ⟨i / 4 % 256, Nat.mod_lt _ (by decide)⟩).counters ⟨i % 4, Nat.mod_lt _ (by decide)⟩

def State.modCounter (s : State) (i : Nat) (g : Counter → Counter) : State :=
  s.modTenant ⟨i / 4 % 256, Nat.mod_lt _ (by decide)⟩ (fun x =>
    { x with counters := vmod x.counters ⟨i % 4, Nat.mod_lt _ (by decide)⟩ g })

/-- A count with the fused epoch. -/
def State.withEpoch (s : State) (n : Nat) : Nat := s.fuses.epoch * 2 ^ 56 + n % 2 ^ 56

/-! ### Queueing records -/

/-- Records can be written: Peat is up, or a format is under way. -/
def State.peatWrites (s : State) : Bool := s.peatUp || s.peat.formatting

/-- Queue a record. -/
def State.queueRec (s : State) (q : QRec) : State :=
  if s.peatWrites then { s with peat := { s.peat with queue := s.peat.queue ++ [q] } } else s

/-- Cut a list into pieces of n. -/
def chunks {α : Type} (n : Nat) : Nat → List α → List (List α)
  | 0, _ => []
  | _, [] => []
  | k + 1, l => l.take n :: chunks n k (l.drop n)

/-- The counters that have a LEASE entry, as entries. -/
def State.leaseEntries (s : State) : List (Nat × Nat × Nat) :=
  (List.range 1024).filterMap (fun i =>
    let c := s.counter i
    if c.size ≠ 0 then some (i, c.start, c.size) else none)

/-- The HIGH_WATER entries that supersede their counter's lease. -/
def State.waterEntries (s : State) : List (Nat × Nat) :=
  (List.range 1024).filterMap (fun i => (s.counter i).water.map (fun n => (i, n)))

/-- The retired sectors. -/
def PeatSt.retiredList (p : PeatSt) : List Nat := (p.sectors.filter (fun x => x.retired)).map (fun x => x.idx)

/-- The records of a checkpoint after its BEGIN (R367): what restates all live state, and END. -/
def State.checkpointRecs (s : State) : List QRec :=
  let p := s.peat
  let body := (chunks 12 1024 s.leaseEntries).map RecBody.lease ++
    (chunks 16 1024 s.waterEntries).map RecBody.highWater ++
    (chunks 2 2048 (p.pins.map (fun e => (e.2.1, e.2.2)))).map RecBody.pin ++
    (chunks 3 512 (p.quars.map (fun e => (e.2, false)))).map RecBody.quarantine ++
    [RecBody.lifetime {}] ++ (chunks 48 8192 p.retiredList).map RecBody.retire
  body.map (fun b => { body := b, ckpt := true }) ++ [{ body := .ckptEnd body.length, ckpt := true }]

/-- A checkpoint is in progress or queued. -/
def PeatSt.ckptBusy (p : PeatSt) : Bool := p.ckptOpen.isSome || p.queue.any (fun q => q.body = .ckptBegin)

/-- Begin a checkpoint unless one is under way. Its records are made when its BEGIN commits, so that they restate all that
was committed before. -/
def State.beginCheckpoint (s : State) : State :=
  if s.peat.ckptBusy then s else s.queueRec { body := .ckptBegin }

/-- A checkpoint begins when 12,844 slots were used since the last ended (R367), and compaction when free space is below
COMPACT_PCT (R368). -/
def State.peatUpkeep (s : State) : State :=
  let s := if s.peatUp && 12844 ≤ s.peat.sinceCkpt then s.beginCheckpoint else s
  if s.peatUp && s.peat.freeBelow s.peatSec.compactPct then
    { s with peat := { s.peat with compacting := true } }.wantItem peatTask .compactStep
  else { s with peat := { s.peat with compacting := false } }

/-! ### Programming a slot (R351, R352) -/

/-- The sector that takes the next slot, and whether its header is programmed for it: the head while it has room, else the free sector
with the lowest index after it, wrapping, opened in the fused epoch. -/
def PeatSt.openHead (p : PeatSt) (epoch : Nat) : Option (Nat × Bool × PeatSt) :=
  let full := match p.head with
    | some x => x.retired || p.perSector ≤ x.slots.length
    | none => true
  match full, p.head with
  | false, some x => some (x.idx, false, p)
  | _, h =>
    let base := match h with | some x => x.idx + 1 | none => 0
    let n := match h with | some x => x.seq.getD 0 + 1 | none => 1
    let pick := (List.range p.usable).findSome? (fun i =>
      let k := (base + i) % p.usable
      match p.sector? k with
      | some x => if x.free && p.erasing ≠ some k then some k else none
      | none => some k)
    pick.map (fun k => (k, true, p.modSector k (fun x => { x with seq := some n, epoch := epoch, ckpt := p.ckpt, slots := [] })))

/-- Program a slot of a sector. -/
def PeatSt.program (p : PeatSt) (i : Nat) (x : Slot) : PeatSt :=
  { (p.modSector i (fun y => { y with slots := y.slots ++ [x] })) with sinceCkpt := p.sinceCkpt + 1 }

/-- The number of the slot that a sector takes next. -/
def PeatSt.nextSlot (p : PeatSt) (i : Nat) : Nat := match p.sector? i with | some x => x.slots.length | none => 0

/-- A dirty sector is erased before it can be opened (R353): the next one, unless an erase runs. -/
def PeatSt.eraseDirty (p : PeatSt) : PeatSt :=
  if p.erasing.isSome then p
  else { p with erasing := (p.sectors.find? (fun x => x.dirty && !x.retired)).map (fun x => x.idx) }

/-! ### Pins and quarantines (R364) -/

def State.pinOf (s : State) (i : Identity) : Option (BitVec 256) :=
  (s.peat.pins.find? (fun e => e.2.1 = i)).map (fun e => e.2.2)

/-- The device identity is quarantined: enforced from Peat, none while ABSENT (Table 14.14). -/
def State.quarantined (s : State) (i : Identity) : Bool :=
  s.peat.state ≠ .absent && s.peat.quars.any (fun e => e.2 = i)

end Sys2Proof.Machine
end

