-- ==== Sys2Proof/Machine/Seal.lean ====
section
/-! DEFINITION. Tirael sealed pipes: capability, checks, handshake, key contexts, rekeying, failures and quarantine,
attestation (10 R262 to R290, R416). -/

namespace Sys2Proof.Machine

/-! ### Capability and policy (R262 to R264) -/

/-- An endpoint can be sealed: not the default pipe, and its bit is set in the mask of its direction. -/
def Dev.sealable (d : Dev) (e : EpDesc) : Bool :=
  match d.cap with
  | none => false
  | some l =>
    let n := e.addr.toNat % 16
    let m := if e.addr.getLsbD 7 then capByte l 24 + 256 * capByte l 25 else capByte l 26 + 256 * capByte l 27
    e.kind ≠ .control && n ≠ 0 && m / 2 ^ n % 2 = 1

def State.sealSec (s : State) : Option SealSec := s.img.image.bind (fun i => i.sealSec)

/-- TC_POLICY of a class: 0 optional, 1 required, 2 refused (03 Table 3.15). -/
def State.sealPolicy (s : State) (c : Nat) : Nat :=
  match s.sealSec with | some x => x.tcPolicy.toNat / 4 ^ c % 4 | none => 0

/-- The traffic class of a flow: TC_MAP[CLASS] of its tenant. -/
def State.classOf (s : State) (f : Flow) : Nat := (s.share f.t).tcMap.toNat / 8 ^ f.cls.val % 8

/-- The rekey deadline of an epoch that begins now (R276). -/
def State.rekeyAt (s : State) : Option Nat :=
  match s.sealSec with
  | some x => if x.rekeyS = 0 then none else some (s.time.now + x.rekeyS * 1000000000)
  | none => none

/-! ### Failures and quarantine (R281) -/

/-- A failure of an identity counts toward quarantine: a third within 600 s of the first of three queues the quarantine
record; the rest happens when it commits. -/
def State.noteFailure (s : State) (i : Identity) (t : TenantId) (h : Fin 1024) : State :=
  let old := ((s.seals.counts.find? (fun e => e.1 = i)).map (fun e => e.2)).getD []
  let l := old.filter (fun x => s.time.now ≤ x + 600000000000)
  let rest := s.seals.counts.filter (fun e => e.1 ≠ i)
  if 2 ≤ l.length then
    ({ s with seals := { s.seals with counts := rest, quarPend := s.seals.quarPend ++ [(i, t, h)] } }).queueRec
      { body := .quarantine [(i, false)] }
  else { s with seals := { s.seals with counts := rest ++ [(i, l ++ [s.time.now])] },
                sched := { s.sched with wheel := s.sched.wheel ++ [{ due := s.time.now + 600000000000, task := sealTask, why := .failures }] } }

/-- Failures whose 600 s are over no longer count: the SEAL task's quarantine timer (08 Table 8.1). -/
def State.dropFailures (s : State) : State :=
  { s with seals := { s.seals with counts := (s.seals.counts.map (fun e =>
      (e.1, e.2.filter (fun x => s.time.now ≤ x + 600000000000)))).filter (fun e => !e.2.isEmpty) } }

/-- Steps 2 to 4 of R281, once the quarantine record has committed. -/
def State.quarantine (s : State) (i : Identity) : State :=
  match s.seals.quarPend.find? (fun e => e.1 = i) with
  | none => s
  | some (_, t, h) =>
    let s := { s with seals := { s.seals with quarPend := s.seals.quarPend.filter (fun e => e.1 ≠ i) } }
    let s := s.tearDownAll (fun f => match s.dev? f.dev with | some d => d.identity = i | none => false) snQuarantined true true
    let s := s.notice (.vf t) (.seal h.val) snQuarantined
    let dev := s.devs.find? (fun d => d.identity = i)
    let s := match dev with | some d => s.notice .pf0 (.seal d.loc) snQuarantined | none => s
    s.logEvent 8 (some t) (dev.map (fun d => d.loc)) i.serial

/-! ### Ending a handshake -/

/-- The device of a handle. -/
def State.flowDev (s : State) (t : TenantId) (h : Fin 1024) : Option Dev :=
  match s.flow? t h with | some f => s.dev? f.dev | none => none

/-- SEAL_LAST_FAIL. -/
def State.lastFail (s : State) (t : TenantId) (h : Fin 1024) (detail : Nat) : State :=
  let loc := match s.flowDev t h with | some d => d.loc | none => 0
  { s with seals := { s.seals with lastFail := BitVec.ofNat 32 (detail * 2 ^ 24 + t.val * 2 ^ 16 + loc % 2048) } }

/-- The waiting SEAL_PIPE order of a handle. -/
def State.sealOrder (s : State) (t : TenantId) (h : Fin 1024) : Option Nat :=
  ((s.rings (.vf t)).orders.find? (fun o => o.code = 8 && o.handle = h &&
    (o.stage = .waiting || o.stage = .acting))).map (fun o => o.k)

/-- End the SEAL_PIPE of a handle. -/
def State.endSeal (s : State) (t : TenantId) (h : Fin 1024) (st : Status) (detail : Nat) : State :=
  match s.sealOrder t h with
  | some k => s.endOrder (.vf t) k st h.val 0 detail
  | none => s

/-- Details 2, 3 and 4 count toward quarantine (Table 10.5). -/
def sealCounts (detail : Nat) : Bool := 2 ≤ detail && detail ≤ 4

/-- A handshake is over without success: counted, with SEAL_LAST_FAIL. -/
def State.countFail (s : State) (t : TenantId) (h : Fin 1024) (detail : Nat) : State :=
  let s := (s.dropHs t h).lastFail t h detail
  { s with seals := { s.seals with hsFails := satAdd s.seals.hsFails 1 (2 ^ 32 - 1) } }

/-- A handshake fails (Table 10.5): SEAL_PIPE ends SEAL_FAILED, or the rekeyed pipe is torn down (R277). -/
def State.failSeal (s : State) (t : TenantId) (h : Fin 1024) (detail : Nat) : State :=
  let rekey := match s.hs? t h with | some x => x.rekey | none => false
  let who := (s.flowDev t h).map (fun d => d.identity)
  let s := s.countFail t h detail
  let s := if rekey then s.tearDown t h 0 true true else s.endSeal t h .sealFailed detail
  (match who with
  | some i => if sealCounts detail then s.noteFailure i t h else s
  | none => s).takePipes

/-! ### Tables of R266 to R268 -/

/-- The HELLO header and lengths hold (Table 10.4, R268). -/
def HelloMsg.ok (m : HelloMsg) (ep : Byte) : Bool :=
  let sum := (m.certs.map List.length).sum
  m.type = 1 && m.version = 1 && m.length = m.received && m.length = 108 + m.chainLength && m.epAddr = ep &&
  m.chainLength = sum && 1 ≤ m.chainLength && m.chainLength ≤ 3072 &&
  (m.unitLog2 = 0 || (9 ≤ m.unitLog2 && m.unitLog2 ≤ 14)) &&
  1 ≤ m.certs.length && m.certs.length ≤ 3 && m.certs.all (fun c => c.length ≤ 1024) &&
  m.ephP.length = 65 && validPoint m.ephP

/-- The bytes of the HELLO message. -/
def HelloMsg.bytes (m : HelloMsg) : List Byte :=
  [m.type, m.version] ++ natBytes 2 m.length ++ [m.epAddr, BitVec.ofNat 8 m.unitLog2] ++ natBytes 2 m.chainLength ++
  digestBytes m.nonceP ++ m.ephP ++ [0, 0, 0] ++ m.certs.flatten

/-- UNIT_LOG2 chosen: the smaller of bSealUnitMax and the proposal, 0 counting as 12. -/
def chooseUnit (max proposal : Nat) : Nat := Nat.min max (if proposal = 0 then 12 else proposal)

/-- The header of Table 10.4. -/
def hsHeader (type : Byte) (length : Nat) (ep : Byte) (unitLog2 aux : Nat) : List Byte :=
  [type, 1] ++ natBytes 2 length ++ [ep, BitVec.ofNat 8 unitLog2] ++ natBytes 2 aux

/-- KEY_SHARE without its last 64 bytes. -/
def keyShareHead (ep : Byte) (unitLog2 : Nat) (nonceC ephC : BitVec 256) : List Byte :=
  hsHeader 2 (172 + unitCertificate.length) ep unitLog2 unitCertificate.length ++ digestBytes nonceC ++ ephPublic ephC ++ [0, 0, 0] ++
  unitCertificate

/-- A received CONFIRM has its length and header. -/
def confirmOk (ep : Byte) (m : List Byte) : Bool := m.length = 72 && m.take 8 = hsHeader 3 72 ep 0 0

/-- The MAC of FINISH (R267). -/
def finishMac (prk th3 : List Byte) : List Byte := hmac (hkdfExpand prk (ascii "tirael1 finish") 32) th3

/-- FINISH. -/
def finishBytes (ep : Byte) (mac : List Byte) : List Byte := hsHeader 4 40 ep 0 0 ++ mac

/-! ### The handshake (Table 10.2) -/

/-- Step 1 of Table 10.2: the first check that fails, as a Table 10.5 detail. A rekey keeps its pipe's key context. -/
def State.sealStep1 (s : State) (t : TenantId) (rekey : Bool) : Option Nat :=
  let busy := (s.seals.hs.filter (fun x => x.t = t && !x.rekey)).length
  if s.fuses.revoked then some 7
  else if s.pins.tamper ≠ 0 then some 10
  else if !s.peatUp then some 8
  else if !rekey && (s.share t).epQuota ≤ s.use t + busy then some 9
  else none

/-- The checks of R264, in order: the completion of the first that fails. -/
def State.sealChecks (s : State) (t : TenantId) (h : Fin 1024) : Option Nat :=
  match s.flow? t h with
  | none => some 2
  | some f =>
    if f.st = .detached || f.st = .lost then some 6
    else if f.key.isSome then some 16
    else match s.dev? f.dev with
      | none => some 6
      | some d =>
        if !d.sealable f.ep then some 7
        else if s.sealPolicy (s.classOf f) = 2 || (match s.sealSec with | some x => x.anchors.isEmpty | none => true)
        then some 8
        else if s.quarantined d.identity then some 9
        else none

/-- A handshake begins; it waits for the default pipe of its device. -/
def State.beginHs (s : State) (x : Handshake) : State :=
  { s with seals := { s.seals with hs := s.seals.hs ++ [x] } }

/-- SEAL_PIPE (R264, R265): the checks; then, once none of the handle's TDs is in flight (R134), step 1 and the wait for the
default pipe. -/
def execSealPipe (t : TenantId) (k : Nat) (s : State) : Host.Outcome State Fault Refusal :=
  .next (s.withOrder (.vf t) k 8 (fun o =>
    let h := o.handle
    match s.sealChecks t h with
    | some d => s.endOrder (.vf t) k .notPermitted h.val 0 d
    | none =>
      if (match s.flow? t h with | some f => !f.tds.isEmpty | none => false) then s
      else match s.sealStep1 t false with
        | some d => s.failSeal t h d
        | none => ((s.beginHs { t := t, h := h, rekey := false }).waitOrder (.vf t) k).takePipes))

/-- A handshake request that did not succeed: STALL of KEY_SHARE or FINISH is detail 5, anything else 6. -/
def requestFail (stallDetail : Nat) : ReqEnd → Option Nat
  | .ok => none
  | .stall => some stallDetail
  | .failed => some 6

/-- SEAL_ARITH's operand number for a handle. -/
def arithArg (t : TenantId) (h : Fin 1024) : Nat := t.val * 1024 + h.val

/-- Queue the SEAL_ARITH item of a handshake, in the tenant's order flow or, for a rekey, in the SEAL task (R265, R277). -/
def State.wantArith (s : State) (x : Handshake) : State :=
  s.wantItem (if x.rekey then sealTask else orderTask (.vf x.t)) .sealArith (arithArg x.t x.h)

/-- Run a step of a handshake that waits in it. -/
def State.withHs (s : State) (t : TenantId) (h : Fin 1024) (step : HsStep) (act : Handshake → Flow → State) : State :=
  match s.hs? t h, s.flow? t h with
  | some x, some f => if x.step = step then act x f else s
  | _, _ => s

/-- HELLO (R266, R268): the request ends with the peripheral's message. -/
def execHello (t : TenantId) (h : Fin 1024) (r : ReqEnd) (m : HelloMsg) (s : State) : Host.Outcome State Fault Refusal :=
  .next (s.withHs t h .hello (fun x f => s.endReq f.dev (UsbReq.isTirael .hello) (r = .ok) (fun s _ =>
    match requestFail 6 r with
    | some d => s.failSeal t h d
    | none =>
      if m.ok f.ep.addr then
        let max := match (s.dev? f.dev).bind (fun d => d.cap) with | some l => capByte l 22 | none => 12
        (s.modHs t h (fun y => { y with hello := some m, unitLog2 := chooseUnit max m.unitLog2, step := .arith })).wantArith x
      else s.failSeal t h 1)))

/-- Step 4: chain, pin, ephemeral key and KEY_SHARE (R267, R268, R284). -/
def State.arithHello (s : State) (t : TenantId) (h : Fin 1024) : State :=
  s.withHs t h .arith (fun x f =>
    match x.hello, s.dev? f.dev with
    | some m, some d =>
      let anchors := match s.sealSec with | some y => y.anchors | none => []
      let leaf := Config.sha256 (m.certs.headD [])
      if !(chainValid m.certs anchors) then s.failSeal t h 2
      else
        let other := match s.pinOf d.identity with | some p => p ≠ leaf | none => false
        let repin := match s.sealSec with | some y => y.repin | none => false
        if other && !repin then (s.failSeal t h 3).notice (.vf t) (.seal h.val) snPinMismatch
        else
          let s := if other then
              (s.notice (.vf t) (.seal h.val) snPinMismatch).notice .pf0 (.seal d.loc) snPinMismatch else s
          let (nonce, s) := s.drawRandom
          let (eph, s) := s.drawRandom
          let head := keyShareHead f.ep.addr x.unitLog2 nonce eph
          let message := head ++ unitSign (Config.sha256 (m.bytes ++ head))
          (s.modHs t h (fun y => { y with nonceC := nonce, ephC := eph, keyShare := message, leaf := leaf,
                                          repin := other, step := .keyShare })).hsRequest x f .keyShare message
    | _, _ => s)

/-- KEY_SHARE (R266): the request ends. -/
def execKeyShare (t : TenantId) (h : Fin 1024) (r : ReqEnd) (s : State) : Host.Outcome State Fault Refusal :=
  .next (s.withHs t h .keyShare (fun x f => s.endReq f.dev (UsbReq.isTirael .keyShare) (r = .ok) (fun s _ =>
    match requestFail 5 r with
    | some d => s.failSeal t h d
    | none => (s.modHs t h (fun y => { y with step := .confirm })).hsRequest x f .confirm [])))

/-- CONFIRM (R266, R267): the request ends with the peripheral's message; one without its length or header ends with detail 1
(notes/assumptions/114.md). -/
def execConfirm (t : TenantId) (h : Fin 1024) (r : ReqEnd) (message : List Byte) (s : State) :
    Host.Outcome State Fault Refusal :=
  .next (s.withHs t h .confirm (fun x f => s.endReq f.dev (UsbReq.isTirael .confirm) (r = .ok) (fun s _ =>
    match requestFail 6 r with
    | some d => s.failSeal t h d
    | none =>
      if confirmOk f.ep.addr message then
        (s.modHs t h (fun y => { y with confirm := message, step := .verify })).wantArith x
      else s.failSeal t h 1)))

/-- Step 6: verify SIG_P, derive Z, PRK and the MAC; the ephemeral secret key is zeroised (R267). -/
def State.arithVerify (s : State) (t : TenantId) (h : Fin 1024) : State :=
  s.withHs t h .verify (fun x f =>
    match x.hello with
    | none => s
    | some m =>
      let th2 := Config.sha256 (m.bytes ++ x.keyShare)
      if !(ecdsaVerify (certKey (m.certs.headD [])) th2 (x.confirm.drop 8)) then s.failSeal t h 4
      else
        let th3 := sha (m.bytes ++ x.keyShare ++ x.confirm)
        let prk := hkdfExtract th3 (ecdh x.ephC m.ephP)
        (s.modHs t h (fun y => { y with prk := digestOf prk, ephC := 0, step := .finish })).hsRequest x f .finish
          (finishBytes f.ep.addr (finishMac prk th3)))

/-- The SEAL_ARITH work of a handshake. -/
def State.arithHandshake (s : State) (t : TenantId) (h : Fin 1024) : State :=
  match s.hs? t h with
  | some x => if x.step = .arith then s.arithHello t h else s.arithVerify t h
  | none => s

/-- A rekey deadline stands on the delay wheel (Table 8.1). -/
def State.wheelRekey (s : State) (t : TenantId) (h : Fin 1024) : State :=
  match s.rekeyAt with
  | some n => s.setDelay sealTask n (.rekey t h)
  | none => s

/-- Step 8: install the key context; SEAL_PIPE completes, or the rekeyed pipe raises REKEYED (R271, R277). -/
def State.installKey (s : State) (x : Handshake) : State :=
  let bank := (s.share x.t).bank
  let s := s.dropHs x.t x.h
  let e := match (s.flow? x.t x.h).bind (fun f => f.key) with
    | some k => some k.entry
    | none => s.freeEntry bank
  match e with
  | none => s.endSeal x.t x.h .sealFailed 9
  | some n =>
    let s := s.modFlow x.t x.h (fun f => { f with key := some {
      entry := n, epoch := 0, seq := 0, deadline := s.rekeyAt, unitLog2 := x.unitLog2, prk := x.prk,
      wrapped := keyWrap (digestBytes s.seals.wrapKey) (digestBytes x.prk) } })
    let s := s.wheelRekey x.t x.h
    (if x.rekey then s.notice (.vf x.t) (.seal x.h.val) snRekeyed else s.endSeal x.t x.h .success 0).takePipes

/-- FINISH (R269): the request ends; a first or replaced pin is written before the key context is installed. Without Peat no pin can be
written, and the handshake fails with detail 8. -/
def execFinish (t : TenantId) (h : Fin 1024) (r : ReqEnd) (s : State) : Host.Outcome State Fault Refusal :=
  .next (s.withHs t h .finish (fun x f => s.endReq f.dev (UsbReq.isTirael .finish) (r = .ok) (fun s _ =>
    match requestFail 5 r with
    | some d => s.failSeal t h d
    | none =>
      match s.dev? f.dev with
      | none => s
      | some d =>
        if (s.pinOf d.identity).isNone || x.repin then
          (if s.peatUp then
            (s.modHs t h (fun y => { y with step := .commit })).queueRec { body := .pin [(d.identity, x.leaf)] }
          else s.failSeal t h 8)
        else s.installKey x)))

/-- A pin has committed: the handshakes that waited for it end, and a replaced pin is logged (R284). -/
def State.pinCommitted (s : State) (i : Identity) (old : Option (BitVec 256)) (leaf : BitVec 256) : State :=
  let mine := s.seals.hs.filter (fun x => x.step = .commit &&
    (match s.flowDev x.t x.h with | some d => d.identity = i | none => false))
  let s := match old, mine with
    | some p, x :: _ =>
      if p = leaf then s
      else
        let loc := (s.flowDev x.t x.h).map (fun d => d.loc)
        (s.logEvent 6 (some x.t) loc p).logEvent 7 (some x.t) loc leaf
    | _, _ => s
  mine.foldl State.installKey s

/-! ### Key epochs (R274, R276, R277) -/

/-- Begin a rekey handshake unless the handle has one, with the checks of step 1 (R277). -/
def State.startRekey (s : State) (t : TenantId) (h : Fin 1024) : State :=
  if (s.hs? t h).isSome then s
  else
    let s := s.beginHs { t := t, h := h, rekey := true }
    match s.sealStep1 t true with
    | some d => s.failSeal t h d
    | none => s.takePipes

/-- The epoch of a pipe advances: sequence 0, a new deadline, SEAL_NOTICE with REKEYED. -/
def State.nextEpoch (s : State) (t : TenantId) (h : Fin 1024) : State :=
  ((s.modFlow t h (fun f => { f with key := f.key.map (fun k =>
    { k with epoch := k.epoch + 1, seq := 0, deadline := s.rekeyAt, rekeyDue := false }) })).wheelRekey t h).notice
    (.vf t) (.seal h.val) snRekeyed

/-- REKEY (R276): the request to a peripheral whose direction the controller receives ends; its next unit begins the new
epoch, which UNSEAL takes up. -/
def execRekey (t : TenantId) (h : Fin 1024) (r : ReqEnd) (s : State) : Host.Outcome State Fault Refusal :=
  .next (match s.flow? t h with
    | some f => s.endReq f.dev (fun q => q.isTirael .rekey && q.handshakes f.ep.addr) (r = .ok) (fun s _ =>
        s.modFlow t h (fun f => { f with key := f.key.map (fun k => { k with rekeyDue := false }) }))
    | none => s)

/-- TEARDOWN (R280): the request ends; its outcome is ignored. -/
def execTeardown (d : DevId) (r : ReqEnd) (s : State) : Host.Outcome State Fault Refusal :=
  .next (s.endReq d (UsbReq.isTirael .teardown) (r = .ok) (fun s _ => s))

/-- UNSEAL_PIPE (R280, R419): once none of the handle's TDs is in flight. -/
def execUnsealPipe (t : TenantId) (k : Nat) (s : State) : Host.Outcome State Fault Refusal :=
  .next (s.withOrder (.vf t) k 9 (fun o =>
    let h := o.handle
    let no := fun d => s.endOrder (.vf t) k .notPermitted h.val 0 d
    match s.flow? t h with
    | none => no 2
    | some f =>
      if f.st = .detached || f.st = .lost then no 6
      else if f.key.isNone then no 10
      else if s.sealPolicy (s.classOf f) = 1 then no 8
      else if !f.tds.isEmpty then s
      else (s.tearDown t h 0 true false).endOrder (.vf t) k .success h.val 0 0))

/-- SEAL_CLEAR_QUARANTINE (R282): the order waits for the records that cancel the quarantines. -/
def execSealClearQuarantine (k : Nat) (s : State) : Host.Outcome State Fault Refusal :=
  .next (s.withOrder .pf0 k 0x4A (fun o =>
    let loc := field (o.p 0) 0 11
    let all := (o.p 0).getLsbD 16
    if all && loc ≠ 0 then s.endOrder .pf0 k .badDescriptor 0 0 0
    else if !s.peatUp then s.endOrder .pf0 k .peatUnavailable 0 0 0
    else
      let ids := s.peat.quars.map (fun e => e.2)
      let ids := if all then ids else match s.devAt loc with
        | some d => ids.filter (fun i => i = d.identity)
        | none => []
      if ids.isEmpty then s.endOrder .pf0 k .notPermitted 0 0 1
      else
        let s := (chunks 3 512 (ids.map (fun i => (i, true)))).foldl (fun a l => a.queueRec { body := .quarantine l }) s
        let s := { s with seals := { s.seals with counts := s.seals.counts.filter (fun e => !(ids.contains e.1)) } }
        s.modOrder .pf0 k (fun o => { o with stage := .waiting, ev := { o.ev with detail := BitVec.ofNat 32 ids.length } })))

/-- The cancelling records have committed: the orders that waited for them complete. -/
def State.clearsCommitted (s : State) : State :=
  if s.peat.queue.any (fun q => match q.body with | .quarantine l => !q.ckpt && l.any (fun e => e.2) | _ => false) then s
  else s.endWhere .pf0 (fun o => o.code = 0x4A) (fun o => o.doneEv .success 0 0 o.ev.detail.toNat)

/-! ### Sealed transfers -/

/-- A unit is rejected (R274, R278): counted, with SEAL_LAST_FAIL. -/
def State.rejectUnit (s : State) (t : TenantId) (h : Fin 1024) : State :=
  { (s.lastFail t h 0xFF) with seals := { (s.lastFail t h 0xFF).seals with
      unitFails := satAdd s.seals.unitFails 1 (2 ^ 32 - 1) } }

/-- A counted failure of a pipe tears it down (R279). -/
def State.failPipe (s : State) (t : TenantId) (h : Fin 1024) : State :=
  let who := (s.flowDev t h).map (fun d => d.identity)
  let s := s.tearDown t h 0 true true
  match who with
  | some i => s.noteFailure i t h
  | none => s

/-- End the transfers of a flow that a predicate picks, before their bus work is done. -/
def Flow.endEarly (f : Flow) (p : Xfer → Bool) (st : Status) (detail : Nat) : Flow :=
  { f with xs := f.xs.map (fun x => if x.status.isNone && p x then { x with status := some (st, detail), busEnd := true, used := x.wire } else x) }

/-! ### Zeroisation (R288, R290) -/

/-- The handles whose SEAL_PIPE passed the checks of R264 or would, and still waits for its TDs (R134). -/
def State.waitingSeals (s : State) : List (TenantId × Fin 1024) :=
  (allFin 256).flatMap (fun t => ((s.rings (.vf t)).orders.filter (fun o =>
    o.code = 8 && o.stage = .acting && (s.sealChecks t o.handle).isNone)).map (fun o => (t, o.handle)))

/-- Every session key is zeroised: transfers in flight on sealed pipes end SEAL_FAILED, handshakes and SEAL_PIPEs fail with detail 10,
pipes are torn down with ZEROISED and no TEARDOWN, those being rekeyed too, and the wrapping key is gone. -/
def State.zeroise (s : State) : State :=
  let cut := fun (f : Flow) => if f.key.isSome then
      (f.endEarly (fun x => x.unit ≠ 0) .sealFailed 0) else f
  let s : State := { s with flows := s.flows.map cut }
  let waits := s.waitingSeals
  let s := s.seals.hs.foldl (fun (a : State) x => if x.rekey then a.countFail x.t x.h 10 else a.failSeal x.t x.h 10) s
  let s := waits.foldl (fun (a : State) x => a.failSeal x.1 x.2 10) s
  let s := s.tearDownAll (fun _ => true) snZeroised false true
  { s with seals := { s.seals with wrapKey := 0, zeroised := true } }

/-! ### Attestation (R287) -/

/-- A share record's 48 bytes (03 Table 3.10). -/
def ShareRec.bytes (r : ShareRec) : List Byte := (List.range 6).flatMap (fun k => wordBytes (r.word k))

/-- A statement of Table 10.6 without its signature: last byte of MAGIC, TENANT, NONCE, SHARE_HASH and SEAL_STATE differ between a
tenant's and the service port's (16 R400). -/
def State.statementOf (s : State) (magic tenant : Byte) (nonce share : List Byte) (sealed : Nat) : List Byte :=
  [0x50, 0x58, 0x41, magic, 1, 1, tenant, BitVec.ofNat 8 s.fuses.epoch] ++ nonce ++
  digestBytes (Config.sha256 (match s.img.image with | some i => i.header | none => [])) ++ share ++
  (wordBytes serialNumber).reverse ++ natBytes 8 s.time.now ++ natBytes 4 s.peat.life.tampers ++ natBytes 2 sealed ++
  [BitVec.ofNat 8 s.peat.state.code, BitVec.ofNat 8 (b2n (s.img.active = 2))]

/-- A tenant's statement. -/
def State.statement (s : State) (t : TenantId) (nonce : List Byte) : List Byte :=
  let mine := s.devs.any (fun d => d.tenant = some t && s.quarantined d.identity)
  s.statementOf 0x54 (BitVec.ofNat 8 t.val) nonce (digestBytes (Config.sha256 (s.share t).bytes))
    (s.keyCtxs t % 2048 + 32768 * b2n mine)

/-- Eight bytes a word, little-endian. -/
def wordsOf : Nat → List Byte → List Word
  | 0, _ => []
  | _, [] => []
  | k + 1, l => BitVec.ofNat 64 (leNat (l.take 8)) :: wordsOf k (l.drop 8)

/-- SEAL_ARITH's operand number for an ATTEST order. -/
def attestArg (t : TenantId) (k : Nat) : Nat := 262144 + t.val * 4096 + k

/-- ATTEST (R287, R419): checked, then signed by a SEAL_ARITH item. -/
def execAttest (t : TenantId) (k : Nat) (s : State) : Host.Outcome State Fault Refusal :=
  .next (s.withOrder (.vf t) k 0x0B (fun o =>
    if field (o.p 0) 0 3 ≠ 0 then s.endOrder (.vf t) k .badDescriptor 0 0 0
    else if s.fuses.revoked then s.endOrder (.vf t) k .notPermitted 0 0 12
    else (s.waitOrder (.vf t) k).wantItem (orderTask (.vf t)) .sealArith (attestArg t k)))

/-- The SEAL_ARITH work of an ATTEST: the signed statement is written, or cannot be sent (R417). -/
def State.arithAttest (s : State) (t : TenantId) (k : Nat) : State :=
  match s.order? (.vf t) k with
  | some o =>
    if o.code ≠ 0x0B || o.stage ≠ .waiting then s
    else if !s.canSend (.vf t) then s.endOrder (.vf t) k .dmaFault 0 0 0
    else
      let body := s.statement t ([1, 2, 3, 4].flatMap (fun i => wordBytes (o.p i)))
      let sig := unitSign (Config.sha256 body)
      (s.postData (.vf t) (o.p 0) (wordsOf 24 (body ++ sig))).endOrder (.vf t) k .success 0 192 0
  | none => s

end Sys2Proof.Machine
end

