-- ==== Sys2Proof/Machine/Views.lean ====
section
/-! DEFINITION. The registers of virtual ports and devices, and events as written to host memory (05 R126, R127, R136; 06
R158, R171, R173). -/

namespace Sys2Proof.Machine

/-- T_VP_STATUS of a granted device. -/
def State.vpStatusOf (s : State) (d : Dev) : Word :=
  pack [(d.config.toNat, 16), (d.speed.code, 8), (b2n d.tirael, 7), (b2n (s.fedOc d.id), 6),
        (b2n (d.resume ≠ .none), 5), (b2n (d.reset ≠ .none), 4), (b2n d.suspended, 3),
        (b2n d.enabled, 2), (1, 1), (1, 0)]

/-- T_VP_STATUS[vp]. -/
def State.vpStatusView (s : State) (t : TenantId) (vp : Nat) : Word :=
  match s.vpDev t vp with | some d => s.vpStatusOf d | none => 0

/-- The device descriptor that registers show: while a reset re-reads it, the one before. -/
def Dev.shown (d : Dev) : Option DevDesc :=
  match d.desc, d.old with
  | some x, _ => some x
  | none, some o => some o.1
  | none, none => none

/-- T_VP_ID[vp]. -/
def State.vpIdView (s : State) (t : TenantId) (vp : Nat) : Word :=
  match (s.vpDev t vp).bind Dev.shown with
  | some x => pack [(x.cls.toNat, 48), (x.bcd.toNat, 32), (x.pid.toNat, 16), (x.vid.toNat, 0)]
  | none => 0

/-- T_VP_CHANGE[vp]. -/
def State.vpChangeView (s : State) (t : TenantId) (vp : Nat) : Word :=
  if (s.vpDev t vp).isSome then (vget (s.tenant t).vpChange (vpIdx vp)).setWidth 64 else 0

/-- PRT_DEV_INFO of a locator. -/
def State.devInfoView (s : State) (loc : Nat) : Word :=
  match s.devAt loc with
  | some d =>
    let x := d.shown
    pack [(match x with | some y => y.pid.toNat | none => 0, 48), (match x with | some y => y.vid.toNat | none => 0, 32),
          (match d.tenant with | some t => t.val | none => 0, 24), (d.vp, 16), (d.speed.code, 12), (match x with | some y => b2n (y.cls = 9) | none => 0, 11),
          (d.st.code, 8), (match x with | some y => y.cls.toNat | none => 0, 0)]
  | none => 0

/-- TEN_STATE[t] (11). -/
def State.tenStateView (s : State) (t : TenantId) : Word :=
  let x := s.tenant t
  pack [(x.lastEnable.toNat, 56), (x.flrs, 32), (b2n x.swap.isSome, 11), (b2n (s.entry? t).isSome, 10),
        (match s.entry? t with | some e => b2n e.auto | none => 0, 9), (b2n x.vf, 8), (x.st.code, 0)]

/-- W1 of an event at writing: PORT_CHANGE carries the status of its VP or device, a manager's TENANT_NOTICE the tenant's
state (06 Table 6.5, 11 R306). -/
def State.eventW1 (s : State) (f : Fn) (e : Ev) : Word :=
  match f with
  | .pf0 => if e.type = 3 then s.devInfoView e.target.toNat
    else if e.type = 4 then s.tenStateView ⟨e.target.toNat % 256, Nat.mod_lt _ (by decide)⟩ else e.w1
  | .vf t => if e.type = 3 then s.vpStatusView t e.target.toNat else e.w1

/-- The four words of an event (05 Table 5.4); under LATE its TIMESTAMP is the time of writing (R127). -/
def State.eventWords (s : State) (f : Fn) (n : NotifyOp) (time : Nat) : List Word :=
  let e := n.ev
  [pack [(e.target.toNat, 32), (e.flags.toNat, 18), (b2n e.late, 17), (b2n n.cycle, 16),
         (match e.status with | some x => x.code | none => 0, 8), (e.type.toNat, 0)],
   s.eventW1 f e, e.detail ++ e.bytes, BitVec.ofNat 64 (if e.late then s.time.now else e.ts.getD time)]

end Sys2Proof.Machine
end

