-- ==== Sys2Proof/Machine/Run.lean ====
section
/-! DEFINITION. Reports of operations, and the nodes that move data: FETCH, MOVE, SEAL, UNSEAL (04 R78, R417; 05 R112, R115;
07 R189, R190, R202; 08 R215 to R219; 10 R272 to R279). -/

namespace Sys2Proof.Machine

/-! ### Reports -/

/-- The operation that a unit works on. -/
def State.opAt (s : State) : UnitId → Option Op
  | .worker w => (vget s.sched.workers w).cur
  | .core c => (vget s.sched.cores c).op

/-- A flag of an operation's mask has cleared since it was placed (08 R217); asked while it is in no slot and has taken nothing. -/
def State.cleared (s : State) (o : Op) : Bool :=
  match o.kind with
  | .request => (match o.usb.bind (fun u => s.reqOf u.1 (fun r => r = u.2)) with | some q => !s.reqReady q | none => true)
  | .graph => match s.flows.find? (fun f => f.entry = o.task), taskOwner o.task with
    | some f, _ => s.flowFlags f o.node &&& flowMask f.periodic o.node ≠ flowMask f.periodic o.node
    | none, some g => s.orderFlags g o.node &&& flowMask false o.node ≠ flowMask false o.node
    | none, none => false
  | _ => false

/-- The operation of a next slot becomes the current one and starts; one of whose flags has cleared has not started, and what it had taken
is pending again. -/
def State.promote (s : State) (w : WorkerId) (o : Op) : State :=
  let free := s.markOp o false
  if free.cleared o then free.modWorker w (fun x => { x with cur := some { o with start := s.time.now, stale := true } })
  else s.modWorker w (fun x => { x with cur := some { o with start := s.time.now } })

/-- A report empties the current slot; the next slot's operation takes its place (01 R9). -/
def State.endSlot (s : State) : UnitId → State
  | .worker w =>
    let t := s.modWorker w (fun x => { x with cur := none, next := none })
    (match (vget s.sched.workers w).next with | some o => t.promote w o | none => t)
  | .core c => s.modCore c (fun x => { x with op := none })

/-- The TIMEOUT of a flow's head transfer starts once its first TD has passed CHECK (R202). The head is the first transfer that has not
retired, though the transactions of an earlier one may have ended before that (DESIGN CHOICE, notes/assumptions/113.md). -/
def Flow.startTimeout (f : Flow) (now : Nat) : Flow :=
  match f.xs with
  | x :: _ =>
    if x.expires.isNone && x.status.isNone then
      match (f.tdsOf x).head? with
      | some d =>
        if d.stage ≠ .fetched && d.timeoutUs ≠ 0 && x.left = 0
        then f.modX x.id (fun x => { x with expires := some (now + 1000 * d.timeoutUs) }) else f
      | none => f
    else f
  | [] => f

/-- End a transfer before its bus work is done, unless it has ended already. -/
def Flow.endX (f : Flow) (id : Nat) (st : Status) (detail : Nat) : Flow :=
  f.modX id (fun x => if x.status.isNone then { x with status := some (st, detail), busEnd := true } else x)

/-- The interval that an ISO TD targets: the first that starts at or after its SERVICE_TIME, or, for as soon as possible, the
first after the previous TD's for which it is eligible (R189). -/
def State.targetOf (s : State) (f : Flow) (r : Resv) (d : Td) (ready : Nat) : Nat :=
  let frameAt := fun (t : Nat) => (((t : Int) + s.frames.phase + 124999) / 125000 - s.frames.k).toNat
  if d.service = 2 ^ 64 - 1 then
    r.nextDue (Nat.max (frameAt (ready + 10000)) (match f.lastInterval with | some n => n + 1 | none => 0))
  else r.nextDue (frameAt d.service)

/-- The interval m can still be served: its start lies at least 10 us after the TD became eligible and it is later than the
previous TD's (R190). -/
def State.canServe (s : State) (f : Flow) (m ready : Nat) : Bool :=
  ready + 10000 ≤ s.frameStart m && s.frames.f < m && (match f.lastInterval with | some n => decide (n < m) | none => true)

/-- Settle the interval of one ISO TD that has become ready for service; one that cannot be served ends MISSED_SERVICE. -/
def State.settleTd (s : State) (f : Flow) (d : Td) : Flow :=
  match d.readyAt, f.resv with
  | some ready, some r =>
    let ended := match f.xfer? d.x with | some x => x.status.isSome | none => true
    if d.interval.isSome || ended || d.stage ≠ .checked then f
    else
      let m := s.targetOf f r d ready
      let last := match f.lastInterval with | some n => Nat.max n m | none => m
      let g := { f.modTd d.slot (fun d => { d with interval := some m, ts := some (s.frameStart m) }) with
                 lastInterval := some last }
      if s.canServe f m ready then g else g.endX d.x .missedService 0
  | _, _ => f

/-- A sealed transfer whose pipe has been torn down ends: SEAL_FAILED once it was on the bus, else as its SEAL would (R122). -/
def Flow.unsealed (f : Flow) : Flow :=
  if f.key.isSome then f
  else { f with xs := f.xs.map (fun x =>
    if x.unit ≠ 0 && x.status.isNone then
      { x with status := some (if x.issued then (.sealFailed, 0) else (.notPermitted, 15)), busEnd := true, used := x.wire }
    else x) }

/-- Bring a flow in line after a change of it; an abrupt end that waited for its transaction comes first. -/
def State.settleFlow (s : State) (t : TenantId) (h : Fin 1024) : State :=
  let s := s.modFlow t h (fun f => if s.inTransaction f.entry then f else f.finishEnd)
  let s := s.modFlow t h (fun f => (f.startTimeout s.time.now).unsealed)
  let s := match s.flow? t h with
    | some f => if f.iso then s.modFlow t h (fun f => f.tds.foldl (fun (g : Flow) d => s.settleTd g d) f) else s
    | none => s
  match s.flow? t h with
  | some f => (if s.faultDue f then s.modFlow t h Flow.endFault else s).syncSide f.dev.port f.dev.ss
  | none => s

/-- The report of a tenant that is fenced or gone is discarded (Table 8.8). -/
def State.discards (s : State) (task : Nat) : Bool :=
  match s.flows.find? (fun f => f.entry = task), taskOwner task with
  | some f, _ => s.dropped (.vf f.t)
  | none, some g => s.dropped g
  | none, none => task < 16384

/-- The islands that an operation takes up, from its unit on, and SCHED for its report (01 Table 1.4). -/
def State.opWay (s : State) (u : UnitId) (o : Op) : List Island :=
  u.island :: (match o.node with
    | .fetch | .move | .notify => [.lode, .func, .hostlink]
    | .check => if o.task < 16384 then [.lode] else []
    | .seal | .unseal => [.lode, .seal]
    | .issue => (match o.usb, s.flows.find? (fun f => f.entry = o.task) with
        | some (d, _), _ => [if d.ss then .ssport else .hsport, .lode]
        | none, some f => [if f.dev.ss then .ssport else .hsport, .lode]
        | none, none => [.hsport])
    | .retire => []) ++ [.sched]

/-- The operation in the unit's slot ends as a node of its kind: its slot empties and its effect takes place, once every island that it
takes up runs; one that had not started changes nothing (08 R217). -/
def State.report (s : State) (u : UnitId) (n : Node) (act : State → Op → State) (k : OpKind := .graph) : State :=
  match s.opAt u with
  | some o =>
    if o.node = n && o.item.isNone && o.kind = k then
      s.passOp u u.island (s.opWay u o) (
        let t := s.endSlot u
        if t.discards o.task || o.stale then t else act t o)
    else s
  | none => s

/-- The unit whose current slot holds the node that waited on a delay. -/
def State.delayUnit (s : State) (w : DelayFor) : Option UnitId :=
  ((allFin 32).find? (fun i => match (vget s.sched.workers i).cur with | some o => o.why = some w | none => false)).map UnitId.worker

/-- The node that waited on a delay runs and reports (08 R226); what it raises is LATE when the delay fell due in LP3 (13 R341). -/
def State.onDelay (s : State) (w : DelayFor) (act : State → State) : State :=
  match s.delayUnit w with
  | some u => s.report u .check (fun s o =>
      let t := act { s with sched := { s.sched with late := o.late } }
      { t with sched := { t.sched with late := false } }) .delay
  | none => s

/-- The effect of a node of an endpoint flow, and what it settles. -/
def State.onFlow (s : State) (o : Op) (act : State → Flow → State) : State :=
  match s.flows.find? (fun f => f.entry = o.task) with
  | some f => ((act (s.syncSide f.dev.port f.dev.ss) f).settleFlow f.t f.h).takePipes
  | none => s

/-! ### DMA reads (R78) -/

/-- Log an uncorrectable error bit in AER and Device Status. -/
def State.aer (s : State) (f : Fn) (b : BitVec 32) : State :=
  s.modFn f (fun p =>
    let fatal := p.dword 0x10C &&& b ≠ 0
    (p.setDword 0x104 (p.dword 0x104 ||| b)).setDword 0x58 (p.dword 0x58 ||| (if fatal then 0x40000 else 0x20000)))

/-- Log a Completion Timeout. -/
def State.timeoutError (s : State) (f : Fn) : State := s.aer f 0x4000

/-- A read fails because no completion comes in time: not while Completion Timeout Disable is set in PF0 (04 Table 4.3). -/
def State.timeoutOff (s : State) : Bool := s.pf.bit 0x78 4

/-- A read that the host answered with Unsupported Request, Completer Abort or poisoned data, or not in time: which of them is free. A
read with a row of its own for the Completion Timeout is answered. -/
def State.readError (s : State) (f : Fn) (answered : Bool := false) : State :=
  let (a, s) := s.drawBool
  let (b, s) := s.drawBool
  let (c, s) := s.drawBool
  if c && !answered && !s.timeoutOff then s.timeoutError f
  else if a then s.aer f 0x1000
  else s.modFn f (fun p => p.setDword 0x04 (p.dword 0x04 ||| (if b then 0x20000000 else 0x10000000)))

/-! ### FETCH (R112, R115) -/

/-- One announced slot is taken from the submission order. -/
def Flow.takeAnnounced (f : Flow) : Flow :=
  match f.announced with
  | (q, n) :: l => { f with announced := if n ≤ 1 then l else (q, n - 1) :: l }
  | [] => f

/-- A valid LINK (Table 5.2): no flag, length or later word; the next segment aligned. The ninth in a row is invalid. -/
def Flow.linkOk (f : Flow) (w : List Word) : Bool :=
  w.getD 0 0 = 7 && (w.drop 3).all (fun x => x = 0) && (w.getD 1 0).extractLsb' 0 6 = 0 && f.links < 8

/-- Take one slot as FETCH read it; true after a LINK, which the next FETCH follows. -/
def Flow.takeSlot (f : Flow) (w : List Word) : Flow × Bool :=
  let seq := match f.announced with | a :: _ => a.1 | [] => 0
  let g := { f.takeAnnounced with consumed := f.consumed + 1, slots := f.slots + 1 }
  if f.linkOk w then ({ g with links := f.links + 1, deq := w.getD 1 0 }, true)
  else
    let open_ := match f.xs.getLast? with | some x => if x.closed then none else some x | none => none
    let d : Td := { words := w, addr := f.deq, slot := f.slots, seq := seq,
                    x := match open_ with | some x => x.id | none => f.nextX }
    let sealable := d.type = 1 || d.type = 5
    let new : Xfer := { id := f.nextX, seq := seq,
                        unit := match f.key with
                          | some k => if !sealable then 0 else if f.iso then 2 ^ 24 else 2 ^ k.unitLog2
                          | none => 0 }
    let g := if open_.isSome then g else { g with xs := g.xs ++ [new], nextX := f.nextX + 1 }
    (({ g with links := 0, deq := f.deq + 64, tds := g.tds ++ [d] }.modX d.x
      (fun x => { x with cookie := d.cookie, closed := d.isEnd })), false)

/-- Take the slots that a read returned, up to a LINK. -/
def Flow.takeSlots (f : Flow) : List (List Word) → Flow
  | [] => f
  | w :: l => match f.takeSlot w with
    | (g, true) => g
    | (g, false) => g.takeSlots l

/-- A FETCH read of TDs ended DMA_FAULT: its slots stay unread; an open transfer ends with it. -/
def Flow.failFetch (f : Flow) : Flow :=
  let g := { f with fetchFault := true }
  match f.xs.getLast? with
  | some x => if x.closed then g else g.endX x.id .dmaFault 0
  | none => g

/-- Take the entries that a read of the order ring returned. -/
def State.takeOrders (s : State) (f : Fn) (l : List (List Word)) : State :=
  s.modRings f (fun r => { r with
    orders := r.orders ++ l.zipIdx.map (fun (p : List Word × Nat) => ({ k := (r.cons + p.2) % r.orderSize, words := p.1 } : Order)),
    cons := (r.cons + l.length) % r.orderSize })

/-- A failed read of order entries (R130): each entry that it covered ends DMA_FAULT. -/
def State.failOrders (s : State) (f : Fn) (n : Nat) : State :=
  s.modRings f (fun r => { r with
    orders := r.orders ++ (List.range n).map (fun i =>
      let k := (r.cons + i) % r.orderSize
      let o : Order := { k := k, words := List.replicate 8 0 }
      { o with stage := .ended, ev := o.doneEv .dmaFault 0 0 k }),
    cons := (r.cons + n) % r.orderSize })

/-- FETCH runs for this owner: manager software, or an ACTIVE tenant (11 Table 11.1). -/
def State.fetches (s : State) : Fn → Bool
  | .pf0 => true
  | .vf t => (s.tenant t).st = .active

/-- The effect of a FETCH; `log` records a read that the host refused. -/
def State.fetched (s : State) (o : Op) (r : Option (List (List Word))) (log : State → Fn → State) : State :=
  match taskOwner o.task with
  | some f =>
    if !(s.fetches f) || o.arg = 0 then s
    else
      let s := s.sendRead f ((s.rings f).orderBase + BitVec.ofNat 64 ((s.rings f).cons * 64)) (64 * o.arg)
      match r, s.canSend f with
    | some l, true => s.takeOrders f (l.take o.arg)
    | none, true => log (s.failOrders f o.arg) f
    | _, false => s.failOrders f o.arg
  | none => s.onFlow o (fun s f =>
      if f.slots ≠ o.ref || f.st ≠ .running || !(s.fetches (.vf f.t)) then s
      else
        let s := s.sendRead (.vf f.t) f.deq (64 * o.arg)
        match r, s.canSend (.vf f.t) with
        | some l, true => s.modFlow f.t f.h (fun f => f.takeSlots (l.take o.arg))
        | none, true => log (s.modFlow f.t f.h Flow.failFetch) (.vf f.t)
        | _, false => s.modFlow f.t f.h Flow.failFetch)

/-- FETCH (R112): a read of TDs or orders ends with what the host returned, or fails (R78). -/
def execFetch (u : UnitId) (r : Option (List (List Word))) (s : State) : Host.Outcome State Fault Refusal :=
  .next (s.report u .fetch (fun s o => s.fetched o r (fun s f => s.readError f true)))

/-! ### MOVE (R218, R417) -/

/-- The piece of an endpoint flow ends: OUT from host memory, IN to it. -/
def State.movePiece (s : State) (f : Flow) (o : Op) (readOk : Bool) (log : State → Fn → State) : State :=
  match f.movePiece with
  | some p =>
    match f.xfer? p.x, f.tds.find? (fun d => d.slot = p.slot) with
    | some x, some d =>
      if p.slot ≠ o.ref then s
      else
        let off := x.moved - f.offset x d
        let full := x.moved + p.bytes = f.offset x d + d.dataLen
        let fail := fun (s : State) => s.modFlow f.t f.h (fun f => f.modX x.id (fun x =>
          { x with status := some (.dmaFault, 0), busEnd := true, used := x.wire }))
        let go := fun (s : State) => s.modFlow f.t f.h (fun f =>
          (f.modX x.id (fun x => { x with moved := x.moved + p.bytes })).modTd d.slot (fun d =>
            if f.iso && !f.isIn && full then { d with readyAt := some s.time.now } else d))
        if !s.canSend (.vf f.t) then fail s
        else if f.xIn x then (go s).postPayload (.vf f.t) (d.buffer + BitVec.ofNat 64 off) p.bytes
        else
          let s := s.sendRead (.vf f.t) (d.buffer + BitVec.ofNat 64 off) p.bytes
          if readOk then go s else log (fail s) (.vf f.t)
    | _, _ => s
  | none => s

/-- MOVE (R218): one piece between host memory and staging. -/
def execMove (u : UnitId) (readOk : Bool) (s : State) : Host.Outcome State Fault Refusal :=
  .next (s.report u .move (fun s o => s.onFlow o (fun s f => s.movePiece f o readOk (fun s f => s.readError f true))))

/-! ### SEAL and UNSEAL (10 R272 to R279) -/

/-- Charge a seal unit (09 Table 9.8). -/
def State.chargeSeal (s : State) (bytes : Nat) : State := s.chargeEnergy (bytes * s.energy.active.sealPj)

/-- A unit of n plaintext bytes joins what OUT has staged for the bus. -/
def Flow.stage (f : Flow) (id n : Nat) (u : List Byte) : Flow :=
  f.modX id (fun x => { x with units := x.units + 1, plain := x.plain + n, buf := x.buf ++ u })

/-- The context of a pipe after a unit that it sends: the next sequence, and a rekey at the next unit boundary after 2^32 units (R276). -/
def KeyCtx.sent (k : KeyCtx) : KeyCtx :=
  { k with seq := k.seq + 1, rekeyDue := k.rekeyDue || (2 ^ 32 ≤ k.seq + 1 && k.epoch ≠ 255) }

/-- The next unit that the controller sends is built under the keys of its epoch (R270, R272). -/
def State.sendUnit (s : State) (t : TenantId) (h : Fin 1024) (id : Nat) (text : List Byte) : State :=
  match s.flow? t h with
  | some f => match f.key with
    | some k =>
      let u := buildUnit (digestBytes k.prk) f.isIn f.ep.addr k.epoch k.seq text
      let s := s.modFlow t h (fun f => { f.stage id text.length u with key := some k.sent })
      if k.epoch = 255 && 2 ^ 32 ≤ k.seq + 1 then s.startRekey t h else s
    | none => s
  | none => s

/-- One unit is sealed from its plaintext; a due rekey takes effect at the unit boundary (R276). -/
def State.sealUnit (s : State) (f : Flow) (o : Op) (text : List Byte) : State :=
  match f.sealNext, f.key with
  | some (id, n), some k =>
    if (match s.nodeTd f .seal with | some d => d.slot | none => 0) ≠ o.ref || text.length ≠ n then s
    else ((if k.rekeyDue then s.nextEpoch f.t f.h else s).sendUnit f.t f.h id text).chargeSeal (n + 24)
  | _, _ => s

/-- SEAL (R272, R273), with the plaintext that staging holds for the unit. -/
def execSeal (e : SealEnd) (s : State) : Host.Outcome State Fault Refusal :=
  .next (s.report e.unit .seal (fun s o => s.onFlow o (fun s f => s.sealUnit f o e.text)))

/-- The receiver accepts a header (R274, R276, R278): some true when it begins the next epoch. -/
def headerOk (k : KeyCtx) (iso : Bool) (epoch seq : Nat) : Option Bool :=
  if 2 ^ 32 ≤ seq || 256 ≤ epoch then none
  else if epoch = k.epoch then (if seq = k.seq || (iso && k.seq ≤ seq) then some false else none)
  else if epoch = k.epoch + 1 && (iso || seq = 0) then some true
  else none

/-- A received unit is accepted: its plaintext is ready for MOVE, unless it goes beyond the transfer's LENGTH (R274). -/
def State.acceptUnit (s : State) (f : Flow) (x : Xfer) (next : Bool) (seq plain : Nat) : State :=
  let s := if next then s.nextEpoch f.t f.h else s
  s.modFlow f.t f.h (fun f =>
    let g := { f with key := f.key.map (fun (k : KeyCtx) => { k with seq := seq + 1, failRun := 0 }) }
    if f.known x < x.plain + plain then
      (g.modX x.id (fun x => { x with units := x.units + 1, used := x.wire })).endX x.id .babble 0
    else g.modX x.id (fun x => { x with units := x.units + 1, plain := x.plain + plain, used := x.used + plain + 24 }))

/-- A received unit is rejected: the pipe fails (R279), on an isochronous pipe only at the 64th interval in a row (R278). -/
def State.refuseUnit (s : State) (f : Flow) (x : Xfer) : State :=
  let s := (s.rejectUnit f.t f.h).modFlow f.t f.h (fun f =>
    let g := f.modX x.id (fun x => { x with status := some (.sealFailed, 0), busEnd := true, used := x.wire })
    { g with key := f.key.map (fun k => { k with failRun := k.failRun + 1 }) })
  let run := match (s.flow? f.t f.h).bind (fun f => f.key) with | some k => k.failRun | none => 0
  if f.iso && run < 64 then s else s.failPipe f.t f.h

/-- One unit is verified. -/
def State.unsealUnit (s : State) (f : Flow) (o : Op) (unit : List Byte) : State :=
  match f.unsealNext, f.key with
  | some (id, w), some k =>
    match f.xfer? id with
    | some x =>
      if (match s.nodeTd f .unseal with | some d => d.slot | none => 0) ≠ o.ref || unit.length ≠ w then s
      else
        let s := s.chargeSeal w
        match headerOk k f.iso (unitEpoch unit) (unitSeq unit) with
        | some next =>
          if unitTagOk (digestBytes k.prk) f.isIn f.ep.addr unit then s.acceptUnit f x next (unitSeq unit) (w - 24)
          else s.refuseUnit f x
        | none => s.refuseUnit f x
    | none => s
  | _, _ => s

/-- UNSEAL (R274, R278, R279) of a unit as it was received: epoch, sequence, ciphertext and tag (R272). -/
def execUnseal (u : UnitId) (epoch : Byte) (seq cipher tag : List Byte) (s : State) : Host.Outcome State Fault Refusal :=
  .next (s.report u .unseal (fun s o => s.onFlow o (fun s f => s.unsealUnit f o (epoch :: (seq ++ cipher ++ tag)))))

/-- REKEY_DEADLINE (R276, R277): a sending direction advances its epoch at its next unit, a receiving one sends REKEY; epoch
256 takes a fresh handshake. -/
def execRekeyDeadline (t : TenantId) (h : Fin 1024) (s : State) : Host.Outcome State Fault Refusal :=
  .next (s.onDelay (.rekey t h) (fun s =>
    match s.flow? t h with
    | some f => match f.key with
      | some k =>
        let s1 := s.modFlow t h (fun f => { f with key := some { k with deadline := none, rekeyDue := k.epoch ≠ 255 } })
        if k.epoch = 255 then s1.startRekey t h
        else if f.isIn then s1.request f.dev (s1.tiraelReq f .rekey []) else s1
      | none => s
    | none => s))

/-! ### Completion Timeout (R78) -/

/-- DMA_COMPLETION_TIMEOUT (R78): the read of the unit's FETCH or OUT MOVE gets no completion; with Completion Timeout Disable set none
ends so. -/
def execDmaCompletionTimeout (u : UnitId) (s : State) : Host.Outcome State Fault Refusal :=
  if s.timeoutOff then .next s
  else match s.opAt u with
  | some o =>
    if o.node = .fetch then .next (s.report u .fetch (fun s o => s.fetched o none State.timeoutError))
    else
      let out := match s.flows.find? (fun f => f.entry = o.task) with
        | some f => (match f.movePiece with
          | some p => (match f.xfer? p.x with | some x => !f.xIn x | none => false)
          | none => false)
        | none => false
      if o.node = .move && out then
        .next (s.report u .move (fun s o => s.onFlow o (fun s f => s.movePiece f o false State.timeoutError)))
      else .next s
  | none => .next s

end Sys2Proof.Machine
end

