-- ==== Sys2Proof/Machine/Check.lean ====
section
/-! DEFINITION. CHECK of TDs and orders (05 R114 to R123, R129, R130; 03 R68; 06 R159; 09 R235 to R238, R247; 10 R278). -/

namespace Sys2Proof.Machine

/-! ### Valid TDs (Tables 5.1 and 5.2) -/

/-- Flags that a TYPE may set, as bits 12 to 8 of W0. -/
def tdFlags (type : Nat) : BitVec 5 :=
  match type with
  | 1 => 0x1F | 2 => 0x10 | 3 => 0x03 | 4 => 0x01 | 5 => 0x1B | 6 => 0x11 | _ => 0

/-- Reserved bits and words, flags, SETUP, TIMEOUT and SERVICE_TIME are zero where Tables 5.1 and 5.2 say so. `first`: the TD is
the first of its transfer. -/
def Td.fieldsOk (d : Td) (first : Bool) : Bool :=
  let w0 := d.w 0
  w0.extractLsb' 13 19 = 0 && w0.extractLsb' 56 8 = 0 && w0.extractLsb' 8 5 &&& ~~~(tdFlags d.type) = 0 &&
  (d.w 4).extractLsb' 32 32 = 0 && d.w 6 = 0 && d.w 7 = 0 &&
  (d.type = 2 || d.w 3 = 0) && (d.type = 5 || d.w 5 = 0) &&
  (d.timeoutUs = 0 || d.type = 2 || (d.type = 1 && first))

/-- The TYPE may follow the TD before it in its transfer (`prev`, 0 for none) on an endpoint of this type (R114 to R117). -/
def seqOk (k : EpType) (prev wLength type : Nat) : Bool :=
  match prev with
  | 0 => (match k with
    | .control => type = 2 || type = 6
    | .iso => type = 5 || type = 6
    | _ => type = 1 || type = 6)
  | 1 => type = 1
  | 2 => if wLength ≠ 0 then type = 3 else type = 4
  | 3 => type = 4
  | _ => false

/-- LENGTH as Table 5.2 and 10 R278 allow it. -/
def Flow.lengthOk (f : Flow) (x : Xfer) (d : Td) (wLength : Nat) : Bool :=
  match d.type with
  | 1 => true
  | 2 => d.len = 8
  | 3 => d.len = wLength
  | 5 => d.len + (if x.unit = 0 then 0 else 24) ≤ f.ep.perService
  | _ => d.len = 0

/-- The TD is valid where it stands (R114, R115). -/
def Flow.tdOk (f : Flow) (x : Xfer) (d : Td) : Bool :=
  let n := match f.setupOf x with | some y => y.wLength | none => 0
  seqOk f.ep.kind x.prev n d.type && d.fieldsOk (x.prev = 0) && f.lengthOk x d n

/-! ### Refused requests (06 Table 6.6) -/

/-- The current alternate setting of an interface of a device's active configuration. -/
def Dev.current (d : Dev) (i : Nat) : Option AltSetting :=
  (d.configs.find? (fun c => c.value = d.config)).bind (fun c =>
    c.alts.find? (fun a => a.iface = i && a.alt = (d.alts.lookup i).getD 0))

/-- The request filter refuses a setup. -/
def State.refusesSetup (s : State) (f : Flow) (d : Td) : Bool :=
  let others := s.flows.filter (fun g => g.t = f.t && g.vp = f.vp && g.ep.addr.toNat % 16 ≠ 0)
  let t := d.reqType
  let r := d.request
  if t = 0x23 || t = 0xA3 then true
  else if t = 0x00 then
    r = 5 || (r = 3 && d.wValue = 2) || ((r = 3 || r = 1) && 48 ≤ d.wValue && d.wValue ≤ 50) || r = 48 || r = 49 ||
    (r = 9 && !others.isEmpty)
  else if t = 0x01 then
    r = 11 && (match (s.dev? f.dev).bind (fun x => x.current d.wIndex) with
      | some a => others.any (fun g => a.eps.any (fun e => e.addr = g.ep.addr))
      | none => false)
  else false

/-! ### The checks of one TD -/

/-- The metered bytes of a TD, if it is metered (09 Table 9.1). -/
def State.metered (s : State) (f : Flow) (d : Td) : Option Nat :=
  if d.type = 1 && f.ep.kind = .bulk && d.len ≠ 0 then some d.len
  else if d.type = 2 && !s.sluice.exempt then some (8 + d.wLength)
  else none

/-- A control transfer comes to the default pipe while the device is being reset: it ends ABORTED with RESET (06 Table 6.8). -/
def State.meetsReset (s : State) (f : Flow) (d : Td) : Bool :=
  d.type = 2 && f.ep.addr = 0 && (match s.dev? f.dev with | some x => x.reset ≠ .none | none => false)

/-- What CHECK makes of a TD: none lets it pass, else the status and detail that end its transfer; tokens are taken (R235),
the fence memory is read and cleared (R123). -/
def State.judge (s : State) (f : Flow) (x : Xfer) (d : Td) : Option (Status × Nat) × Bool × State :=
  let sealMatters := d.type = 1 || d.type = 5
  let failed := d.fence && s.fenceFailed f
  let s := if d.fence then s.setFence f.t f.h false else s
  if sealMatters && d.sealed ≠ f.key.isSome then (some (.notPermitted, 15), false, s)
  else if sealMatters && !d.sealed && s.sealPolicy (s.classOf f) = 1 then (some (.notPermitted, 8), false, s)
  else if d.type = 2 && s.refusesSetup f d then (some (.notPermitted, 14), false, s)
  else if failed then (some (.fenced, 0), false, s)
  else
    let (c, s) : Colour × State := match s.metered f d with
      | some b =>
        let (c, y) := (s.tenant f.t).colour b
        (c, s.modTenant f.t (fun _ => y))
      | none => (.green, s)
    let setupYellow := match f.setupOf x with | some y => y.yellow | none => false
    let yellow := c = .yellow || ((d.type = 3 || d.type = 4) && setupYellow)
    if c = .red then (some (.policed, 0), false, s)
    else if d.type ≠ 6 && (vget s.sluice.ports f.dev.port).neverFits (s.tcOf f) (s.largestNs f x d)
    then (some (.gateTooLong, 0), yellow, s)
    else (none, yellow, s)

/-- A TD passes CHECK; an ISO IN TD, or one without data, is then ready for service (R190). -/
def Flow.passTd (f : Flow) (d : Td) (yellow : Bool) (now : Nat) : Flow :=
  (f.modTd d.slot (fun y => { y with
    stage := .checked, yellow := yellow,
    readyAt := if f.iso && (f.isIn || d.len = 0) then some now else y.readyAt })).modX d.x
      (fun x => { x with prev := d.type, fence := x.fence || d.fence })

/-- A TD ends its transfer at CHECK: nothing of it, nor of a later TD, reaches the bus. -/
def Flow.stopAt (f : Flow) (d : Td) (st : Status) (detail : Nat) : Flow :=
  f.modX d.x (fun x => { x with status := some (st, detail), stop := some d.slot })

/-- CHECK of one TD of a flow. -/
def State.checkTd (s : State) (f : Flow) (d : Td) : State :=
  match f.xfer? d.x with
  | none => s
  | some x =>
    let pass := fun (s : State) (y : Bool) => s.modFlow f.t f.h (fun f => f.passTd d y s.time.now)
    if !f.tdOk x d then
      (pass s false).modFlow f.t f.h (fun f =>
        (f.stopAt d .badDescriptor 0).modX d.x (fun y => { y with busEnd := y.busEnd || x.status.isSome, fence := x.fence }))
    else if x.status.isSome || x.short then pass s false
    else if s.meetsReset f d then
      (pass s false).modFlow f.t f.h (fun f => (f.stopAt d .aborted 0).modX d.x (fun y => { y with reset := true }))
    else
      let (v, y, s) := s.judge f x d
      match v with
      | none => pass s y
      | some (st, n) =>
        let s := (pass s y).modFlow f.t f.h (fun f => f.stopAt d st n)
        if st = .policed then s.traceRec 6 f.entry (s.taskLevel f) 0 false 1 d.len else s

/-! ### Orders (R129, R130) -/

/-- TARGET of an order that CHECK ends: the handle, VP or tenant that it names. -/
def Order.target (o : Order) : Nat :=
  match o.names with
  | (0, n) :: _ | (1, n) :: _ | (3, n) :: _ => n
  | (4, _) :: _ => if o.code = 0x45 then field (o.p 0) 24 7 else 0
  | _ => 0

/-- CHECK of an order: R68 on an imageless controller, then its code and reserved bits; a valid one starts its action. -/
def State.checkOrder (s : State) (f : Fn) (k : Nat) : State :=
  match s.order? f k with
  | some o =>
    if o.stage ≠ .fetched then s
    else
      let exempt := o.code = 0x49 || o.code = 0x4B || o.code = 0x4C || o.code = 0x4D
      let ok := codeAccepted f o.code
      s.modOrder f k (fun o =>
        let o := { o with inSlot := false }
        if f = .pf0 && s.img.image.isNone && ok && !exempt then
          { o with stage := .ended, ev := o.doneEv .notPermitted o.target 0 255 }
        else if !ok || !o.reservedOk then
          { o with stage := .ended, ev := o.doneEv .badDescriptor (if ok then o.target else 0) 0 0 }
        else { o with stage := .acting })
  | none => s

/-- CHECK (R115, R130): a TD on a worker, an order on a core. -/
def execCheck (u : UnitId) (s : State) : Host.Outcome State Fault Refusal :=
  .next (s.report u .check (fun s o =>
    match taskOwner o.task with
    | some f => s.checkOrder f o.ref
    | none => s.onFlow o (fun s f =>
      match f.checkNext with
      | some d => if d.slot = o.ref then s.checkTd f d else s
      | none => s)))

end Sys2Proof.Machine
end

