-- ==== Sys2Proof/Machine/Image.lean ====
section
/-! DEFINITION. The Hytin image: its layout, the checks of Table 3.20 on a slot, and what an image that passes says (03 R59 to R66,
R418). Slot bytes beyond what is written read as erased flash. -/

namespace Sys2Proof.Machine

/-! ### Bytes of a slot -/

/-- n little-endian bytes of a slot from an offset. -/
def rdBytes (l : List Byte) (off n : Nat) : List Byte :=
  let x := (l.drop off).take n
  x ++ List.replicate (n - x.length) 0xFF

def rd (l : List Byte) (off n : Nat) : Nat := leNat (rdBytes l off n)

/-- Bytes [lo, hi) of a slot are zero. -/
def zeros (l : List Byte) (lo hi : Nat) : Bool := (rdBytes l lo (hi - lo)).all (fun b => b = 0)

/-- A tested field: its slot offset and whether it passes. A field is one entry of the section's table or one element of an indexed
entry; the bit fields of one entry fail at that entry's offset (DEDUCED, notes/assumptions/100.md). -/
abbrev FieldTest := Nat × Bool

/-- The lowest offset of a failing field. -/
def firstBad (l : List FieldTest) : Option Nat :=
  l.foldl (fun a p => if p.2 then a else match a with
    | some n => some (Nat.min n p.1)
    | none => some p.1) none

def inRange (lo hi v : Nat) : Bool := lo ≤ v && v ≤ hi

/-- Either 0, which takes a default, or in range. -/
def zeroOr (lo hi v : Nat) : Bool := v = 0 || inRange lo hi v

/-! ### Sections (R61, R418) -/

/-- A section of a body: its code, the slot offset of its payload and the payload's length. -/
structure Sect where
  code : Nat
  off : Nat
  len : Nat
  deriving DecidableEq, Repr

/-- A failed check: reason code, section and field offset. -/
structure CheckFail where
  reason : Byte
  sect : Nat := 0
  off : Nat := 0
  deriving DecidableEq, Repr

/-- Bytes of n SLUICE lists from an offset. -/
def sluiceBytes (l : List Byte) : Nat → Nat → Nat
  | 0, _ => 0
  | n + 1, off => let b := 16 + 8 * rd l (off + 2) 2
                  b + sluiceBytes l n (off + b)

/-- Bytes of n anchors from an offset. -/
def anchorBytes (l : List Byte) : Nat → Nat → Nat
  | 0, _ => 0
  | n + 1, off => let b := 8 + (rd l off 2 + 7) / 8 * 8
                  b + anchorBytes l n (off + b)

/-- The payload size that Table 3.7 fixes. -/
def sectSize (l : List Byte) (code off : Nat) : Nat :=
  match code with
  | 1 => 32 | 2 => 8 + 160 * rd l off 2 | 3 => 8 + 64 * rd l off 2
  | 4 => 8 + sluiceBytes l (rd l (off + 1) 1) (off + 8) | 5 => 8 | 6 => 80
  | 7 => 16 + anchorBytes l (rd l off 1) (off + 16) | 8 => 24 | 9 => 456 | 10 => 16 | 11 => 384 | _ => 16

/-- Check 9's walk over n section headers from a position (R418). -/
def walkSects (l : List Byte) (bodyEnd : Nat) : Nat → Nat → Nat → Except CheckFail (List Sect)
  | 0, pos, _ => if pos = bodyEnd then .ok [] else .error { reason := 0x0A, off := 0x10 }
  | n + 1, pos, prev =>
    if bodyEnd ≤ pos then .error { reason := 0x0A, off := 0x14 }
    else
      let code := rd l pos 1
      let len := rd l (pos + 4) 4
      let bad := fun o => Except.error { reason := 0x0A, sect := code, off := pos + o }
      if !(inRange 1 0x0C code) then bad 0
      else if code ≤ prev then bad 0
      else if rd l (pos + 2) 2 ≠ 1 then bad 2
      else if rd l (pos + 1) 1 ≠ 0 then bad 1
      else if !(zeros l (pos + 8) (pos + 16)) then bad 8
      else if len ≠ sectSize l code (pos + 16) then bad 4
      else if bodyEnd < pos + 16 + len then bad 4
      else match walkSects l bodyEnd n (pos + 16 + len) code with
        | .ok r => .ok ({ code := code, off := pos + 16, len := len } :: r)
        | .error e => .error e

/-- Check 9. -/
def checkSects (l : List Byte) : Except CheckFail (List Sect) :=
  match walkSects l (256 + rd l 0x10 4) (rd l 0x14 2) 256 0 with
  | .error e => .error e
  | .ok r =>
    if !(r.any (fun x => x.code = 1)) then .error { reason := 0x0A, sect := 1 }
    else if !(r.any (fun x => x.code = 2)) then .error { reason := 0x0A, sect := 2 }
    else .ok r

/-! ### Fields of each section (R62, R63). Offsets are those of the slot. -/

/-- Table 3.8. -/
def globalTests (l : List Byte) (b : Nat) : List FieldTest :=
  let gang := fun i => rd l (b + 4 + 2 * i) 2
  let before := fun i => ((List.range i).map gang).foldl (· ||| ·) 0
  [(b + 2, rd l (b + 2) 2 < 64 && (rd l (b + 2) 2 &&& rd l b 2) = rd l (b + 2) 2)] ++
  (List.range 4).map (fun i => (b + 4 + 2 * i, decide (gang i &&& before i = 0))) ++
  [(b + 0x0C, zeroOr 10 1000 (rd l (b + 0x0C) 2)), (b + 0x0E, zeroOr 2000 65535 (rd l (b + 0x0E) 2)),
   (b + 0x10, rd l (b + 0x10) 1 ≤ 2), (b + 0x11, rd l (b + 0x11) 1 ≤ 13), (b + 0x12, rd l (b + 0x12) 1 ≤ 2),
   (b + 0x13, rd l (b + 0x13) 1 ≤ 1), (b + 0x1A, zeros l (b + 0x1A) (b + 0x20))]

/-- The six words of a share record. -/
def shareWords (l : List Byte) (b : Nat) : List Word := (List.range 6).map (fun k => BitVec.ofNat 64 (rd l (b + 8 * k) 8))

/-- The slot offset of field i of a share record. -/
def shareOff (b i : Nat) : Nat := b + 8 * (sharePlace i).1 + (sharePlace i).2.1 / 8

/-- Table 3.10. -/
def shareTests (l : List Byte) (b : Nat) : List FieldTest :=
  let w := shareWords l b
  (List.range 14).map (fun i =>
    let v := if i = 4 || i = 5 then shareRaw w i % 2 ^ 48 else if i = 12 then shareRaw w i % 2 ^ 24 else shareRaw w i
    (shareOff b i, shareRange i v)) ++
  [(b + 0x08, zeros l (b + 0x0E) (b + 0x10)), (b + 0x10, decide (shareRaw w 4 % 2 ^ 48 ≤ shareRaw w 5 % 2 ^ 48)),
   (b + 0x10, zeros l (b + 0x16) (b + 0x18)), (b + 0x24, zeros l (b + 0x27) (b + 0x28)), (b + 0x29, zeros l (b + 0x29) (b + 0x30))]

/-- Table 3.9, for entry i. A field whose MIN lies above its MAX fails at INITIAL, the last in the slot of the three that R63 orders
(DEDUCED, notes/assumptions/100.md). -/
def tenantTests (l : List Byte) (b i : Nat) : List FieldTest :=
  let e := b + 8 + 160 * i
  let t := rd l e 1
  let v := fun o k => shareValue t k (shareRaw (shareWords l (e + o)) k)
  [(e, i = 0 || decide (rd l (e - 160) 1 < t)), (e + 1, rd l (e + 1) 1 ≤ 1), (e + 2, zeros l (e + 2) (e + 8))] ++
  shareTests l (e + 8) ++ shareTests l (e + 0x38) ++ shareTests l (e + 0x68) ++
  (List.range 14).map (fun k => (shareOff (e + 0x68) k, fieldWithin k (v 8 k) (v 0x68 k) (v 0x38 k))) ++
  [(e + 0x98, zeros l (e + 0x98) (e + 0xA0))]

def tenantsTests (l : List Byte) (b : Nat) : List FieldTest :=
  [(b, inRange 1 256 (rd l b 2)), (b + 2, zeros l (b + 2) (b + 8))] ++ (List.range (rd l b 2)).flatMap (tenantTests l b)

/-- Table 3.11, for rule i; `tens` are the tenants that have an entry. -/
def grantTests (l : List Byte) (tens : List Nat) (b i : Nat) : List FieldTest :=
  let e := b + 8 + 64 * i
  let m := rd l e 1
  let sel := fun k => m.testBit k
  let only := fun (s : Bool) lo n => (e + lo, s || zeros l (e + lo) (e + lo + n))
  let depth := rd l (e + 4) 1
  let cls := sel 3 || sel 4
  ([(e, m < 64 && !(sel 3 && sel 4)), (e + 1, tens.contains (rd l (e + 1) 1)), (e + 2, rd l (e + 2) 1 ≤ 64),
   (e + 3, rd l (e + 3) 1 ≤ 15), only (sel 0) 3 1, (e + 4, depth ≤ 5), only (sel 0) 4 1] : List FieldTest) ++
  [(e + 5, (List.range 5).all (fun k => (rd l (e + 5 + k) 1 != 0) == (sel 0 && decide (k < depth))))] ++
  ([only (sel 1) 0x0A 2, only (sel 2) 0x0C 2, only cls 0x0E 1, only cls 0x0F 1, only cls 0x10 1,
   (e + 0x11, decide (rd l (e + 0x11) 1 < 8)), only cls 0x11 1, (e + 0x12, zeros l (e + 0x12) (e + 0x18)), only (sel 5) 0x18 32,
   (e + 0x38, zeros l (e + 0x38) (e + 0x40))] : List FieldTest)

def grantsTests (l : List Byte) (tens : List Nat) (b : Nat) : List FieldTest :=
  ([(b, rd l b 2 ≤ 512), (b + 2, zeros l (b + 2) (b + 8))] : List FieldTest) ++ (List.range (rd l b 2)).flatMap (grantTests l tens b)

/-- The entries of a SLUICE list from an offset; the running sum is tested where it first exceeds (R62). -/
def entryTests (l : List Byte) : Nat → Nat → Nat → List FieldTest
  | 0, _, _ => []
  | n + 1, off, run =>
    let ns := rd l (off + 1) 4
    (off, decide (run + ns ≤ 1000000000) && decide (1000 ≤ ns) && zeros l (off + 5) (off + 8)) ::
    entryTests l n (off + 8) (run + ns)

/-- Table 3.12: n lists from an offset; no port twice. -/
def listTests (l : List Byte) : Nat → Nat → List Nat → List FieldTest
  | 0, _, _ => []
  | n + 1, off, seen =>
    let k := rd l (off + 2) 2
    let p := rd l off 1
    [(off, p ≤ 15 && !(seen.contains p)), (off + 1, zeros l (off + 1) (off + 2)), (off + 2, inRange 1 128 k),
     (off + 4, zeros l (off + 4) (off + 8))] ++ entryTests l k (off + 16) 0 ++ listTests l n (off + 16 + 8 * k) (p :: seen)

def sluiceTests (l : List Byte) (b : Nat) : List FieldTest :=
  ([(b, rd l b 1 ≤ 1), (b + 1, rd l (b + 1) 1 ≤ 16), (b + 2, zeros l (b + 2) (b + 8))] : List FieldTest) ++ listTests l (rd l (b + 1) 1) (b + 8) []

/-- Table 3.13. -/
def policyTests (l : List Byte) (b : Nat) : List FieldTest :=
  [(b, rd l b 1 < 4), (b + 1, zeros l (b + 1) (b + 2)), (b + 2, rd l (b + 2) 2 ≤ 25000), (b + 4, zeros l (b + 4) (b + 8))]

/-- The default thresholds of Table 9.10 for the ordering code. -/
def defaultT : Nat × Nat × Nat := if Config.orderingX then (110, 120, 125) else (95, 105, 110)

/-- A threshold or its default. -/
def orDefault (v d : Nat) : Nat := if v = 0 then d else v

/-- Table 3.14. -/
def energyTests (l : List Byte) (b : Nat) : List FieldTest :=
  let ts := rd l (b + 0x10) 1
  let th := rd l (b + 0x11) 1
  let tc := rd l (b + 0x12) 1
  let high := rd l (b + 0x0C) 4
  [(b, inRange 1 10000 (rd l b 4)), (b + 4, inRange 1 100000000 (rd l (b + 4) 4)),
   (b + 0x0C, rd l (b + 8) 4 ≤ high && high ≤ rd l (b + 4) 4), (b + 0x10, ts ≤ defaultT.1),
   (b + 0x11, th ≤ defaultT.2.1 && (ts = 0 || ts < orDefault th defaultT.2.1)),
   (b + 0x12, tc ≤ defaultT.2.2 && (th = 0 || th < orDefault tc defaultT.2.2)),
   (b + 0x13, zeros l (b + 0x13) (b + 0x14)), (b + 0x2A, zeros l (b + 0x2A) (b + 0x30)), (b + 0x4C, zeros l (b + 0x4C) (b + 0x50))]

/-- Table 3.15: n anchors from an offset. -/
def anchorTests (l : List Byte) : Nat → Nat → List FieldTest
  | 0, _ => []
  | n + 1, off =>
    let k := rd l off 2
    let r := (k + 7) / 8 * 8
    [(off, inRange 1 1024 k), (off + 2, zeros l (off + 2) (off + 8)),
     (off + 8, caCertificate (rdBytes l (off + 8) k) && zeros l (off + 8 + k) (off + 8 + r))] ++
    anchorTests l n (off + 8 + r)

def sealTests (l : List Byte) (b : Nat) : List FieldTest :=
  ([(b, rd l b 1 ≤ 16), (b + 1, rd l (b + 1) 1 ≤ 1), (b + 2, (List.range 8).all (fun c => rd l (b + 2) 2 / 4 ^ c % 4 ≠ 3)),
   (b + 8, zeros l (b + 8) (b + 16))] : List FieldTest) ++ anchorTests l (rd l b 1) (b + 16)

/-- Table 3.16. -/
def peatTests (l : List Byte) (b : Nat) : List FieldTest :=
  let c := rd l (b + 0x0C) 2
  [(b, inRange 256 1048576 (rd l b 4)), (b + 4, rd l (b + 4) 1 ≤ 4), (b + 5, zeros l (b + 5) (b + 8)),
   (b + 8, inRange 64 65536 (rd l (b + 8) 4)), (b + 0x0C, inRange 5 50 c), (b + 0x0E, inRange 1 (c - 1) (rd l (b + 0x0E) 2)),
   (b + 0x10, inRange 1000 1000000 (rd l (b + 0x10) 4)), (b + 0x14, inRange 1 100 (rd l (b + 0x14) 2)),
   (b + 0x16, zeros l (b + 0x16) (b + 0x18))]

/-- Table 3.17. -/
def svcTests (l : List Byte) (b : Nat) : List FieldTest :=
  (b + 6, zeros l (b + 6) (b + 8)) :: (List.range 3).flatMap (fun i =>
    let s := b + 0x48 + 128 * i
    let n := rd l s 1
    [(s, n % 2 = 0 && n ≤ 126 && zeros l (s + 1) (s + 2) && zeros l (s + 2 + n) (s + 128))])

/-- Table 3.18. -/
def powerTests (l : List Byte) (b : Nat) : List FieldTest :=
  let permit := rd l (b + 4) 1
  let mode := rd l (b + 5) 1
  let v := fun i => rd l (b + 8 + i) 1
  [(b + 4, inRange 1 7 permit), (b + 5, mode = 3 || (mode < 3 && permit.testBit mode)), (b + 6, inRange 10 1000 (rd l (b + 6) 2)),
   (b + 8, inRange 1 7 (v 0)), (b + 9, inRange 3 7 (v 1) && v 0 ≤ v 1), (b + 0x0A, inRange 5 7 (v 2) && v 1 ≤ v 2),
   (b + 0x0B, rd l (b + 0x0B) 1 ≤ 1), (b + 0x0C, zeros l (b + 0x0C) (b + 0x10))]

/-- IRQ: 96 route words; those of sources 33 to 95 are zero (12 R320). -/
def irqTests (l : List Byte) (b : Nat) : List FieldTest :=
  (List.range 96).flatMap (fun i =>
    let w := b + 4 * i
    let tg := rd l w 1
    if 33 ≤ i then [(w, zeros l w (w + 4))]
    else [(w, decide (tg ≤ 4) && decide (rd l (w + 1) 1 ≤ (if tg = 0 then 63 else 0)) && decide (rd l (w + 2) 2 < 16))])

/-- Table 3.19. -/
def timeTests (l : List Byte) (b : Nat) : List FieldTest :=
  [(b, rd l b 1 ≤ 3), (b + 1, rd l (b + 1) 1 ≤ 1), (b + 2, zeros l (b + 2) (b + 4)), (b + 4, rd l (b + 4) 4 ≤ 1000)]

/-- Check 10 of one section. -/
def sectTests (l : List Byte) (tens : List Nat) (x : Sect) : List FieldTest :=
  match x.code with
  | 1 => globalTests l x.off | 2 => tenantsTests l x.off | 3 => grantsTests l tens x.off | 4 => sluiceTests l x.off
  | 5 => policyTests l x.off | 6 => energyTests l x.off | 7 => sealTests l x.off | 8 => peatTests l x.off
  | 9 => svcTests l x.off | 10 => powerTests l x.off | 11 => irqTests l x.off | _ => timeTests l x.off

/-- The tenants of the TENANTS section. -/
def tenantNumbers (l : List Byte) (ss : List Sect) : List Nat :=
  match ss.find? (fun x => x.code = 2) with
  | some x => (List.range (rd l x.off 2)).map (fun i => rd l (x.off + 8 + 160 * i) 1)
  | none => []

/-- Check 10 (R62): the first failing field in ascending slot offset. -/
def checkFields (l : List Byte) (ss : List Sect) : Option CheckFail :=
  ss.findSome? (fun x => (firstBad (sectTests l (tenantNumbers l ss) x)).map (fun o => { reason := 0x0B, sect := x.code, off := o }))

/-! ### What an image says -/

def readShare (l : List Byte) (t b : Nat) : ShareRec := shareOf t (shareWords l b)

def readTenants (l : List Byte) (b : Nat) : List TenantEntry :=
  (List.range (rd l b 2)).map (fun i =>
    let e := b + 8 + 160 * i
    let t := rd l e 1
    { tenant := t, auto := (rd l (e + 1) 1).testBit 0, min := readShare l t (e + 8), max := readShare l t (e + 0x38),
      init := readShare l t (e + 0x68) })

def readGrants (l : List Byte) (b : Nat) : List GrantRule :=
  (List.range (rd l b 2)).map (fun i =>
    let e := b + 8 + 64 * i
    let byte := fun k => BitVec.ofNat 8 (rd l (e + k) 1)
    { sel := byte 0, tenant := rd l (e + 1) 1, vp := rd l (e + 2) 1, rootPort := rd l (e + 3) 1, depth := rd l (e + 4) 1,
      path := (List.range (rd l (e + 4) 1)).map (fun k => rd l (e + 5 + k) 1), vid := BitVec.ofNat 16 (rd l (e + 0x0A) 2),
      pid := BitVec.ofNat 16 (rd l (e + 0x0C) 2), cls := byte 0x0E, sub := byte 0x0F, proto := byte 0x10, clsMask := byte 0x11,
      serialHash := BitVec.ofNat 256 (rd l (e + 0x18) 32) })

/-- Gate-list entries of 8 bytes (Table 3.12). -/
def gateEntry (w : Word) : GateEntry := { mask := w.extractLsb' 0 8, ns := field w 8 32 }

def readLists (l : List Byte) : Nat → Nat → List (Nat × GateList)
  | 0, _ => []
  | n + 1, off =>
    let k := rd l (off + 2) 2
    (rd l off 1, { base := rd l (off + 8) 8,
                   entries := (List.range k).map (fun j => gateEntry (BitVec.ofNat 64 (rd l (off + 16 + 8 * j) 8))) }) ::
    readLists l n (off + 16 + 8 * k)

def readEnergy (l : List Byte) (b : Nat) : EnergySec :=
  { set := { sustained := rd l b 4, burst := rd l (b + 4) 4, low := rd l (b + 8) 4, high := rd l (b + 0x0C) 4,
             baseNj := Vector.ofFn (fun i => rd l (b + 0x14 + 2 * i.val) 2), bytePj := Vector.ofFn (fun i => rd l (b + 0x1E + 2 * i.val) 2),
             sealPj := rd l (b + 0x28) 2, islandNj := Vector.ofFn (fun i => rd l (b + 0x30 + 2 * i.val) 2) },
    tSoft := orDefault (rd l (b + 0x10) 1) defaultT.1, tHard := orDefault (rd l (b + 0x11) 1) defaultT.2.1,
    tCrit := orDefault (rd l (b + 0x12) 1) defaultT.2.2 }

def readAnchors (l : List Byte) : Nat → Nat → List (List Byte)
  | 0, _ => []
  | n + 1, off => let k := rd l off 2
                  rdBytes l (off + 8) k :: readAnchors l n (off + 8 + (k + 7) / 8 * 8)

def readSvc (l : List Byte) (b : Nat) : SvcSec :=
  let str := fun i => rdBytes l (b + 0x48 + 128 * i + 2) (rd l (b + 0x48 + 128 * i) 1)
  { vid := BitVec.ofNat 16 (rd l b 2), pid := BitVec.ofNat 16 (rd l (b + 2) 2), bcd := BitVec.ofNat 16 (rd l (b + 4) 2),
    key := rdBytes l (b + 8) 64, manufacturer := str 0, product := str 1, serial := str 2 }

def readGlobal (l : List Byte) (b : Nat) : GlobalSec :=
  { portEnable := BitVec.ofNat 16 (rd l b 2), ssEnable := BitVec.ofNat 16 (rd l (b + 2) 2),
    gangs := Vector.ofFn (fun i => BitVec.ofNat 16 (rd l (b + 4 + 2 * i.val) 2)), deglitchUs := orDefault (rd l (b + 0x0C) 2) 100,
    holdupUs := rd l (b + 0x0E) 2, refclk := rd l (b + 0x10) 1, xtalLoad := rd l (b + 0x11) 1, xspiSlew := rd l (b + 0x12) 1,
    freeRun := rd l (b + 0x13) 1 = 1, subVendor := BitVec.ofNat 16 (rd l (b + 0x14) 2), pfSub := BitVec.ofNat 16 (rd l (b + 0x16) 2),
    vfSub := BitVec.ofNat 16 (rd l (b + 0x18) 2) }

/-- The image that a checked slot holds. -/
def readImage (l : List Byte) (ss : List Sect) : Image :=
  let at_ := fun c => (ss.find? (fun x => x.code = c)).map (fun x => x.off)
  { header := rdBytes l 0 256, version := BitVec.ofNat 64 (rd l 8 8), svn := rd l 6 1 % 64, advance := (rd l 7 1).testBit 0,
    glob := readGlobal l ((at_ 1).getD 0), tenants := match at_ 2 with | some b => readTenants l b | none => [],
    grants := match at_ 3 with | some b => readGrants l b | none => [],
    sluice := (at_ 4).map (fun b => { staging := (rd l b 1).testBit 0, lists := readLists l (rd l (b + 1) 1) (b + 8) }),
    exempt := match at_ 5 with | some b => (rd l b 1).testBit 0 | none => true,
    startEmpty := match at_ 5 with | some b => (rd l b 1).testBit 1 | none => false,
    urgentNs := match at_ 5 with | some b => rd l (b + 2) 2 | none => 0,
    energy := (at_ 6).map (readEnergy l),
    sealSec := (at_ 7).map (fun b => { repin := rd l (b + 1) 1 = 1, tcPolicy := BitVec.ofNat 16 (rd l (b + 2) 2),
                                       rekeyS := rd l (b + 4) 4, anchors := readAnchors l (rd l b 1) (b + 16) }),
    peat := match at_ 8 with
      | some b => { lease := rd l b 4, counters := rd l (b + 4) 1, logKib := rd l (b + 8) 4, compactPct := rd l (b + 0x0C) 2,
                    degradedPct := rd l (b + 0x0E) 2, endurance := rd l (b + 0x10) 4, retention := rd l (b + 0x14) 2 }
      | none => {},
    svc := (at_ 9).map (readSvc l),
    power := match at_ 10 with
      | some b => { latFloor := rd l b 4, permit := BitVec.ofNat 3 (rd l (b + 4) 1), mode := rd l (b + 5) 1, settleUs := rd l (b + 6) 2,
                    vsel := Vector.ofFn (fun i => BitVec.ofNat 3 (rd l (b + 8 + i.val) 1)), padItem := rd l (b + 0x0B) 1 = 1 }
      | none => {},
    irq := match at_ 11 with
      | some b => (List.range 96).map (fun i => BitVec.ofNat 32 (rd l (b + 4 * i) 4))
      | none => [],
    time := match at_ 12 with
      | some b => { source := rd l b 1, falling := rd l (b + 1) 1 = 1, intervalMs := orDefault (rd l (b + 4) 4) 10,
                    stepNs := orDefault (rd l (b + 8) 8) 1000 }
      | none => {} }

/-! ### The checks (Table 3.20) -/

/-- Checks 2 to 4. -/
def headerFail (l : List Byte) : Option Byte :=
  let body := rd l 0x10 4
  if rd l 0 4 ≠ 0x4E545948 then some (if rd l 0 4 = 0xFFFFFFFF then 0x01 else 0x02)
  else if rd l 4 2 ≠ 1 || !(zeros l 0x16 0x18) || !(zeros l 0x78 0x100) || 2 ≤ rd l 7 1 || 64 ≤ rd l 6 1 then some 0x03
  else if body = 0 || body % 8 ≠ 0 || 8388288 < body || !(inRange 2 12 (rd l 0x14 2)) then some 0x04
  else none

/-- Checks 5 to 10, after the header passed. -/
def bodyFail (fuses : Fuses) (l : List Byte) : Except CheckFail Image :=
  let body := rd l 0x10 4
  let key := rdBytes l 0x38 64
  let signed := rdBytes l 0 (256 + body)
  if fuses.ownerHash ≠ 0 && Config.sha256 key ≠ fuses.ownerHash then .error { reason := 0x06 }
  else if Config.sha256 (rdBytes l 256 body) ≠ BitVec.ofNat 256 (rd l 0x18 32) then .error { reason := 0x05 }
  else if !(validPoint (4 :: key)) || !(ecdsaVerify key (Config.sha256 signed) (rdBytes l (256 + body) 64)) then
    .error { reason := 0x07 }
  else if rd l 6 1 < fuses.svn then .error { reason := 0x09 }
  else match checkSects l with
    | .error e => .error e
    | .ok ss => match checkFields l ss with
      | some e => .error e
      | none => .ok (readImage l ss)

/-- Checks 2 to 10 of a slot; check 11, that the device is claimed, is the caller's. -/
def checkImage (fuses : Fuses) (l : List Byte) : Except CheckFail Image :=
  match headerFail l with
  | some r => .error { reason := r }
  | none => bodyFail fuses l

end Sys2Proof.Machine
end

