-- ==== Sys2Proof/Machine/PeatBytes.lean ====
section
/-! DEFINITION. The bytes of the Peat journal: AES-CMAC and CRC-32 (PRESUMED as their standards have them, notes/assumptions/10.md),
superblock, sector header, record page, and where they lie (14 R347 to R350, Tables 14.1 to 14.5, 14.9 to 14.11). -/

namespace Sys2Proof.Machine

/-! ### AES-CMAC (SP 800-38B) and CRC-32 (IEEE 802.3) -/

/-- A block doubled in the field of CMAC. -/
def cmacDouble (x : BitVec 128) : BitVec 128 := x <<< 1 ^^^ (if x.getLsbD 127 then 0x87 else 0)

/-- The 16 bytes of the MAC of a message. -/
def cmac (key msg : List Byte) : List Byte :=
  let k1 := cmacDouble (BitVec.ofNat 128 (beNat (aes key (List.replicate 16 0))))
  let whole := msg.length % 16 = 0 && !msg.isEmpty
  let sub := beBytes 16 (if whole then k1 else cmacDouble k1).toNat
  let l := blocks16 (if whole then msg else msg ++ [0x80])
  let last := xorBytes (l.getLast?.getD []) sub
  (l.dropLast ++ [last]).foldl (fun a b => aes key (xorBytes a b)) (List.replicate 16 0)

/-- One bit of the CRC. -/
def crcBit (c : BitVec 32) : BitVec 32 := c >>> 1 ^^^ (if c.getLsbD 0 then 0xEDB88320 else 0)

/-- The 4 bytes of the CRC of a message, little-endian. -/
def crc32 (l : List Byte) : List Byte :=
  natBytes 4 (l.foldl (fun (c : BitVec 32) b => (List.range 8).foldl (fun x _ => crcBit x) (c ^^^ b.setWidth 32)) 0xFFFFFFFF ^^^
    0xFFFFFFFF).toNat

/-- The Peat key (R348). -/
def peatKey : List Byte := (List.range 32).map Config.peatByte

/-- A structure's bytes with its CMAC, then its CRC over both. -/
def sealed (l : List Byte) : List Byte :=
  let m := l ++ cmac peatKey l
  m ++ crc32 m

/-- The first 8 bytes of the MAC of a horizon (R361). -/
def horizonMac (seq : Nat) : BitVec 64 := BitVec.ofNat 64 (leNat ((cmac peatKey (ascii "peathzn1" ++ natBytes 8 seq)).take 8))

/-! ### Structures -/

def PeatSec.bytes (p : PeatSec) : List Byte :=
  natBytes 4 p.lease ++ natBytes 4 p.counters ++ natBytes 4 p.logKib ++ natBytes 2 p.compactPct ++ natBytes 2 p.degradedPct ++
  natBytes 4 p.endurance ++ natBytes 2 p.retention ++ natBytes 2 0

/-- Table 14.1. -/
def Superblock.bytes (b : Superblock) : List Byte :=
  sealed ([0x50, 0x45, 0x41, 0x54, 0x53, 0x42, 0, 1] ++ natBytes 2 1 ++ natBytes 1 b.sectorLog2 ++ natBytes 1 b.epoch ++
    natBytes 4 b.sectors ++ natBytes 8 b.nonce.toNat ++ b.params.bytes)

/-- Table 14.3. -/
def Sector.header (x : Sector) (log2 : Nat) : List Byte :=
  sealed (ascii "PEAT" ++ natBytes 2 1 ++ natBytes 1 log2 ++ natBytes 1 x.epoch ++ natBytes 8 (x.seq.getD 0) ++
    natBytes 8 x.ckpt ++ natBytes 4 x.erases ++ natBytes 4 0)

/-- The 48 bytes of an identity (Table 14.9). -/
def Identity.bytes (i : Identity) : List Byte :=
  natBytes 1 i.port.val ++ natBytes 1 i.path.length ++ (List.range 5).map (fun n => BitVec.ofNat 8 (i.path.getD n 0)) ++ [0] ++
  natBytes 2 i.vid.toNat ++ natBytes 2 i.pid.toNat ++ natBytes 4 0 ++ digestBytes i.serial

/-- TYPE (Table 14.5). -/
def RecBody.type : RecBody → Nat
  | .lease _ => 1 | .highWater _ => 2 | .log _ => 3 | .pin _ => 4 | .quarantine _ => 5 | .lifetime _ => 6 | .epoch _ _ => 7
  | .retire _ => 8 | .ckptBegin => 9 | .ckptEnd _ => 10

/-- The eight words of an event record (Table 14.11). -/
def LogEv.words (e : LogEv) : List Word :=
  let (tv, t) := match e.tenant with | some t => (1, t.val) | none => (0, 0)
  let (dv, d) := match e.device with | some d => (1, d) | none => (0, 0)
  [BitVec.ofNat 64 e.index, BitVec.ofNat 64 e.time,
   pack [(e.mount % 2 ^ 32, 0), (e.code, 32), (t, 48), (tv, 56), (dv, 57)], BitVec.ofNat 64 d] ++
  (List.range 4).map (fun i => e.data.extractLsb' (64 * i) 64)

/-- PAYLOAD (Tables 14.5, 14.9, 14.10). -/
def RecBody.payload : RecBody → List Byte
  | .lease l => l.flatMap (fun e => natBytes 8 e.2.1 ++ natBytes 4 e.1 ++ natBytes 4 e.2.2)
  | .highWater l => l.flatMap (fun e => natBytes 8 e.2 ++ natBytes 4 e.1)
  | .log l => l.flatMap (fun e => e.words.flatMap wordBytes)
  | .pin l => l.flatMap (fun e => e.1.bytes ++ digestBytes e.2 ++ natBytes 16 0)
  | .quarantine l => l.flatMap (fun e => e.1.bytes ++ natBytes 4 (b2n e.2) ++ natBytes 12 0)
  | .lifetime r => natBytes 4 r.mounts ++ natBytes 4 r.tampers ++ natBytes 4 r.tamperGen ++ natBytes 4 r.watchdogs ++
      natBytes 4 r.pwrfails
  | .epoch e c => natBytes 1 e ++ natBytes 1 c
  | .retire l => l.flatMap (natBytes 4)
  | .ckptBegin => []
  | .ckptEnd n => natBytes 4 n

/-- A record page (Table 14.4); its last 12 bytes stay erased. -/
def PRec.page (r : PRec) : List Byte :=
  let b := r.body.payload
  sealed (natBytes 1 r.body.type ++ natBytes 1 r.epoch ++ natBytes 2 b.length ++ natBytes 4 0 ++ natBytes 8 r.seq ++
    natBytes 8 r.link ++ natBytes 8 0 ++ b ++ List.replicate (192 - b.length) 0)

/-! ### Where they lie -/

/-- The flash offset of the region (03 R58). -/
def State.peatBase (s : State) : Nat := if s.pins.peatSel then 2 ^ 24 else 0

/-- The offset of a usable sector: the superblock copies hold sectors 0 and 1 of the region (R347). -/
def State.sectorBase (s : State) (i : Nat) : Nat := s.peatBase + (i + 2) * 2 ^ s.peat.sectorLog2

/-- The record page and the commit word of slot k (Table 14.2). -/
def State.recordAt (s : State) (i k : Nat) : Nat := s.sectorBase i + 256 * ((if s.peat.sectorLog2 = 16 then 9 else 2) + k)
def State.commitAt (s : State) (i k : Nat) : Nat := s.sectorBase i + 256 + 8 * k

/-- Program a record page, and a commit word (R351 steps 1 and 3). -/
def State.emitPage (s : State) (i k : Nat) (r : PRec) : State := s.emitOut (.flash (s.recordAt i k) r.page)
def State.emitCommit (s : State) (i k : Nat) : State := s.emitOut (.flash (s.commitAt i k) (List.replicate 8 0))

end Sys2Proof.Machine
end

