-- ==== Sys2Proof/Machine/Peat.lean ====
section
/-! DEFINITION. The Peat journal at work: counters and leases, committing a record and acting on it, the event log,
compaction, power-fail warning, mount and format (14 R347 to R376). -/

namespace Sys2Proof.Machine

/-! ### Counters (R357, R358) -/

/-- The counter index that a NEXT_COUNT of a tenant names. -/
def Order.counterIdx (o : Order) (t : TenantId) : Nat := 4 * t.val + field (o.p 0) 0 2
/-- COUNT of a NEXT_COUNT. -/
def Order.count (o : Order) : Nat := field (o.p 0) 8 9

/-- Have the next lease of a counter committed, unless one is on its way (R358). -/
def State.wantLease (s : State) (i : Nat) : State :=
  if (s.counter i).pending then s
  else (s.modCounter i (fun c => { c with pending := true })).wantItem peatTask .leaseCommit i

/-- Fewer than a quarter of LEASE_SIZE of a counter's values remain. -/
def State.leaseLow (s : State) (i : Nat) : Bool :=
  decide (((s.counter i).limit - (s.counter i).next) * 4 < s.peatSec.lease)

/-- The COUNTER_VALUE event (05 Table 5.5). -/
def countEv (c first n : Nat) (cookie : Word) : Ev :=
  { type := 7, status := some .success, target := BitVec.ofNat 16 c, w1 := BitVec.ofNat 64 first, bytes := BitVec.ofNat 32 n,
    detail := cookie.setWidth 32 }

/-- An earlier order of the ring that names the same counter still waits: values go out in ring order (R358). -/
def State.countBehind (s : State) (t : TenantId) (k : Nat) (o : Order) : Bool :=
  ((s.rings (.vf t)).orders.takeWhile (fun x => x.k ≠ k)).any (fun x =>
    x.code = 0x0A && x.stage = .waiting && x.counterIdx t = o.counterIdx t)

/-- Assign a NEXT_COUNT its values, or let it wait for a lease, for an earlier order, or for the end of power-fail handling (R358,
R360). -/
def State.assignCount (s : State) (t : TenantId) (k : Nat) (o : Order) : State :=
  let i := o.counterIdx t
  let c := s.counter i
  if s.peat.powerFail || s.countBehind t k o then s.waitOrder (.vf t) k
  else if c.next + o.count ≤ c.limit then
    let s := s.modCounter i (fun c => { c with next := c.next + o.count,
                                               given := c.given || decide (c.start % 2 ^ 56 < c.next + o.count) })
    let s := s.endOrderEv (.vf t) k (fun o => countEv (field (o.p 0) 0 2) (s.withEpoch c.next) o.count (o.w 1))
    if s.leaseLow i then s.wantLease i else s
  else (s.waitOrder (.vf t) k).wantLease i

/-- The first check of R358 that fails: the status and detail. -/
def State.countChecks (s : State) (t : TenantId) (o : Order) : Option (Status × Nat) :=
  if o.count = 0 || 256 < o.count then some (.badDescriptor, 0)
  else if s.peatSec.counters ≤ field (o.p 0) 0 2 then some (.notPermitted, 11)
  else if !s.peatUp then some (.peatUnavailable, 0)
  else if s.fuses.epoch = 255 then some (.epochExhausted, 0)
  else if 2 ^ 56 < (s.counter (o.counterIdx t)).next + o.count then some (.epochExhausted, 1)
  else none

/-- NEXT_COUNT (R358, 05 R135). -/
def execNextCount (t : TenantId) (k : Nat) (s : State) : Host.Outcome State Fault Refusal :=
  .next (s.withOrder (.vf t) k 0x0A (fun o =>
    match s.countChecks t o with
    | some (st, d) => s.endOrder (.vf t) k st 0 0 d
    | none => s.assignCount t k o))

/-- NEXT_COUNT orders of a tenant that wait try again, in ring order. -/
def State.resumeCounts (s : State) (t : TenantId) : State :=
  ((s.rings (.vf t)).orders.filter (fun o => o.code = 0x0A && o.stage = .waiting)).foldl
    (fun a o => a.assignCount t o.k o) s

/-- LEASE_COMMIT (R357, R358): the item queues the record of the counter's next lease, where the last one ends. -/
def execLeaseCommit (t : TenantId) (c : Fin 4) (s : State) : Host.Outcome State Fault Refusal :=
  let i := 4 * t.val + c.val
  match s.itemCore .leaseCommit i with
  | some u => .next ((s.queueRec { body := .lease [(i, s.withEpoch (s.counter i).limit, s.peatSec.lease)] }).endItem u
      .leaseCommit false)
  | none => .next s

/-! ### Tables that records name -/

/-- Add an event to the retained ones, in ascending INDEX, each once; only the newest n are kept (R370). -/
def insertEv (e : LogEv) : List LogEv → List LogEv
  | [] => [e]
  | x :: l => if e.index < x.index then e :: x :: l else if e.index = x.index then x :: l else x :: insertEv e l

def PeatSt.keepEvents (p : PeatSt) (n : Nat) (l : List LogEv) : PeatSt :=
  let all := l.foldl (fun a e => insertEv e a) p.events
  let all := all.drop (all.length - n)
  { p with events := all, logFirst := match all with | e :: _ => e.index | [] => p.logFirst }

/-- Hold a pin written by a record; the pin evicted, if any (R364). -/
def PeatSt.addPin (p : PeatSt) (seq : Nat) (i : Identity) (v : BitVec 256) : Option Identity × PeatSt :=
  let rest := p.pins.filter (fun e => e.2.1 ≠ i)
  if 2048 ≤ rest.length then
    let low := (rest.map (fun e => e.1)).foldl Nat.min seq
    let old := rest.find? (fun e => e.1 = low)
    (old.map (fun e => e.2.1), { p with pins := (match old with | some e => rest.erase e | none => rest) ++ [(seq, i, v)] })
  else (none, { p with pins := rest ++ [(seq, i, v)] })

/-- Hold a quarantine; the one evicted, if any. -/
def PeatSt.addQuar (p : PeatSt) (seq : Nat) (i : Identity) : Option Identity × PeatSt :=
  let rest := p.quars.filter (fun e => e.2 ≠ i)
  if 512 ≤ rest.length then
    let low := (rest.map (fun e => e.1)).foldl Nat.min seq
    let old := rest.find? (fun e => e.1 = low)
    (old.map (fun e => e.2), { p with quars := (match old with | some e => rest.erase e | none => rest) ++ [(seq, i)] })
  else (none, { p with quars := rest ++ [(seq, i)] })

def PeatSt.dropQuar (p : PeatSt) (i : Identity) : PeatSt := { p with quars := p.quars.filter (fun e => e.2 ≠ i) }

/-- A sector is retired (R369). -/
def PeatSt.retire (p : PeatSt) (i : Nat) : PeatSt := p.modSector i (fun x => { x with retired := true })

/-- Retire a sector with its record and its log event: 1 erase failure, 2 program failures. -/
def State.retireSector (s : State) (i why : Nat) : State :=
  let s := ({ s with peat := s.peat.retire i } : State).queueRec { body := .retire [i] }
  s.logEvent 0x10 none none (BitVec.ofNat 256 (i + why * 2 ^ 32))

/-! ### Committing a record (R351) -/

/-- The record that is written next: HIGH_WATER alone during power-fail handling (R360), checkpoint records alone once
15,808 slots were used since the last checkpoint ended (R367), else the oldest. -/
def State.nextRec (s : State) : Option QRec :=
  let p := s.peat
  if !s.peatWrites then none
  else if p.powerFail then p.queue.find? (fun q => !q.ckpt && (match q.body with | .highWater _ => true | _ => false))
  else if p.ckptOpen.isSome && 15808 ≤ p.sinceCkpt then p.queue.find? (fun q => q.ckpt)
  else p.queue.head?

/-- What a LIFETIME record holds: the counts with their increases, and the tamper latch absorbed (R365, R366). -/
def State.lifetimeNow (s : State) (d : LifeRec) : LifeRec :=
  let l := s.peat.life
  let top := 2 ^ 32 - 1
  { mounts := satAdd l.mounts d.mounts top, watchdogs := satAdd l.watchdogs d.watchdogs top,
    pwrfails := satAdd l.pwrfails d.pwrfails top, tampers := satAdd l.tampers s.peat.tamperPend.toNat top,
    tamperGen := s.peat.tamperGen }

/-- The body that goes into the page; an affirmed copy is unchanged (R355). -/
def State.pageBody (s : State) (q : QRec) : RecBody :=
  match q.body with
  | .lifetime d => if q.link = 0 then .lifetime (s.lifetimeNow d) else q.body
  | b => b

/-- A LIFETIME record has committed: the latch clears and its generation rises; a count absorbed is logged (R366). -/
def State.actLifetime (s : State) (l : LifeRec) : State :=
  let n := s.peat.tamperPend.toNat
  let inputs := s.peat.tamperInputs.toNat
  let s : State := { s with peat := { s.peat with life := l, tamperPend := 0, tamperInputs := 0,
                                                  tamperGen := (s.peat.tamperGen + 1) % 65536 } }
  if n = 0 then s else s.logEvent 0x0A none none (BitVec.ofNat 256 (inputs + n * 2 ^ 16 + l.tampers * 2 ^ 64))

/-- A lease has committed: its values can be given out (R357). -/
def State.actLease (s : State) (e : Nat × Nat × Nat) : State :=
  let (i, start, size) := e
  (s.modCounter i (fun c => { c with limit := start % 2 ^ 56 + size, pending := false, given := false, start := start,
                                     size := size, water := none })).resumeCounts ⟨i / 4 % 256, Nat.mod_lt _ (by decide)⟩

/-- A pin has committed. -/
def State.actPin (s : State) (seq : Nat) (e : Identity × BitVec 256) : State :=
  let old := s.pinOf e.1
  let (out, p) := s.peat.addPin seq e.1 e.2
  let s : State := { s with peat := p }
  let s := match out with | some i => s.logEvent 0x0E none none i.serial | none => s
  s.pinCommitted e.1 old e.2

/-- A quarantine or its cancellation has committed. -/
def State.actQuar (s : State) (seq : Nat) (e : Identity × Bool) : State :=
  if e.2 then ({ s with peat := s.peat.dropQuar e.1 } : State).logEvent 9 none none e.1.serial
  else
    let (out, p) := s.peat.addQuar seq e.1
    let s : State := { s with peat := p }
    let s := match out with | some i => s.logEvent 0x0F none none i.serial | none => s
    s.quarantine e.1

/-- Act on a record that has committed (R351 step 6). Checkpoint records and affirmed copies restate what is in force. -/
def State.actRecord (s : State) (q : QRec) (seq : Nat) (b : RecBody) : State :=
  match b with
  | .ckptBegin =>
    if q.link ≠ 0 then s
    else s.checkpointRecs.foldl State.queueRec { s with peat := { s.peat with ckptOpen := some seq } }
  | .ckptEnd _ =>
    if q.ckpt then
      { s with peat := { s.peat with ckpt := s.peat.ckptOpen.getD 0, ckptOpen := none, sinceCkpt := 0, ckptTime := s.time.now } }
    else s
  | .lifetime l => if q.link = 0 then s.actLifetime l else s
  | _ =>
    if q.ckpt || q.link ≠ 0 then s
    else match b with
      | .lease l => l.foldl State.actLease s
      | .highWater l => l.foldl (fun a e => a.modCounter e.1 (fun c => { c with water := some e.2 })) s
      | .log l => { s with peat := s.peat.keepEvents s.logKeep l }
      | .pin l => l.foldl (fun a e => a.actPin seq e) s
      | .quarantine l => (l.foldl (fun a e => a.actQuar seq e) s).clearsCommitted
      | .epoch e c => s.logEvent 0x0D none none (BitVec.ofNat 256 (e + c * 256))
      | _ => s

/-- The slot is left torn: its page was programmed and its commit word was not, or a program failed; the third failure of a pass retires
the sector (R351, R369). -/
def State.tornSlot (s : State) (i : Nat) (failed : Bool) : State :=
  let p := (s.peat.program i { commit := .mixed, page := .bad }).modSector i (fun x => { x with fails := if failed then x.fails + 1 else x.fails })
  let n := match p.sector? i with | some x => x.fails | none => 0
  let s : State := { s with peat := { p with torn := satAdd p.torn 1 65535 } }
  if failed && n = 3 then s.retireSector i 2 else s

/-- The horizon rises to a SEQ, with its MAC (R361). -/
def PeatSt.setHorizon (p : PeatSt) (seq : Nat) : PeatSt := { p with horizon := seq, horizonMac := Sys2Proof.Machine.horizonMac seq, horizonOk := true }

/-- The record that a queued one becomes at a SEQ (R350). -/
def State.recordOf (s : State) (seq : Nat) (q : QRec) : PRec :=
  { epoch := s.fuses.epoch, seq := seq, body := s.pageBody q, link := if q.ckpt then s.peat.ckptOpen.getD 0 else q.link }

/-- Step 1 of R351: the record page is programmed into the next slot of a sector. -/
def State.programPage (s : State) (i seq : Nat) (q : QRec) : State := s.emitPage i (s.peat.nextSlot i) (s.recordOf seq q)

/-- A record commits in a slot of a sector with a SEQ. While a format runs, the horizon waits for its end (R371). -/
def State.commitOk (s : State) (i seq : Nat) (q : QRec) : State :=
  let r := s.recordOf seq q
  let s := s.emitCommit i (s.peat.nextSlot i)
  let p := s.peat.program i { commit := .zeros, page := .holds r }
  let p := { p with seq := seq, queue := p.queue.erase q }
  let p := if p.formatting then p else p.setHorizon seq
  ({ s with peat := p } : State).actRecord q seq r.body

/-- The header of a sector being opened leaves. -/
def State.emitHeader (s : State) (i : Nat) : State :=
  match s.peat.sector? i with
  | some x => s.emitOut (.flash (s.sectorBase i) (x.header s.peat.sectorLog2))
  | none => s

/-- The header does not read back: the sector is dirty, and the record takes the next one (R352, Table 14.7). -/
def State.badHeader (s : State) (i : Nat) : State :=
  { s with peat := (s.peat.modSector i (fun x => { x with seq := none, dirty := true })).eraseDirty }

/-- Write the record whose turn it is, in a sector opened for it where the head is full. -/
def State.commitNext (s : State) (r : ProgramEnd) : State :=
  match s.nextRec, s.peat.openHead s.fuses.epoch with
  | some q, some (i, opened, p) =>
    let s0 : State := { s with peat := p }
    let s0 := if opened then s0.emitHeader i else s0
    let s1 : State := { s0 with peat := { p with nextSeq := p.nextSeq + 1 } }
    (match r with
     | .ok => (s1.programPage i p.nextSeq q).commitOk i p.nextSeq q
     | .mismatch => (s1.programPage i p.nextSeq q).tornSlot i false
     | .failed => (s1.programPage i p.nextSeq q).tornSlot i true
     | .header => if opened then s0.badHeader i else s).peatUpkeep.updateDegraded
  | _, _ => s

/-- RECORD_COMMIT (R351). -/
def execRecordCommit (r : ProgramEnd) (s : State) : Host.Outcome State Fault Refusal := .next (s.commitNext r)

/-- CHECKPOINT_TIMER (R367): 720 hours of Keeper time in which no checkpoint has ended. -/
def execCheckpointTimer (s : State) : Host.Outcome State Fault Refusal :=
  .next (if s.peatUp && s.peat.ckptTime + 720 * 3600 * 10 ^ 9 ≤ s.time.now then s.beginCheckpoint else s)

/-! ### The event log (R372, R373) -/

/-- How many waiting events the next LOG record takes: at most three, a PIN_OLD never apart from its PIN_NEW. -/
def logTake (l : List LogEv) : Nat :=
  match l with
  | _ :: _ :: c :: _ => if c.code = 6 then 2 else 3
  | _ => l.length

/-- Queue one LOG record of waiting events. -/
def State.writeLog (s : State) : State :=
  let n := logTake s.peat.waiting
  if n = 0 || !s.peatWrites then s
  else
    let l := s.peat.waiting.take n
    ({ s with peat := { s.peat with waiting := s.peat.waiting.drop n } } : State).queueRec { body := .log l }

/-- LOG_WRITE (R372). -/
def execLogWrite (s : State) : Host.Outcome State Fault Refusal :=
  match s.itemCore .logWrite with
  | some c =>
    let s := (s.writeLog).endItem c .logWrite false
    .next (if 3 ≤ s.peat.waiting.length then s.wantItem peatTask .logWrite else s)
  | none => .next s

/-- LOG_FLUSH_TIMER (R372): the oldest waiting event is 100 ms old. -/
def execLogFlushTimer (s : State) : Host.Outcome State Fault Refusal :=
  .next (if s.peat.waiting.isEmpty || !s.peatWrites then s else s.wantItem peatTask .logWrite)

/-- Retained events, in ascending INDEX: those in flash, those on their way to it and those that wait. -/
def State.retained (s : State) : List LogEv :=
  let onWay := s.peat.queue.flatMap (fun q => match q.body with | .log l => l | _ => [])
  ((onWay ++ s.peat.waiting).foldl (fun a e => insertEv e a) s.peat.events).filter (fun e => s.peat.logFirst ≤ e.index)

/-- PEAT_EXPORT (R373). -/
def execPeatExport (k : Nat) (s : State) : Host.Outcome State Fault Refusal :=
  .next (s.withOrder .pf0 k 0x4B (fun o =>
    let max := field (o.p 1) 0 16
    let from_ := (o.p 2).toNat
    if max = 0 || 1024 < max then s.endOrder .pf0 k .badDescriptor 0 0 0
    else if s.peat.state = .absent then s.endOrder .pf0 k .peatUnavailable 0 0 0
    else
      let l := (s.retained.filter (fun e => from_ ≤ e.index)).take max
      if !l.isEmpty && !s.canSend .pf0 then s.endOrder .pf0 k .dmaFault 0 0 0
      else
      let s := if l.isEmpty then s else s.postData .pf0 (o.p 0) (l.flatMap LogEv.words)
      s.endOrder .pf0 k .success 0 (64 * l.length) (Nat.min (s.peat.logFirst - from_) (2 ^ 32 - 1))))

/-! ### Compaction (R368, R369) -/

/-- The committed records of a sector, in slot order. -/
def Sector.records (x : Sector) (fused : Nat) : List PRec :=
  x.slots.filterMap (fun y => match y.cls fused with | .committed r => some r | _ => none)

/-- Events of a sector that are still retained. -/
def State.sectorEvents (s : State) (x : Sector) : List LogEv :=
  ((x.records s.fuses.epoch).flatMap (fun r => match r.body with | .log l => l | _ => [])).filter (fun e =>
    s.peat.logFirst ≤ e.index)

/-- A sector holds a record at or above the newest complete checkpoint's BEGIN. -/
def State.holdsLive (s : State) (x : Sector) : Bool := (x.records s.fuses.epoch).any (fun r => decide (s.peat.ckpt ≤ r.seq))

/-- Copies of a sector's events wait to be written. -/
def State.copiesWait (s : State) (x : Sector) : Bool :=
  s.peat.queue.any (fun q => match q.body with
    | .log l => l.any (fun e => (s.sectorEvents x).any (fun y => y.index = e.index))
    | _ => false)

/-- One step of compaction on the tail (R368): a checkpoint first where the tail needs one, then its retained events copied
forward, then its erase. A retired tail leaves the circle unerased, and a sector with a record that has decayed is retired instead
(Table 14.7); the event code of SECTOR_RETIRED for it is the program failures' (DESIGN CHOICE, notes/assumptions/117.md). -/
def State.compactStep (s : State) : State :=
  match s.peat.tail with
  | none => s
  | some x =>
    if s.peat.erasing.isSome || (match s.peat.head with | some y => y.idx = x.idx | none => true) then s
    else if s.holdsLive x then s.beginCheckpoint
    else if s.peat.copied ≠ some x.idx then
      (chunks 3 256 (s.sectorEvents x)).foldl (fun a l => a.queueRec { body := .log l })
        { s with peat := { s.peat with copied := some x.idx } }
    else if s.copiesWait x then s
    else
    let s := if !x.retired && x.slots.any Slot.decayed then s.retireSector x.idx 2 else s
    if x.retired || x.slots.any Slot.decayed then
      { s with peat := { (s.peat.modSector x.idx (fun y => { y with left := true })) with copied := none } }
    else { s with peat := { s.peat with erasing := some x.idx } }

/-- COMPACT_STEP (R368): the steps go on while free space is low, at once where none waits for a write or an erase. -/
def execCompactStep (s : State) : Host.Outcome State Fault Refusal :=
  match s.itemCore .compactStep with
  | some c =>
    let s := (if s.peatUp && !s.peat.powerFail then s.compactStep else s).endItem c .compactStep false
    .next (if s.peat.queue.isEmpty && s.peat.erasing.isNone then s.peatUpkeep else s)
  | none => .next s

/-- FLASH_ERASE_DONE (R368, R369): the sector is erased and free, or its erase failed and retires it. An image-slot erase ends
inside its IMAGE_WRITE. -/
def execFlashEraseDone (ok : Bool) (s : State) : Host.Outcome State Fault Refusal :=
  match s.peat.erasing with
  | none => .next s
  | some i =>
    let clean := fun (x : Sector) => { x with seq := none, slots := [], fails := 0, dirty := false, erases := x.erases + 1 }
    let s1 : State := { s with peat := { (s.peat.modSector i (fun x => if ok then clean x else x)) with
                                         erasing := none, copied := none } }
    let s2 := if ok then s1 else s1.retireSector i 1
    .next ({ s2 with peat := s2.peat.eraseDirty } : State).peatUpkeep.updateDegraded

/-! ### Losing the journal (R374, R375) -/

/-- Peat stops serving: what waits for it ends, pending writes are dropped and their events counted. -/
def State.peatLost (s : State) (st : PeatState) (why : PeatReason) : State :=
  let lost := s.peat.waiting.length + (s.peat.queue.map (fun q => match q.body with | .log l => l.length | _ => 0)).sum
  let s : State := { s with peat := { s.peat with
    queue := [], waiting := [], dropped := satAdd s.peat.dropped lost 65535, erasing := none, copied := none,
    ckptOpen := none, formatting := false, compacting := false } }
  let s := s.setPeat st why
  let s := (allFin 256).foldl (fun (a : State) t =>
    a.endWhere (.vf t) (fun o => o.code = 0x0A) (fun o => o.doneEv .peatUnavailable 0 0 0)) s
  let s := s.endWhere .pf0 (fun o => o.code = 0x4A) (fun o => o.doneEv .peatUnavailable 0 0 0)
  (s.seals.hs.filter (fun x => x.step = .commit)).foldl (fun a x => a.failSeal x.t x.h 8) s

/-- FLASH_NO_ANSWER (R374). -/
def execFlashNoAnswer (s : State) : Host.Outcome State Fault Refusal :=
  .next (if s.peatUp then s.peatLost .absent .noFlash else s)

/-! ### Power-fail warning (R360) -/

/-- Counters that qualify for a HIGH_WATER entry, the largest distance to the end of their newest lease first. -/
def State.waterOrder (s : State) : List (Nat × Nat) :=
  let l := (List.range 1024).filter (fun i => (s.counter i).given)
  let dist := fun (i : Nat) => (s.counter i).limit - (s.counter i).next
  let byDist := l.foldl (fun (a : List Nat) i =>
    a.takeWhile (fun j => dist i ≤ dist j) ++ [i] ++ a.dropWhile (fun j => dist i ≤ dist j)) []
  byDist.map (fun i => (i, s.withEpoch (s.counter i).next))

/-- Records that can be started within the hold-up: 2 × tPP + 100 us must remain. -/
def waterFits (h tpp : Nat) (starts : List Nat) : Nat :=
  (starts.takeWhile (fun x => x + 2 * tpp + 100 ≤ h)).length

/-- PWRFAIL_N falls (R360, R365): `tpp` is the flash's page-program time and `starts` the time after the warning, in us, at
which each record could be started. -/
def State.pwrfailFall (s : State) (tpp : Nat) (starts : List Nat) : State :=
  if !s.pins.pwrfailN then s
  else
    let h := match s.img.image with | some i => i.glob.holdupUs | none => 0
    let s : State := { s with pins := { s.pins with pwrfailN := false },
                              peat := { s.peat with powerFail := true, formatting := false } }
    if s.peatUp then
      let recs := ((chunks 16 64 s.waterOrder).take (waterFits h tpp starts)).map (fun l => ({ body := .highWater l } : QRec))
      { s with peat := { s.peat with queue := recs ++ s.peat.queue ++ [{ body := .lifetime { pwrfails := 1 } }] } }
    else s

/-- PWRFAIL_N_RISE (R360): assignment resumes at the same values, and the queued writes proceed. -/
def execPwrfailNRise (s : State) : Host.Outcome State Fault Refusal :=
  if s.pins.pwrfailN then .next s
  else
    let s : State := { s with
      pins := { s.pins with pwrfailN := true },
      peat := { s.peat with powerFail := false, queue := s.peat.queue.filter (fun q =>
        q.ckpt || (match q.body with | .highWater _ => false | _ => true)) } }
    .next ((allFin 256).foldl State.resumeCounts s)

/-! ### Reading the journal back (R353, R354, R359) -/

/-- The usable sectors with a header, in SECTOR_SEQ order. -/
def PeatSt.written (p : PeatSt) : List Sector :=
  p.sectors.foldl (fun (a : List Sector) x =>
    if x.seq.isNone then a
    else a.takeWhile (fun y => y.seq.getD 0 ≤ x.seq.getD 0) ++ [x] ++ a.dropWhile (fun y => y.seq.getD 0 ≤ x.seq.getD 0)) []

/-- The committed records of the journal, in slot order: their EPOCH is at most the fused epoch. -/
def State.committed (s : State) : List PRec :=
  s.peat.written.flatMap (fun x => x.records s.fuses.epoch)

/-- Some slot is EPOCH_AHEAD. -/
def State.epochAhead (s : State) : Bool :=
  s.peat.written.any (fun x => x.slots.any (fun y => y.cls s.fuses.epoch = .epochAhead))

/-- SEQs of the journal's CKPT_BEGIN records. -/
def begins (l : List PRec) : List Nat := (l.filter (fun r => r.body = .ckptBegin)).map (fun r => r.seq)

/-- A record is a checkpoint's: its LINK names a CKPT_BEGIN. -/
def PRec.ofCkpt (r : PRec) (b : List Nat) : Bool := r.body ≠ .ckptBegin && r.link ≠ 0 && b.contains r.link

/-- The newest complete checkpoint (R354). -/
def State.foundCkpt (s : State) : Nat :=
  match s.peat.head with
  | none => 0
  | some x =>
    let b := begins s.committed
    let ends := (x.records s.fuses.epoch).filter (fun r =>
      (match r.body with | .ckptEnd _ => true | _ => false) && b.contains r.link)
    match ends.getLast? with | some r => r.link | none => x.ckpt

/-- Apply one record to the tables (R354, R359). -/
def State.applyRec (s : State) (r : PRec) : State :=
  match r.body with
  | .lease l => l.foldl (fun a e => a.modCounter e.1 (fun c => { c with start := e.2.1, size := e.2.2, water := none })) s
  | .highWater l => l.foldl (fun a e => a.modCounter e.1 (fun c => { c with water := some e.2 })) s
  | .pin l => { s with peat := l.foldl (fun p e => (p.addPin r.seq e.1 e.2).2) s.peat }
  | .quarantine l => { s with peat := l.foldl (fun p e => if e.2 then p.dropQuar e.1 else (p.addQuar r.seq e.1).2) s.peat }
  | .lifetime x => { s with peat := { s.peat with life := x } }
  | .retire l => { s with peat := l.foldl PeatSt.retire s.peat }
  | _ => s

/-- The resume point R of a counter (R359). -/
def Counter.resume (c : Counter) : Nat :=
  match c.water with | some n => n % 2 ^ 56 | none => if c.size = 0 then 0 else c.start % 2 ^ 56 + c.size

/-- Every counter restarts at its resume point, without a lease. -/
def State.resumeAll (s : State) : State :=
  { s with tenants := s.tenants.map (fun (x : Tenant) => { x with counters := x.counters.map (fun (c : Counter) =>
      { c with next := c.resume, limit := c.resume, pending := false, given := false }) }) }

/-- The sectors as the scan finds them: those listed that the region has and that are not erased, none retired until a record says so; an
erased or dirty sector's count is the highest of any header and one more (Table 14.7; 0 where no sector has a header). -/
def PeatSt.scanned (p : PeatSt) : PeatSt :=
  let heads := (p.sectors.filter (fun x => x.seq.isSome)).map (fun x => x.erases + 1)
  let free := heads.foldl Nat.max 0
  { p with freeErases := free,
           sectors := (p.sectors.filter (fun x => x.idx < p.usable && (x.seq.isSome || x.dirty || !x.slots.isEmpty))).map (fun x =>
             { x with dirty := x.seq.isNone, erases := if x.seq.isSome then x.erases else free, fails := 0, retired := false,
                      left := false }) }

/-- A slot holds the committed CKPT_END of the checkpoint that began at a SEQ. -/
def Slot.endsCkpt (x : Slot) (fused ck : Nat) : Bool :=
  match x.cls fused with
  | .committed r => r.link = ck && (match r.body with | .ckptEnd _ => true | _ => false)
  | _ => false

/-- The slots used since the CKPT_END of a checkpoint, of any class; all of them where none is found (R367). -/
def State.slotsSince (s : State) (ck : Nat) : Nat :=
  let l := s.peat.written.flatMap (fun x => x.slots)
  match l.findIdx? (fun x => ck ≠ 0 && x.endsCkpt s.fuses.epoch ck) with
  | some k => l.length - (k + 1)
  | none => l.length

/-- Read the journal: the newest complete checkpoint, then every later record; the event log from every LOG record. -/
def State.readJournal (s : State) : State :=
  let all := s.committed
  let b := begins all
  let ck := s.foundCkpt
  let s : State := { s with
    tenants := s.tenants.map (fun (x : Tenant) => { x with counters := Vector.replicate 4 {} }),
    peat := { s.peat with pins := [], quars := [], life := {}, events := [], logFirst := 0, ckpt := ck,
                          torn := satAdd s.peat.torn ((s.peat.written.map (fun x =>
                            (x.slots.filter (fun y => y.cls s.fuses.epoch = .torn)).length)).sum) 65535 } }
  let recs := all.filter (fun r => r.ofCkpt b && r.link = ck) ++ all.filter (fun r => ck < r.seq && !(r.ofCkpt b))
  let s := (recs.foldl State.applyRec s).resumeAll
  let evs := all.flatMap (fun r => match r.body with | .log l => l | _ => [])
  let s : State := { s with peat := s.peat.keepEvents s.logKeep evs }
  let next := match s.peat.events.getLast? with | some e => e.index + 1 | none => 0
  let h := (all.map (fun r => r.seq)).foldl Nat.max 0
  { s with peat := { s.peat with seq := h, nextSeq := h + 1, logNext := next,
                                 logFirst := if s.peat.events.isEmpty then next else s.peat.logFirst,
                                 sinceCkpt := s.slotsSince ck } }

/-! ### Mount (R355, R363) -/

/-- The epoch advances by one fuse bit, none once it is 255; false when the bit does not blow (R362). -/
def State.advanceEpoch (s : State) (fuseOk : Bool) : Option State :=
  if s.fuses.epoch = 255 then some s
  else if fuseOk then some { s with fuses := { s.fuses with epoch := s.fuses.epoch + 1 } }
  else none

/-- The latch of a generation already absorbed is cleared without counting (R366). -/
def State.dropAbsorbed (s : State) : State :=
  if s.peat.life.mounts ≠ 0 && s.peat.life.tamperGen = s.peat.tamperGen then
    { s with peat := { s.peat with tamperPend := 0, tamperInputs := 0 } }
  else s

/-- The rest of the mount writes: LIFETIME with MOUNTS and the resets, then the queued events with the reset cause (R51,
R355). -/
def State.mountWrites (s : State) : State :=
  let s := s.queueRec { body := .lifetime { mounts := 1, watchdogs := b2n (s.img.cause.getLsbD 2) } }
  let s := s.logEvent 1 none none (BitVec.ofNat 256 s.img.cause.toNat)
  ((List.range 128).foldl (fun a _ => a.writeLog) s)

/-- Mounted, or DEGRADED under a condition of R369; dirty sectors are erased from here on. -/
def State.setMounted (s : State) : State :=
  let s : State := { s with peat := { s.peat.eraseDirty with ckptTime := s.time.now } }
  match s.degradedWhy with
  | some w => s.setPeat .degraded w
  | none => s.setPeat .mounted .none

/-- The journal holds a CKPT_BEGIN above the newest complete checkpoint: it was cut short (Table 14.7). -/
def State.ckptCut (s : State) : Bool :=
  s.committed.any (fun r => r.body = .ckptBegin && r.link = 0 && decide (s.peat.ckpt < r.seq))

/-- A journal with a valid superblock is read and mounted as Table 14.9a states. After the mount writes a new checkpoint begins where one
was cut short. -/
def State.mountJournal (s : State) (fuseOk : Bool) : State :=
  let s := ({ s with peat := s.peat.scanned } : State).readJournal
  if s.epochAhead then s.setPeat .locked .epochMismatch
  else if s.peat.horizonOk then
    if s.peat.seq < s.peat.horizon then s.setPeat .locked .rollback
    else
      let above := s.committed.filter (fun r => s.peat.horizon < r.seq)
      let s := s.dropAbsorbed.setMounted
      let t := (above.foldl (fun a r => a.queueRec { body := r.body, link := r.seq }) s).mountWrites
      if s.ckptCut then t.beginCheckpoint else t
  else match s.advanceEpoch fuseOk with
    | none => s.setPeat .locked .fuseFail
    | some s =>
      let s := s.dropAbsorbed.setMounted
      ((s.queueRec { body := .epoch s.fuses.epoch 1 }).beginCheckpoint).mountWrites

/-- The region's bytes: from its offset to the end of the device, capped (R347, R58). -/
def regionBytes (sel : Bool) (d : SfdpInfo) : Nat :=
  let n := if sel then d.bytes - 2 ^ 24 else d.bytes
  Nat.min n (if d.erase64k then 2 ^ 29 else 2 ^ 25)

/-- The region's geometry, as SFDP gives it until a superblock holds it (R348). -/
def PeatSt.geometry (p : PeatSt) (d : SfdpInfo) (n : Nat) : PeatSt :=
  match (PeatFlash.mk p.copies p.sectors).super with
  | some b => { p with sectorLog2 := b.sectorLog2, usable := b.sectors, params := b.params }
  | none =>
    let l := if d.erase64k then 16 else 12
    { p with sectorLog2 := l, usable := n / 2 ^ l - 2 }

/-- The flash holds something else than the block left in it: another device, an older copy, bits that decayed, a program or an erase cut
by a loss of power (Table 14.7). -/
def PeatSt.find (p : PeatSt) : Option PeatFlash → PeatSt
  | none => p
  | some f => { p with copies := f.copies, sectors := f.sectors }

/-- The mount itself, on the device that holds the region. -/
def State.mount (s : State) (d : SfdpInfo) (fuseOk : Bool) : State :=
  let n := regionBytes s.pins.peatSel d
  if !d.readable || n < 2 ^ 24 then s.setPeat .absent .noFlash
  else
    let s : State := { s with peat := s.peat.geometry d n }
    if s.peat.formatted then s.mountJournal fuseOk
    else if s.peat.horizonOk then s.setPeat .locked .rollback
    else s.setPeat .absent .unformatted

/-- PEAT_MOUNT (R354, R57): both devices are trained, Peat is mounted from the one that holds it, and IMAGE_SELECT follows. A chip select
whose SFDP cannot be read counts as one without a device and sets no XSPI_FALLBACK (DESIGN CHOICE, notes/assumptions/101.md). -/
def execPeatMount (cs0 cs1 : SfdpInfo) (m : MountRead) (scanUs : Nat) (s : State) : Host.Outcome State Fault Refusal :=
  match s.itemCore .peatMount with
  | none => .next s
  | some c =>
    let slow := fun (d : SfdpInfo) => d.readable && !d.octal
    let s : State := { s with pins := { s.pins with xspiRstN := true },
                              img := { s.img with fallback := slow cs0 || slow cs1, step := 4 },
                              peat := { s.peat.find m.found with scanUs := scanUs } }
    let s := s.mount (if s.pins.peatSel then cs0 else cs1) m.fuseOk
    let s : State := { s with svc := { s.svc with cursor := s.peat.logFirst } }
    .next ((s.endItem c .peatMount (!s.peatUp)).addItem powerTask .imageSelect)

/-! ### Format (R371) -/

/-- Commit queued records one after another. -/
def State.commitAll : Nat → State → State
  | 0, s => s
  | k + 1, s => if s.peat.queue.isEmpty then s else State.commitAll k (s.commitNext .ok)

/-- PEAT_FORMAT (R371): superblocks, epoch, EPOCH, LIFETIME and checkpoint records, then the horizon; `ok` is false when an
erase or a program of the format failed. -/
def execPeatFormat (ok : Bool) (fuseOk : Bool) (s : State) : Host.Outcome State Fault Refusal :=
  if !s.peat.formatting || s.peat.powerFail then .next s
  else if !ok then .next (s.peatLost .absent .noFlash)
  else
    let (n, s) := s.drawRandom
    let sb : Superblock := { sectorLog2 := s.peat.sectorLog2, epoch := Nat.min (s.fuses.epoch + 1) 255, sectors := s.peat.usable,
                             nonce := n.setWidth 64, params := s.peatSec }
    let s : State := { s with peat := { s.peat.scanned with copies := Vector.replicate 2 (some sb), params := s.peatSec } }
    let s := [0, 1].foldl (fun (a : State) i => a.emitOut (.flash (a.peatBase + i * 2 ^ a.peat.sectorLog2) sb.bytes)) s
    let s : State := { s with peat := { s.peat with
      sectors := s.peat.sectors.map (fun (x : Sector) => { x with seq := none, slots := [], dirty := true }), seq := 0, nextSeq := 1,
      sinceCkpt := 0, ckpt := 0, ckptOpen := none } }
    match s.advanceEpoch fuseOk with
    | none => .next (s.peatLost .locked .fuseFail)
    | some s =>
      let s : State := { s with peat := { s.peat with
        queue := [{ body := .epoch s.fuses.epoch 2 }, { body := .lifetime {} }, { body := .ckptBegin }] } }
      let s := State.commitAll 2048 s
      .next (({ s with peat := { s.peat.setHorizon s.peat.seq with formatting := false } } : State)
        |>.setMounted)

/-! ### Registers -/

/-- PEAT_STATUS. -/
def State.peatStatusView (s : State) : Word :=
  let p := s.peat
  pack [(s.fuses.epoch % 256 * b2n s.img.fusesRead, 40), (p.freePct, 24), (b2n p.horizonOk, 11), (b2n p.powerFail, 10),
        (b2n p.ckptBusy, 9), (b2n p.compacting, 8), (p.reason.code, 4), (p.state.code, 0)]

/-- PEAT_GEOMETRY. -/
def State.peatGeometryView (s : State) : Word :=
  let p := s.peat
  if p.reason = .notMounted && p.state = .absent then 0
  else pack [(p.sectorLog2, 48), (p.retiredCount, 32), (p.usable % 65536, 16), (b2n (!s.pins.peatSel), 0)]

/-- PEAT_WEAR: sectors that are not listed are erased and have no header. -/
def PeatSt.wearView (p : PeatSt) : Word :=
  let all := p.sectors.map (fun x => x.erases)
  let good := (p.sectors.filter (fun x => !x.retired)).map (fun x => x.erases)
  let rest := if p.sectors.length < p.usable then [p.freeErases] else []
  let low := match rest ++ good with | [] => 0 | x :: l => l.foldl Nat.min x
  pack [((rest ++ all).foldl Nat.max 0 % 2 ^ 32, 32), (low % 2 ^ 32, 0)]

/-- PEAT_STATS. -/
def PeatSt.statsView (p : PeatSt) : Word := pack [(p.dropped, 48), (p.torn, 32), (p.life.mounts, 0)]

/-- log2 of a power of two up to 2^20, else 0. -/
def exactLog2 (n : Nat) : Nat := ((List.range 21).find? (fun k => 2 ^ k = n)).getD 0

/-- PEAT_TABLES. -/
def State.peatTablesView (s : State) : Word :=
  pack [(s.peat.quars.length, 32), (s.peat.pins.length, 16), (if s.img.locked then exactLog2 s.peatSec.lease else 0, 0)]

/-- T_COUNTER_STATUS. -/
def State.counterStatusView (s : State) (t : TenantId) : Word :=
  let ready := fun (n : Nat) => b2n (decide ((s.counter (4 * t.val + n)).next < (s.counter (4 * t.val + n)).limit))
  let avail := fun (n : Nat) => b2n (n < s.peatSec.counters && s.peatUp && s.fuses.epoch < 255)
  pack ([(s.fuses.epoch % 256 * b2n s.img.fusesRead, 24), (s.peat.state.code, 16)] ++
    (List.range 4).map (fun n => (ready n, 8 + n)) ++ (List.range 4).map (fun n => (avail n, n)))

end Sys2Proof.Machine
end

