-- ==== Sys2Proof/Machine/Issue.lean ====
section
/-! DEFINITION. ISSUE: the outcome of a bus transaction, retries, parking, flow control and timeouts (07 R187 to R204; 06
R151; 09 Table 9.8). -/

namespace Sys2Proof.Machine

/-- What a transaction is for, once its split half is set aside. -/
def Flow.baseKind (f : Flow) (x : Xfer) (tx : Tx) : TxKind :=
  match tx.kind with
  | .startSplit | .completeSplit =>
    if f.control then (if x.ctl = 0 then .setup else if x.ctl = 1 then .data else .status) else .data
  | k => k

/-- A start-split whose complete-splits carry the answer. -/
def Flow.awaits (f : Flow) (tx : Tx) : Bool := tx.kind = .startSplit && !(f.iso && !tx.isIn)

/-- Payload that a transaction moved (R193, 09 Table 9.8). -/
def Flow.payload (f : Flow) (tx : Tx) (base : TxKind) (o : BusOutcome) : Nat :=
  if f.awaits tx then 0
  else match base, tx.isIn, o with
    | .data, true, .data n => n
    | .data, false, .ack | .data, false, .nyet => tx.bytes
    | .setup, _, .ack => 8
    | _, _, _ => 0

/-- Wire bytes that the energy charge counts: what moved, of a split pair in the half that carries it. -/
def Flow.chargedBytes (f : Flow) (tx : Tx) (base : TxKind) (o : BusOutcome) : Nat :=
  match tx.kind with
  | .startSplit => if !tx.isIn && o = .ack then tx.wire else 0
  | .completeSplit => if tx.isIn then f.payload tx base o else 0
  | _ => f.payload tx base o

/-- The next toggle or sequence number after some packets. -/
def State.nextToggle (s : State) (f : Flow) (packets : Nat) : Nat :=
  if f.control || f.iso then f.toggle
  else if (s.flowSpeed f).isSs then (f.toggle + packets) % 32 else (f.toggle + packets) % 2

/-- Ask the hub for CLEAR_TT_BUFFER before the endpoint's next split transaction (06 R151). -/
def State.wantTtClear (s : State) (t : TenantId) (h : Fin 1024) : State :=
  match s.flow? t h with
  | some f => match s.flowTt f with
    | some (hub, _) =>
      if f.periodic || s.ttClearing f.dev f.ep.addr then s else s.request hub (.clearTt t h f.dev f.ep 1)
    | none => s
  | none => s

/-! ### The effect of an outcome on the transfer and its flow -/

/-- A service interval of a periodic flow ends. -/
def Flow.endService (f : Flow) : Flow := if f.periodic then { f with slotDue := false, slotRoom := false } else f

/-- The stage of a control transfer moves on once its data stage is over. -/
def Flow.nextStage (f : Flow) (id : Nat) : Flow :=
  match f.xfer? id with
  | some x => if f.control && x.ctl = 1 && f.dataOver x then f.modX id (fun x => { x with ctl := 2 }) else f
  | none => f

/-- A transaction of a periodic flow has used part of its slot; the slot is over with its last transaction, or when the
transfer has no more for it. -/
def Flow.useSlot (f : Flow) (id per : Nat) : Flow :=
  if !f.periodic then f
  else
    let used := f.slotUsed + 1
    let last := match f.xfer? id with | some x => f.dataOver x | none => true
    let g := { f with slotUsed := used }
    if per ≤ used || last then
      (if f.iso then g.modX id (fun x => { x with short := true }) else g).endService
    else g

/-- The data of a transaction arrived or was accepted. -/
def Flow.moved (f : Flow) (id n : Nat) (short : Bool) : Flow :=
  f.modX id (fun x => { x with wire := x.wire + n, buf := x.buf.drop n, zero := x.zero || n = 0, short := x.short || short })

/-- A positive outcome of the stage that the transaction was for. -/
def Flow.advance (f : Flow) (id : Nat) (tx : Tx) (base : TxKind) (n per toggle : Nat) : Flow :=
  let g := { f with strikes := 0, split := false }
  match base with
  | .setup => g.modX id (fun x => { x with ctl := if g.known x = 0 then 2 else 1 })
  | .status => g.modX id (fun x => { x with ctl := 3 })
  | .ping => { g with ping := false }
  | _ => (({ g with toggle := toggle }.moved id n (tx.isIn && n < tx.bytes)).useSlot id per).nextStage id

/-- A NAK (R196): counted; the eighth of an asynchronous endpoint in a microframe parks it. -/
def Flow.nak (f : Flow) (id : Nat) : Flow :=
  let g := { f.modX id (fun x => { x with naks := x.naks + 1 }) with strikes := 0, split := false }
  if f.periodic then g.endService
  else { g with nakRun := f.nakRun + 1, parked := f.parked || 8 ≤ f.nakRun + 1 }

/-- The transfer ends on the bus with a status (R200, R201). -/
def Flow.failX (f : Flow) (id : Nat) (st : Status) (also : Bool) : Flow :=
  { (f.endX id st 0).modX id (fun x => { x with timeoutAlso := x.timeoutAlso || also }) with split := false, strikes := 0 }.endService

/-- A transaction error (R200, R191): isochronous ones are counted and end with their interval; the third in a row of another
endpoint ends the transfer. An interrupt retry runs only where it displaces nothing. -/
def Flow.txError (f : Flow) (id per : Nat) (also : Bool) : Flow :=
  let g := f.modX id (fun x => { x with errs := x.errs + 1 })
  if f.iso then { g with split := false }.useSlot id per
  else if 3 ≤ f.strikes + 1 then g.failX id .busError also
  else { g with strikes := f.strikes + 1, slotRoom := false }

/-- A packet that the receiver discards (R200): no error, nothing moves. -/
def Flow.discard (f : Flow) (id per : Nat) : Flow :=
  let g := { f with strikes := 0, split := false }
  if f.iso then g.useSlot id per else g.endService

/-- The bytes of an answer that count: an interval's are those up to LENGTH (R191). -/
def Flow.counted (f : Flow) (x : Xfer) (tx : Tx) (n : Nat) : Nat := if f.iso && x.unit = 0 then Nat.min n tx.wire else n

/-- The effect of an outcome on the flow. `most` is the largest answer that is not babble. -/
def Flow.outcome (f : Flow) (id : Nat) (tx : Tx) (base : TxKind) (per toggle most : Nat) (hs also : Bool) :
    BusOutcome → Flow
  | .notStarted => f
  | .stall => f.failX id .stall false
  | .babble => f.failX id .babble false
  | .mismatch => f.discard id per
  | .error => f.txError id per also
  | .noResponse => f.txError id per also
  | .nrdy => { f.nak id with nrdy := true, nakRun := f.nakRun, parked := f.parked }
  | .nak =>
    let g := f.nak id
    if hs && base = .data && !tx.isIn && !f.periodic then { g with ping := true } else g
  | .nyet =>
    if tx.kind = .completeSplit then { f with strikes := 0 }
    else if base ≠ .data || tx.isIn then f
    else { f.advance id tx base tx.wire per toggle with ping := hs && !f.periodic }
  | .ack =>
    if f.awaits tx then { f with split := true, strikes := 0 }
    else if tx.isIn && base = .data then f.txError id per also
    else f.advance id tx base tx.wire per toggle
  | .data n =>
    if f.awaits tx || !tx.isIn then f.txError id per also
    else if most < n then f.failX id .babble false
    else f.advance id tx base (match f.xfer? id with | some x => f.counted x tx n | none => n) per toggle

/-- The bus work of a transfer is complete (R203). -/
def Flow.busDone (f : Flow) (x : Xfer) : Bool := if f.control then x.ctl = 3 else x.short || (f.whole x && f.dataOver x)

/-- The test point at the end of a transaction or at a boundary (R202, R203): an expired transfer that has not ended or
completed ends TIMEOUT. Whatever ends at or after expiry is traced. -/
def State.testTimeout (s : State) (f : Flow) (id : Nat) (ended : Bool) : State :=
  match (s.flow? f.t f.h).bind (fun g => (g.xfer? id).map (fun x => (g, x))) with
  | some (g, x) =>
    if (match x.expires with | some e => decide (e ≤ s.time.now) | none => false) then
      let note := fun (s : State) (st : Status) => s.traceRec 7 g.entry (s.taskLevel g) 0 false 15 st.code
      match x.status with
      | some (st, _) => if ended then s else note s st
      | none =>
        if g.busDone x then
          (if ended then s else note s (if g.xIn x && (!g.whole x || x.wire < g.wireLimit x) then .shortPacket else .success))
        else
          note ((s.modFlow g.t g.h (fun f => { f.endX id .timeout 0 with split := false })).wantTtClear g.t g.h) .timeout
    else s
  | none => s

/-- A transaction of a side that ran past a switchover ends (09 R254). -/
def State.endOverrun (s : State) (d : DevId) : State :=
  match (vget s.sluice.ports d.port).overFrom.lookup d.ss with
  | some t => s.modSluice d.port (fun q => { q with overFrom := q.overFrom.filter (fun e => e.1 ≠ d.ss), overrunNs := s.time.now - t })
  | none => s

/-- The energy of a transaction that ran (09 R255, Table 9.8). -/
def State.chargeTx (s : State) (f : Flow) (tx : Tx) (base : TxKind) (out : BusOutcome) : State :=
  let row := if tx.kind = .startSplit || tx.kind = .completeSplit then Speed.high.costRow else (s.flowSpeed f).costRow
  s.chargeEnergy (vget s.energy.active.baseNj row * 1000 + f.chargedBytes tx base out * vget s.energy.active.bytePj row)

/-- What a transaction that ran does to its transfer. -/
def State.applyOutcome (s : State) (f : Flow) (id : Nat) (tx : Tx) (x : Xfer) (base : TxKind) (out : BusOutcome) : State :=
  let also := match x.expires with | some e => decide (e ≤ s.time.now) | none => false
  let most := if base ≠ .data then 0 else if f.iso then f.ep.perService - x.wire else if x.unit = 0 then tx.wire else tx.bytes
  let per := s.perSlot f
  let tog := s.nextToggle f (match out with | .data n => packetsOf f.ep.mps n | _ => tx.packets)
  s.modFlow f.t f.h (fun f =>
    (f.modX id (fun x => { x with issued := true })).outcome id tx base per tog most (s.flowSpeed f = .high) also out)

/-- A transfer that has just parked is traced. -/
def State.traceParked (s : State) (f : Flow) (o : Op) : State :=
  match s.flow? f.t f.h with
  | some g => if !f.periodic && !f.parked && g.parked then s.traceRec 4 f.entry o.pl 0 false 4 f.dev.port.val else s
  | none => s

/-- A transfer that has just ended in error asks for its TT to be cleared (06 R151). -/
def State.clearAfterError (s : State) (f : Flow) (id : Nat) (x : Xfer) : State :=
  match (s.flow? f.t f.h).bind (fun g => g.xfer? id) with
  | some y => if y.status = some (Status.busError, 0) && x.status.isNone then s.wantTtClear f.t f.h else s
  | none => s

/-! ### Gates that can no longer fit (09 R248) -/

/-- The duration of the transaction that a transfer needs next. -/
def State.nextDuration (s : State) (f : Flow) (x : Xfer) : Option Nat :=
  match s.nextTx f with
  | some (y, tx) =>
    if y.id = x.id then some (s.duration f tx)
    else ((f.tdsOf x).find? (fun d => d.stage = .checked && d.type ≠ 6)).map (fun d => s.largestNs f x d)
  | none => ((f.tdsOf x).find? (fun d => d.stage = .checked && d.type ≠ 6)).map (fun d => s.largestNs f x d)

/-- Transfers of a flow whose next transaction fits no window of its class any more end GATE_TOO_LONG; the transfer whose transaction is in
progress is tested at the end of that. -/
def State.retestFlow (s : State) (f : Flow) : State :=
  let q := vget s.sluice.ports f.dev.port
  let busy := s.inTransaction f.entry
  let now := match f.busXfer with | some x => if busy then some x.id else none | none => none
  let hit := f.xs.filter (fun x => x.status.isNone && !(f.busDone x) && some x.id ≠ now &&
    (match s.nextDuration f x with | some d => q.neverFits (s.tcOf f) d | none => false))
  s.modFlow f.t f.h (fun g => { hit.foldl (fun (a : Flow) x => { a.endX x.id .gateTooLong 0 with split := false }) g with retest := busy })

/-- Retest every flow that a predicate picks. -/
def State.retest (s : State) (p : Flow → Bool) : State := (s.flows.filter p).foldl State.retestFlow s

/-- The test that waited for the end of a transaction. -/
def State.retestDue (s : State) (t : TenantId) (h : Fin 1024) : State :=
  match s.flow? t h with
  | some f => if f.retest then s.retestFlow f else s
  | none => s

/-- An isochronous OUT has no handshake: it has been sent (R191). -/
def Flow.heard (f : Flow) (tx : Tx) (out : BusOutcome) : BusOutcome :=
  if f.iso && !tx.isIn && out ≠ .notStarted then .ack else out

/-- The report of a transaction; one that ran took its device out of L1, U1 or U2 (R207). -/
def State.issueEnd (s : State) (f : Flow) (o : Op) (out : BusOutcome) : State :=
  match o.tx with
  | none => s
  | some (id, tx) =>
    match f.xfer? id with
    | none => if f.periodic then s else s.modSide f.dev.port f.dev.ss (fun q => q.addDeficit f.t o.arg)
    | some x =>
      let out := f.heard tx out
      let base := f.baseKind x tx
      let paid := if out = .notStarted then 0 else f.payload tx base out
      let s := if f.periodic then s
        else s.modSide f.dev.port f.dev.ss (fun q => q.addDeficit f.t ((o.arg : Int) - (Nat.min paid o.arg : Int)))
      if out = .notStarted then s
      else
        let s := s.modDev f.dev (fun d => { d with l1 := false, linkU := 0 })
        let s := ((s.chargeTx f tx base out).applyOutcome f id tx x base out).traceParked f o
        ((s.clearAfterError f id x).testTimeout f id (x.status.isSome || f.busDone x)).retestDue f.t f.h

/-! ### Requests of the controller's own -/

/-- A request that no command of the table ends is over with its last transaction. -/
def UsbReq.quiet : UsbReq → Bool
  | .portTimeout _ _ | .disablePort | .suspend | .setPortPower _ | .clearPortPower _ | .getPortStatus _ | .clearPortChange _ _
  | .setRemoteWakeup | .lpm _ => true
  | _ => false

/-- Wire bytes that a transaction of a request moved. -/
def Tx.movedBytes (tx : Tx) : BusOutcome → Nat
  | .ack => if tx.isIn then 0 else tx.wire
  | .data n => n
  | _ => 0

/-- The answer to the LPM token: ACK puts the device into L1, STALL ends its use until the next enumeration (R205). -/
def State.lpmEnd (s : State) (q : Req) (out : BusOutcome) : State :=
  match q.r, out with
  | .lpm _, .ack => s.modDev q.d (fun x => { x with l1 := true })
  | .lpm _, .stall => s.modDev q.d (fun x => { x with lpmOff := true })
  | _, _ => s

/-- The powering of the ports of a hub that is being configured goes on port by port (06 R146). -/
def State.powersHub (s : State) (q : Req) : Bool :=
  match q.r, s.dev? q.d with | .setPortPower _, some x => x.step = .hubPower | _, _ => false

/-- A transaction of a request has ended: its next stage; a quiet request is over with its last. -/
def State.stepReq (s : State) (q : Req) (out : BusOutcome) : State :=
  let setup := s.setupOf q
  let next := q.after setup.isSome (match setup with | some (_, _, _, _, l) => l | none => 0) (s.reqMps q) out
  if next.stage = 3 && q.r.quiet && !s.powersHub q then { s with sched := { s.sched with reqs := s.sched.reqs.erase q } }
  else s.modReq q.d q.r (fun _ => next)

/-- The report of a transaction of a request: energy (09 Table 9.8), the link's exit (R207), and the request's next stage (R200, R265). -/
def State.reqEnd (s : State) (o : Op) (out : BusOutcome) : State :=
  match o.usb.bind (fun u => s.reqOf u.1 (fun r => r = u.2)) with
  | none => s
  | some q =>
    if out = .notStarted || q.stage = 3 then s
    else
      let tx := s.reqTx q
      let row := (s.reqSpeed q).costRow
      let s := if q.stage = 0 && q.strikes = 0 then s.emitOut (.usb q.d q.r) else s
      let s := if q.onRoot then s else
        (s.chargeEnergy (vget s.energy.active.baseNj row * 1000 + tx.movedBytes out * vget s.energy.active.bytePj row)).modDev q.target
          (fun d => { d with l1 := false, linkU := 0 })
      let s := s.lpmEnd q out
      s.stepReq q out

/-- PORT_SUSPENDs that waited for the end of a transaction take effect (06 R164). -/
def State.suspendsDue (s : State) : State := s.devs.foldl (fun (a : State) d => a.suspendDue d.id) s

/-- TRANSFER_TIMEOUT (R203): a microframe boundary is a test point of the head transfer while no transaction of the endpoint is
in progress. -/
def execTransferTimeout (t : TenantId) (h : Fin 1024) (s : State) : Host.Outcome State Fault Refusal :=
  .next (match s.flow? t h with
    | some f => match f.xs with
      | x :: _ =>
        if s.inTransaction f.entry || x.status.isSome || f.busDone x then s
        else ((s.testTimeout f x.id false).settleFlow t h).takePipes
      | [] => s
    | none => s)

end Sys2Proof.Machine
end

