-- ==== Sys2Proof/Machine/Retire.lean ====
section
/-! DEFINITION. RETIRE, RELEASE and NOTIFY, and the internal tasks' operations FRAME_TRIM and TRACE_SPILL (05 R105, R106,
R119; 06 R160; 07 R175, R176, R206; 08 R220 to R223, R232; 10 R275, R279). -/

namespace Sys2Proof.Machine

/-! ### The end of a transfer -/

/-- The status of a transfer whose end TD retires: how it ended early, or what its bytes say. -/
def Flow.finalStatus (f : Flow) (x : Xfer) : Status × Nat :=
  match x.status with
  | some st => st
  | none => if f.xIn x && x.moved < f.known x then (.shortPacket, 0) else (.success, 0)

/-- Map the flows of a device. -/
def State.modDevFlows (s : State) (d : DevId) (g : Flow → Flow) : State :=
  { s with flows := s.flows.map (fun f => if f.dev = d then g f else f) }

/-- The U2 System Exit Latency is at most 2 ms, so that U2 is asked for (07 R206). -/
def Dev.wantsU2 (x : Dev) : Bool := match x.bos with | some b => decide (b.u2Exit ≤ 2000) | none => false

/-- A SuperSpeed device was configured: its completion waits until U1 and U2 are enabled (07 R206). -/
def State.askU1U2 (s : State) (d : DevId) : State :=
  match s.dev? d with
  | some x =>
    if x.speed.isSs && x.config ≠ 0 then
      let s := (s.modDev d (fun y => { y with uWait := true })).request d .setU1
      if x.wantsU2 then s.request d .setU2 else s
    else s
  | none => s

/-- A snooped request that completed SUCCESS takes its effect (06 Table 6.7); a read of the BOS gives TIRAEL its result (10 R263). -/
def State.snoop (s : State) (f : Flow) (d : Td) (caps : List (List Byte)) : State :=
  let t := d.reqType
  let r := d.request
  if t = 0x00 && r = 9 then
    ((s.modDev f.dev (fun x => { x with config := BitVec.ofNat 8 d.wValue, alts := [] })).modDevFlows f.dev
      (fun g => { g with toggle := 0 })).askU1U2 f.dev
  else if t = 0x01 && r = 11 then
    let s := s.modDev f.dev (fun x => { x with alts := (d.wIndex, d.wValue) :: x.alts.filter (fun a => a.1 ≠ d.wIndex) })
    let eps := match (s.dev? f.dev).bind (fun x => x.current d.wIndex) with | some a => a.eps | none => []
    s.modDevFlows f.dev (fun g => if eps.any (fun e => e.addr = g.ep.addr) then { g with toggle := 0 } else g)
  else if t = 0x02 && r = 1 && d.wValue = 0 then
    s.modDevFlows f.dev (fun g => if g.ep.addr.toNat = d.wIndex % 256 then { g with toggle := 0 } else g)
  else if t = 0x80 && r = 6 && d.wValue / 256 = 15 then
    s.modDev f.dev (fun x => { x with cap := tiraelOf caps })
  else s

/-- The transfer of a TD that retired ends: its completion waits for release; a seal unit cut off, or a STALL of what the controller sends
on a sealed pipe, tears the pipe down (10 R275, R279), which continues at its own sequence else. -/
def State.endTransfer (s : State) (f : Flow) (x : Xfer) (caps : List (List Byte)) : State :=
  let (st, n) := f.finalStatus x
  let cut := f.partUnit x || (x.unit ≠ 0 && st = .stall && !f.xIn x)
  let s := s.modFlow f.t f.h (fun g => { g with key := g.key.map (f.seqAfter x) })
  let setup := if f.control && st = .success then f.setupOf x else none
  let s := s.modFlow f.t f.h (fun f => f.endXfer x st n)
  let s := if cut then s.tearDown f.t f.h 0 true true else s
  let s := if st = .gateTooLong then
      s.modSluice f.dev.port (fun q => { q with tooLong := satAdd q.tooLong 1 (2 ^ 24 - 1) }) else s
  match setup with
  | some d => s.snoop f d caps
  | none => s

/-- A TD that does not end its transfer retires: a chain's leaves flight (R220). -/
def Flow.retireTd (f : Flow) (x : Xfer) (d : Td) : Flow :=
  if d.type = 1 then
    { f with tds := f.tds.filter (fun e => e.slot ≠ d.slot) }.modX x.id (fun x =>
      { x with left := x.left + (if x.passed d then d.dataLen else 0) })
  else f.modTd d.slot (fun d => { d with stage := .retired })

/-- RETIRE of one TD: an end TD, or the TD that ended its transfer with BAD_DESCRIPTOR, ends the transfer. -/
def State.retireTd (s : State) (f : Flow) (d : Td) (caps : List (List Byte)) : State :=
  match f.xfer? d.x with
  | none => s.modFlow f.t f.h (fun f => f.modTd d.slot (fun d => { d with stage := .retired }))
  | some x =>
    let bad := x.status = some (Status.badDescriptor, 0) && x.stop = some d.slot
    if d.isEnd || bad then s.endTransfer f x caps else s.modFlow f.t f.h (fun f => f.retireTd x d)

/-- The head transfer of a flow whose tenant is quiescing, once it has no transaction in progress (11 Table 11.6 step 4): one that has
issued and not ended completes ABORTED; one that has ended but would need FETCH or CHECK to retire completes as it ended. -/
def State.quiesceHead (s : State) (t : TenantId) (h : Fin 1024) : State :=
  match s.flow? t h with
  | some f => match f.xs with
    | x :: _ =>
      let ended := x.status.isSome || f.busDone x
      if s.inTransaction f.entry || !x.issued || (ended && x.closed && (f.tdsOf x).all (fun d => d.stage ≠ .fetched)) then s
      else
        let s := if ended then s else (s.modFlow t h (fun f => f.endX x.id .aborted 0)).wantTtClear t h
        match (s.flow? t h).bind (fun g => (g.xfer? x.id).map (fun y => (g, y))) with
        | some (g, y) => s.endTransfer g y []
        | none => s
    | [] => s
  | none => s

/-- Every flow of the tenants that are quiescing. -/
def State.quiesceDue (s : State) : State :=
  (s.flows.filter (fun f => (s.tenant f.t).st = .quiescing)).foldl (fun (a : State) f => a.quiesceHead f.t f.h) s

/-- RETIRE of an order whose action has ended. -/
def State.retireOrder (s : State) (f : Fn) (k : Nat) : State :=
  s.modOrder f k (fun o => if o.stage = .ended then { o with stage := .retired, inSlot := false } else o)

/-- A worker's transaction ends with an outcome: of an endpoint flow, or of a request of the controller's own. -/
def State.endIssue (s : State) (u : UnitId) (out : BusOutcome) : State :=
  (if (s.opAt u).map Op.kind = some .request then
    s.report u .issue (fun s o => (s.reqEnd o out).endOverrun (match o.usb with
      | some (d, r) => ({ d := d, r := r, task := o.task } : Req).target | none => { port := 0, ss := false, path := [] })) .request
  else s.report u .issue (fun s o => s.onFlow o (fun s f => (s.issueEnd f o out).endOverrun f.dev))).suspendsDue.quiesceDue

/-- ISSUE (R200): a transaction ends. -/
def execIssue (u : UnitId) (out : BusOutcome) (s : State) : Host.Outcome State Fault Refusal := .next (s.endIssue u out)

/-- RETIRE (R218): the final outcome of one TD or order, with the capabilities that a GET_DESCRIPTOR(BOS) which ends here returned
(06 R160). -/
def execRetire (e : RetireEnd) (s : State) : Host.Outcome State Fault Refusal :=
  .next (s.report e.unit .retire (fun s o =>
    match taskOwner o.task with
    | some f => s.retireOrder f o.ref
    | none => s.onFlow o (fun s f =>
      match f.retireNext with
      | some d => if d.slot = o.ref then s.retireTd f d e.caps else s
      | none => s))).quiesceDue

/-- A request of a device that a predicate picks has ended so. -/
def State.reqOver (s : State) (d : DevId) (p : UsbReq → Bool) (ok : Bool) : Bool :=
  match s.reqOf d p with | some q => !ok || (q.stage = 3 && !q.failed) | none => false

/-- U1_U2_ENABLE (R206): the requests end; a STALL leaves that state unused. The link's inactivity timeouts are set, and the completion that
waited can be released. -/
def execU1U2Enable (d : DevId) (u1 u2 : ReqEnd) (s : State) : Host.Outcome State Fault Refusal :=
  .next (match s.dev? d with
    | some x =>
      if x.uWait && s.reqOver d (fun r => r = .setU1) (u1 = .ok) && (!x.wantsU2 || s.reqOver d (fun r => r = .setU2) (u2 = .ok)) then
        let s := s.dropReqs (fun q => q.d = d && (q.r = .setU1 || q.r = .setU2))
        let s := s.modDev d (fun y => { y with uWait := false, u1 := u1 = .ok, u2 := x.wantsU2 && u2 = .ok })
        s.setTimeouts d 10 (if s.fastPeriodic d then 0 else 256)
      else s
    | none => s)

/-! ### Release (R222, R223) -/

/-- The flow of a tenant whose completed transfer is due and was submitted first. -/
def State.dueFlow (s : State) (t : TenantId) : Option (Flow × Done) :=
  (s.flows.filter (fun f => f.t = t)).foldl (fun a f =>
    match s.dueDone f, a with
    | none, _ => a
    | some d, none => some (f, d)
    | some d, some (_, e) => if d.seq < e.seq then some (f, d) else a) none

/-- Release a tenant's transfers until none is due. -/
def State.releaseFlows (s : State) (t : TenantId) : Nat → State
  | 0 => s
  | n + 1 => match s.dueFlow t with
    | some (f, d) => State.releaseFlows (s.releaseFlow f d) t n
    | none => s

/-- Release an owner's orders in ring order while their RETIRE has reported and their completion has room. -/
def State.releaseOrders (s : State) (f : Fn) : Nat → State
  | 0 => s
  | n + 1 =>
    match (s.rings f).orders.find? (fun o => !o.ghost) with
    | some o =>
      let r := s.rings f
      if o.stage = .retired && !r.stopped then
        let via := !(r.buf.isEmpty && r.en && r.hasFree)
        let s := s.modRings f (fun r => { r with orders := r.orders.erase o })
        let st := match o.ev.status with | some x => x.code | none => 0
        let s := s.traceRec 5 (orderTask f) (s.orderLevel f) 0 false 15 (st + 256 + b2n via * 512)
        State.releaseOrders (s.complete f o.ev) f n
      else s
    | none => s

/-- A handle whose CLOSE_EP waited is freed once what its abrupt end completed has been released (05 R119, 08 Table 8.8). -/
def State.finishClose (s : State) (t : TenantId) (h : Fin 1024) : State :=
  match s.flow? t h with
  | some f => match f.closing with
    | some k =>
      if f.done.isEmpty then
        (({ s with flows := s.flows.filter (fun g => !(g.t = t && g.h = h)) } : State).syncU2 f.dev).endOrder (.vf t) k .success h.val 0
          (if f.st = .lost then 2 ^ 32 - 1 else f.consumed.toNat)
      else s
    | none => s
  | none => s

/-- Every handle of a tenant that can be freed is. -/
def State.finishCloses (s : State) (t : TenantId) : State :=
  (s.flows.filter (fun f => f.t = t && f.closing.isSome)).foldl (fun (a : State) f => a.finishClose f.t f.h) s

/-- A TRACE_CTL STOP that waited completes once every spill write that had begun has been posted (08 R233). -/
def State.finishStops (s : State) : State :=
  if s.heldSpills = 0 && !(s.placed traceTask .move) then
    s.endWhere .pf0 (fun o => o.code = 0x4D) (fun o => o.doneEv .success 0 0 0)
  else s

/-- RELEASE (R222): every transfer and order of an owner that is due is released. -/
def execRelease (f : Fn) (s : State) : Host.Outcome State Fault Refusal :=
  .next (if s.runs f then
    let s := match f with
      | .vf t => (s.releaseFlows t
          ((s.flows.filter (fun (g : Flow) => g.t = t)).map (fun (g : Flow) => g.done.length)).sum).finishCloses t
      | .pf0 => s.finishStops
    s.releaseOrders f (s.rings f).orders.length
  else s)

/-! ### NOTIFY (R106, R223) -/

/-- Write an event at its index; its NOTIFY has reported. -/
def State.writeEvent (s : State) (f : Fn) (n : NotifyOp) (time : Nat) : State :=
  let r := s.rings f
  let w := s.eventWords f n time
  let s := s.modRings f (fun r => { r with notify := r.notify.map (fun m => if m.idx = n.idx then { m with reported := true } else m) })
  s.postWrite f (.event n.idx (r.eventBase + BitVec.ofNat 64 (n.idx * 32)) w)

/-- The owner whose event an operation's NOTIFY writes. -/
def State.notifyOwner (s : State) (task : Nat) : Option Fn :=
  match s.flows.find? (fun f => f.entry = task) with
  | some f => some (.vf f.t)
  | none => taskOwner task

/-- NOTIFY (R223): the event at the operation's index is written, with the Keeper time of its placement (R127). -/
def execNotify (u : UnitId) (s : State) : Host.Outcome State Fault Refusal :=
  .next (s.report u .notify (fun s o =>
    match s.notifyOwner o.task with
    | some f => match (s.rings f).notify.find? (fun n => n.idx = o.ref && n.placed && !n.reported) with
      | some n => s.writeEvent f n o.time
      | none => s
    | none => s))

/-! ### Internal tasks -/

/-- The phase error moves 25 ns toward 0, and LOCK returns within 16 ns (R176). -/
def Frames.trim (x : Frames) : Frames :=
  if x.lock = .slewing then
    let p := if x.phase.natAbs ≤ 16 then x.phase else if 0 < x.phase then x.phase - 25 else x.phase + 25
    if p.natAbs ≤ 16 then { x with phase := p, lock := .locked } else { x with phase := p }
  else x

/-- FRAME_TRIM (R175, R176): the frame-trim operation of a microframe writes the port engines' period trim. -/
def execFrameTrim (u : UnitId) (s : State) : Host.Outcome State Fault Refusal :=
  .next (s.report u .issue (fun s o => if o.task = frameTask then { s with frames := s.frames.trim } else s) .internal)

/-- Copy the oldest trace record into the spill ring (R232). -/
def State.spill (s : State) : State :=
  match s.trace.buf with
  | r :: l =>
    if s.canSpill then
      let i := s.spillIndex
      ({ s with trace := { s.trace with buf := l } }).postWrite .pf0
        (.spill i (s.trace.base + BitVec.ofNat 64 (i * 16)) [r.extractLsb' 0 64, r.extractLsb' 64 64])
    else s
  | [] => s

/-- TRACE_SPILL (R232). -/
def execTraceSpill (u : UnitId) (s : State) : Host.Outcome State Fault Refusal :=
  .next (s.report u .move (fun s o => if o.task = traceTask then s.spill else s) .internal)

end Sys2Proof.Machine
end

