-- ==== Sys2Proof/Machine/Frames.lean ====
section
/-! DEFINITION. Microframe boundaries, the policy swap, calendar slots, the delay wheel, gate edges and switchovers (01 R10;
04 R79; 07 R174 to R178, R187 to R190, R196; 08 R226, R227; 09 R243, R248, R249, R252, R254, R258; 11 R294 to R297). -/

namespace Sys2Proof.Machine

/-! ### Steps of Keeper time (R176, R190) -/

/-- The whole microframes of a step and the remainder nearest zero, from above -62,500 to 62,500 (R176). -/
def splitStep (d : Int) : Int × Int :=
  let q := (d + 62499) / 125000
  (q, d - q * 125000)

/-- K and the port phase follow a step; on free-running ports K stays (R176, R177). -/
def Frames.step (x : Frames) (d : Int) : Frames :=
  if x.lock = .freeRun then x
  else
    let (q, r) := splitStep d
    if r = 0 then { x with k := x.k + q, phase := 0, lock := .locked }
    else { x with k := x.k + q, phase := -r, lock := .slewing, slews := satAdd x.slews 1 65535 }

/-- ISO TDs that no interval has served yet find their targets again, and times counted from events move with Keeper time. -/
def Flow.restep (f : Flow) (now : Nat) (d : Int) : Flow :=
  let open_ := fun (x : Nat) => match f.xfer? x with | some x => x.status.isNone && !x.issued | none => false
  let tds := f.tds.map (fun e =>
    let e := { e with readyAt := e.readyAt.map (fun t => addNs t d) }
    match e.interval with
    | some m => if now < m && open_ e.x then { e with interval := none, ts := none } else e
    | none => e)
  let kept := (tds.filterMap (fun e => e.interval)).foldl Nat.max 0
  { f with tds := tds,
           xs := f.xs.map (fun x => { x with expires := x.expires.map (fun t => addNs t d) }),
           lastInterval := f.lastInterval.map (fun n => if now < n then Nat.max kept now else n) }

/-- A pending step takes effect at the boundary (R100, R102, R176). -/
def State.stepTime (s : State) : State :=
  match s.time.pending with
  | none => s
  | some d =>
    let s := s.applyStep
    let s : State := { s with frames := s.frames.step d, flows := s.flows.map (fun (f : Flow) => f.restep s.frames.f d) }
    s.flows.foldl (fun (a : State) (f : Flow) => a.settleFlow f.t f.h) s

/-! ### The policy swap (01 R10, 11 R294 to R297) -/

/-- Complete the manager's waiting order of a code that names a tenant. -/
def State.swapDone (s : State) (t : TenantId) (code : Nat) : State := s.endWaiting t [code] .success

/-- A tenant becomes ACTIVE with a share: buckets full, or empty under START_EMPTY (09 R240). -/
def State.activate (s : State) (t : TenantId) (r : ShareRec) : State :=
  let e := s.sluice.startEmpty
  let s := s.modTenant t (fun x =>
    { x with st := .active, share := some r, swap := none, lastEnable := 0,
             tc := if e then 0 else r.cbs * 1000, tp := if e then 0 else r.pbs * 1000 })
  (s.swapDone t 0x40).drainRing (.vf t)

/-- A changed share takes effect (Table 11.5): buckets clipped, TC_MAP retested, SHARE_CHANGED. -/
def State.changeShare (s : State) (t : TenantId) (r : ShareRec) : State :=
  let old := s.share t
  let s := s.modTenant t (fun x =>
    { x with share := some r, swap := none, tc := Nat.min x.tc (r.cbs * 1000), tp := Nat.min x.tp (r.pbs * 1000) })
  let s := if old.tcMap ≠ r.tcMap then s.retest (fun f => f.t = t) else s
  (s.swapDone t 0x44).tenantNotice t 1

/-- One tenant's share at the swap. -/
def State.swapTenant (s : State) (t : TenantId) : State :=
  match (s.tenant t).swap with
  | some r => match (s.tenant t).st with
    | .standby => s.activate t r
    | .active | .quiescing | .quiesced => s.changeShare t r
    | _ => s
  | none => s

/-- The shadow policy copy becomes the active one, unless an update of it is in progress. -/
def State.policySwap (s : State) : State :=
  if s.shadowBusy then s
  else (allFin 256).foldl State.swapTenant
    { s with energy := { s.energy with active := s.energy.set }, sched := { s.sched with policyLost := [] } }

/-! ### Calendar slots (R187, R190, R249, R258) -/

/-- The ISO TD whose interval starts at a microframe. -/
def Flow.isoTd (f : Flow) (n : Nat) : Option Td :=
  f.tds.find? (fun d => d.interval = some n &&
    (match f.xfer? d.x with | some x => x.status.isNone && !x.short | none => false))

/-- A service slot is over: what it did not serve of its ISO TD ends with it; a split that it left open begins anew (R199). -/
def Flow.closeSlot (f : Flow) : Flow :=
  let g := match f.isoTd f.slotF with
    | some d => match f.xfer? d.x with
      | some x => if x.issued then f.modX d.x (fun x => { x with short := true }) else f.endX d.x .missedService 0
      | none => f
    | none => f
  { g with slotDue := false, slotRoom := false, split := false }

/-- The slot cannot serve its TD: MISSED_SERVICE, counted for the gates or for energy. -/
def State.missSlot (s : State) (f : Flow) (id : Nat) (gate : Bool) : State :=
  let s := s.modFlow f.t f.h (fun f => { f.endX id .missedService 0 with slotDue := false, slotRoom := false })
  if gate then s.countGateMiss f.dev.port else s.countEnergyMiss

/-- A flow's slots miss service while its port island restarts, or its side's calendar or its translator's entry is rebuilt (15
R380, R383). -/
def State.slotBlocked (s : State) (f : Flow) (r : Resv) : Bool :=
  s.restarting (if f.dev.ss then .ssport else .hsport) ||
  s.faults.jobs.any (fun j => j.sides.contains (f.dev.port, f.dev.ss) ||
    (match r.tt with | some k => j.tts.contains k | none => false))

/-- A service slot of a flow begins at microframe n. -/
def State.openSlot (s : State) (f : Flow) (r : Resv) (n : Nat) : State :=
  let id := if f.iso then (f.isoTd n).map (fun d => d.x) else (s.nextTx f).map (fun y => y.1.id)
  let mark := fun (due room : Bool) (s : State) => s.modFlow f.t f.h (fun f =>
    { f with tds := f.tds.map (fun d => if d.interval = some n then { d with ts := some (s.frameStart n) } else d),
             slotDue := due, slotRoom := room, slotUsed := 0, slotF := n })
  if f.st ≠ .running then mark false false s
  else if s.slotBlocked f r || (match s.dev? f.dev with | some d => d.suspended | none => true) then
    match id with
    | some i => if f.iso then (mark false false s).modFlow f.t f.h (fun f => f.endX i .missedService 0) else mark false false s
    | none => mark false false s
  else match id with
    | none => mark (!f.iso) false s
    | some i =>
      let d := match f.xfer? i with | some x => s.nextDuration f x | none => none
      let fits := match d with
        | some d => s.fitsWithin f.dev.port (some (s.tcOf f)) d (s.frameStart n) (s.frameStart (n + r.slotSpan))
        | none => true
      if !fits then (mark false false s).missSlot f i true
      else if !(s.budget f.t) then (mark false false s).missSlot f i false
      else mark true true s

/-- The transfer that a slot was to serve and of which nothing ran in it. -/
def State.unserved (s : State) (f : Flow) : Option Xfer :=
  if !f.slotRoom || f.slotUsed ≠ 0 then none
  else if f.iso then (f.isoTd f.slotF).bind (fun d => (f.xfer? d.x).bind (fun x => if x.issued then none else some x))
  else (s.nextTx f).map (fun r => r.1)

/-- The slot of a flow ends at microframe n. One that served nothing missed its class when that no longer fits at the latest start in the
slot (R249), and energy when BUDGET is clear (R258). -/
def State.closeSlot (s : State) (f : Flow) (n : Nat) : State :=
  let done := s.modFlow f.t f.h Flow.closeSlot
  match s.unserved f with
  | some x => match s.nextDuration f x with
    | some d =>
      let miss := s.modFlow f.t f.h (fun f => { f with split := false })
      if !(s.fitsAt f.dev.port (some (s.tcOf f)) d (s.frameStart n - s.eofNs f.dev - d)) then miss.missSlot f x.id true
      else if !(s.budget f.t) then miss.missSlot f x.id false
      else done
    | none => done
  | none => done

/-- The slots of one flow at microframe n. -/
def State.slotFlow (s : State) (n : Nat) (t : TenantId) (h : Fin 1024) : State :=
  match s.flow? t h with
  | none => s
  | some f => match f.resv with
    | none => s
    | some r =>
      let s := if f.slotDue && f.slotF + r.slotSpan ≤ n then s.closeSlot f n else s
      match s.flow? t h with
      | some g => if r.dueAt n then s.openSlot g r n else s
      | none => s

/-! ### Latency tolerance (R79) -/

/-- Bytes admitted for a microframe. -/
def State.bytesIn (s : State) (n : Nat) : Nat := bytesAt s.resvs (n % 256)

/-- The time in ns for which the staging buffers of 512 KiB (01 Table 1.5) carry a number of bytes each microframe (DEDUCED,
notes/assumptions/102.md), at most 1 ms. -/
def carryNs (bytes : Nat) : Nat := if bytes = 0 then 1000000 else Nat.min 1000000 (524288 * 125000 / bytes)

/-- The LTR value: none while no tenant is ACTIVE. -/
def State.ltrValue (s : State) : Option Nat :=
  if (allFin 256).any (fun t => (s.tenant t).st = .active) then
    some (carryNs (s.bytesIn s.frames.f)) else none

/-- The value changed by more than 25 % of the last one sent. -/
def ltrChanged (last now : Option Nat) : Bool :=
  match last, now with
  | some a, some b => a < 4 * (if a ≤ b then b - a else a - b)
  | none, none => false
  | _, _ => true

/-- Send an LTR message when one is due and the host enabled LTR. -/
def State.sendLtr (s : State) : State :=
  let v := s.ltrValue
  if s.link ≠ .down && s.pf.bit 0x78 10 && (!s.frames.ltrSent || ltrChanged s.frames.lastLtr v) then
    { s with frames := { s.frames with lastLtr := v, ltrSent := true } }.emitOut (.ltr v)
  else s

/-! ### MICROFRAME_BOUNDARY -/

/-- Parked endpoints poll again (R196). -/
def State.unpark (s : State) : State :=
  { s with flows := s.flows.map (fun (f : Flow) => { f with parked := false, nakRun := 0 }) }

/-- The bus of a root device runs: it is out of its first reset and not suspended. -/
def Dev.onBus (x : Dev) : Bool :=
  x.id.path.isEmpty && !x.suspended && x.step ≠ .debounce && x.step ≠ .waitDefault && x.step ≠ .reset

/-- What a root port sends at the start of a microframe (R174): SOF or keep-alive with the frame number, or the Isochronous Timestamp
Packet with the microframe count (14 bits, PRESUMED from USB 3.2, notes/assumptions/110.md). -/
def State.sofOf (s : State) (x : Dev) : State :=
  let f := s.frames.f
  let p := x.id.port
  if !x.onBus || s.restarting (if x.id.ss then .ssport else .hsport) then s
  else match x.speed with
    | .gen1 | .gen2 => s.emitOut (.itp p (f % 16384))
    | .high => s.emitOut (.sof p (f / 8 % 2048))
    | .full => if f % 8 = 0 then s.emitOut (.sof p (f / 8 % 2048)) else s
    | .low => if f % 8 = 0 then s.emitOut (.keepAlive p) else s

/-- The frame-trim operation of this microframe (R175). -/
def State.wantTrim (s : State) : State :=
  if s.frames.lock = .freeRun || s.sched.work.any (fun w => w.task = frameTask) || s.slotOps.any (fun o => o.task = frameTask)
  then s else s.addWork { task := frameTask, node := .issue }

/-- On free-running ports PHASE_NS shows the drift (R177). -/
def State.drift (s : State) : State :=
  if s.frames.lock = .freeRun then
    { s with frames := { s.frames with phase := ((s.frames.f : Int) + s.frames.k) * 125000 - s.time.now } } else s

/-- The start of a microframe. -/
def State.boundary (s : State) : State :=
  let s := { s with frames := { s.frames with f := s.frames.f + 1 } }
  let s := s.stepTime.drift.policySwap.unpark
  let s := s.flows.foldl (fun a f => a.slotFlow a.frames.f f.t f.h) s
  let s := s.sendLtr.wantTrim
  s.devs.foldl State.sofOf s

/-- MICROFRAME_BOUNDARY (R174): none while POR_N is low or SCHED is in retention. -/
def execMicroframeBoundary (s : State) : Host.Outcome State Fault Refusal :=
  .next (if s.pins.porN && s.power.saved.isNone then s.boundary else s)

/-! ### The delay wheel (R226, R227) -/

/-- The delays due by a Keeper time are released in the order of R227, behind the releases left of earlier ticks; the windows of seal
failures that have passed need no operation. `slept` is the Keeper time that was saved for LP3, after which a delay that fell due is late
(13 R341). -/
def State.releaseDelays (s : State) (start : Nat) (slept : Option Nat) : State :=
  let due := sortBy (fun a b => a.due ≤ b.due) (s.sched.wheel.filter (fun d => d.due ≤ start && d.why ≠ .failures))
  let late := fun (d : Delay) => match slept with | some n => decide (n < d.due) | none => false
  ({ s with sched := { s.sched with
    wheel := s.sched.wheel.filter (fun d => start < d.due),
    carried := satAdd s.sched.carried s.sched.due.length (2 ^ 32 - 1),
    due := s.sched.due ++ due.map (fun (d : Delay) => { d with late := late d }) } } : State).dropFailures

/-- WHEEL_TICK (R226): one tick's releases; none while SCHED is in retention. -/
def execWheelTick (s : State) : Host.Outcome State Fault Refusal :=
  .next (if s.power.saved.isNone then s.releaseDelays (s.time.now / 1000 * 1000) none else s)

/-- SCH_WHEEL.OVERFLOW: delays more than 4,095 ticks ahead. -/
def State.overflow (s : State) : Nat :=
  (s.sched.wheel.filter (fun d => s.time.now / 1000 + 4095 < (d.due + 999) / 1000)).length

/-! ### Gates (R243, R252, R254) -/

/-- The gates of a port take the mask of this moment. -/
def SluicePort.edge (p : SluicePort) (now : Nat) : SluicePort := { p with open8 := p.maskAt now }

/-- GATE_EDGE (R243). -/
def execGateEdge (p : PortId) (s : State) : Host.Outcome State Fault Refusal :=
  .next (s.modSluice p (fun q => q.edge s.time.now))

/-- A transaction of a port side is in progress. -/
def State.portInTransaction (s : State) (p : PortId) (ss : Bool) : Bool :=
  (allFin 32).any (fun w => match (vget s.sched.workers w).cur with | some o => !o.stale && s.issuesOn p ss o | none => false)

/-- The admin list becomes the operating list at S. -/
def State.switchover (s : State) (p : PortId) : State :=
  let q := vget s.sluice.ports p
  let busy := [false, true].filter (s.portInTransaction p)
  let s := s.modSluice p (fun q =>
    ({ q with oper := some { base := q.adminBase, entries := q.admin }, admin := [], state := .empty,
              overFrom := busy.map (fun ss => (ss, q.switchAt)), overruns := satAdd q.overruns busy.length 65535, switchAt := 0 }).edge s.time.now)
  if q.admin.isEmpty then s else s.retest (fun f => f.dev.port = p)

/-- SLUICE_SWITCHOVER (R252): Keeper time has reached S of a PENDING list. -/
def execSluiceSwitchover (p : PortId) (s : State) : Host.Outcome State Fault Refusal :=
  let q := vget s.sluice.ports p
  .next (if q.state = .pending && q.switchAt ≤ s.time.now then s.switchover p else s)

end Sys2Proof.Machine
end

