-- ==== Sys2Proof/Machine/TenantOrders.lean ====
section
/-! DEFINITION. The tenant orders that open, close and steer handles and act on a VP's device (05 R124 to R136, R419; 06 R163 to
R166). An order whose row cannot run yet leaves the state as it is: the row runs when it can. -/

namespace Sys2Proof.Machine

/-- NOOP (R130). -/
def execNoop (f : Fn) (k : Nat) (s : State) : Host.Outcome State Fault Refusal :=
  .next (s.withOrder f k 0 (fun _ => s.endOrder f k .success 0 0 0))

/-! ### Handles -/

/-- OPEN_EP's fields (Table 5.10). -/
def Order.openVp (o : Order) : Nat := field (o.p 0) 16 7
def Order.epAddr (o : Order) : Byte := BitVec.ofNat 8 (field (o.p 0) 24 8)
def Order.ringEntries (o : Order) : Nat := field (o.p 2) 0 17

/-- The ranges of Table 5.10. -/
def Order.openOk (o : Order) : Bool :=
  1 ≤ o.openVp && o.openVp ≤ 64 && o.epAddr &&& 0x70 = 0 && 8 ≤ o.ringEntries && o.ringEntries ≤ 65536

/-- The endpoint of a device that an address names: the default pipe, or one in a current alternate setting of the active
configuration as read now (R132). -/
def Dev.endpoint (d : Dev) (cfg : List AltSetting) (a : Byte) : Option EpDesc :=
  if a = 0 then some { addr := 0, kind := .control, mps := d.mps0, burst := 1, bInterval := 0 }
  else if d.config = 0 then none
  else (cfg.filter (fun x => x.alt = (d.alts.lookup x.iface).getD 0)).findSome? (fun x => x.eps.find? (fun e => e.addr = a))

/-- Periodic admission where the endpoint is periodic: none when it fails (07 R183). -/
def State.admitEp (s : State) (t : TenantId) (d : Dev) (e : EpDesc) : Option (Option Resv) × State :=
  if e.kind = .iso || e.kind = .interrupt then
    match s.reserveEp t d e with
    | (some r, s) => (some (some r), s)
    | (none, s) => (none, s)
  else (some none, s)

/-- A handle opens at an entry (Table 5.3, 11 R299). -/
def State.openFlow (s : State) (t : TenantId) (o : Order) (d : Dev) (e : EpDesc) (r : Option Resv) (entry : Nat) : State :=
  let f : Flow := { t := t, h := o.handle, entry := entry, vp := o.openVp, dev := d.id, ep := e,
                    cls := ⟨field (o.p 0) 32 3, Nat.mod_lt _ (by decide)⟩, plOff := field (o.p 0) 40 3,
                    ringBase := o.p 1, ringEntries := o.ringEntries, deq := o.p 1, resv := r }
  { s with flows := s.flows ++ [f] }

/-- The checks of R132 and, when all pass, the open handle. -/
def State.openEp (s : State) (t : TenantId) (k : Nat) (o : Order) (cfg : List AltSetting) : State :=
  let fin := fun (s : State) st d => s.endOrder (.vf t) k st o.handle.val 0 d
  if !o.openOk then fin s .badDescriptor 0
  else if (s.flow? t o.handle).isSome then fin s .notPermitted 1
  else if o.gone then fin s .detached 0
  else match s.vpDev t o.openVp with
    | none => fin s .notPermitted 3
    | some d =>
      if d.reset ≠ .none || d.resume ≠ .none then s
      else match d.endpoint cfg o.epAddr with
        | none => fin s .notPermitted 4
        | some e =>
          if (s.share t).epQuota ≤ s.use t then fin s .overQuota 0
          else match s.admitEp t d e with
            | (none, s) => fin s .noBandwidth 0
            | (some r, s) => match s.freeEntry (s.share t).bank with
              | some n => fin ((s.openFlow t o d e r n).syncU2 d.id) .success 0
              | none => fin s .overQuota 0

/-- OPEN_EP (R132): `cfg` is the active configuration's alternate settings as read from the device now. -/
def execOpenEp (t : TenantId) (k : Nat) (cfg : List AltSetting) (s : State) : Host.Outcome State Fault Refusal :=
  .next (s.withOrder (.vf t) k 1 (fun o => s.openEp t k o cfg))

/-- A transfer that a split transaction carried is cut off: the TT is cleared (06 R151). -/
def State.cutSplits (s : State) (p : Flow → Bool) : State :=
  (s.flows.filter (fun f => p f && f.xs.any (fun x => x.issued))).foldl (fun (a : State) f => a.wantTtClear f.t f.h) s

/-- A handle is closed: abrupt end with ABORTED, its pipe torn down, its reservation freed. A partly carried seal unit
leaves nothing to resynchronise, since the pipe goes. -/
def State.closeFlow (s : State) (t : TenantId) (h : Fin 1024) (k : Nat) : State :=
  let s := s.cutSplits (fun f => f.t = t && f.h = h)
  let s := (s.dropHs t h).tearDown t h 0 true true
  s.modFlow t h (fun f =>
    { f.abruptEnd .aborted false false (if f.st = .lost then .lost else .detached) with resv := none, closing := some k })

/-- CLOSE_EP (R124): once the transaction in progress has ended. The order completes when what the abrupt end completed has been
released. -/
def execCloseEp (t : TenantId) (k : Nat) (s : State) : Host.Outcome State Fault Refusal :=
  .next (s.withOrder (.vf t) k 2 (fun o =>
    match s.flow? t o.handle with
    | none => s.endOrder (.vf t) k .notPermitted o.handle.val 0 2
    | some f =>
      if s.inTransaction f.entry then s
      else ((s.closeFlow t o.handle k).waitOrder (.vf t) k).finishClose t o.handle))

/-- The checks that RESET_EP and SET_DEQUEUE share (R419): the handle open, not gone, halted. -/
def State.haltedChecks (s : State) (t : TenantId) (h : Fin 1024) : Option Nat :=
  match s.flow? t h with
  | none => some 2
  | some f => if f.st = .detached || f.st = .lost then some 6 else if f.st ≠ .halted then some 5 else none

/-- RESET_EP (R133): the halt clears, fetch resumes, and what is announced rejoins the submission order (08 R224). -/
def execResetEp (t : TenantId) (k : Nat) (s : State) : Host.Outcome State Fault Refusal :=
  .next (s.withOrder (.vf t) k 3 (fun o =>
    match s.haltedChecks t o.handle with
    | some d => s.endOrder (.vf t) k .notPermitted o.handle.val 0 d
    | none =>
      ((s.modFlow t o.handle (fun f => { f with st := .running, links := 0, lastInterval := none })).rejoin t o.handle).endOrder
        (.vf t) k .success o.handle.val 0 0))

/-- SET_DEQUEUE (R133): the dequeue pointer, CONSUMED and LAST are set; the handle stays HALTED. -/
def execSetDequeue (t : TenantId) (k : Nat) (s : State) : Host.Outcome State Fault Refusal :=
  .next (s.withOrder (.vf t) k 4 (fun o =>
    if field (o.p 1) 0 6 ≠ 0 then s.endOrder (.vf t) k .badDescriptor o.handle.val 0 0
    else match s.haltedChecks t o.handle with
      | some d => s.endOrder (.vf t) k .notPermitted o.handle.val 0 d
      | none =>
        let n : BitVec 32 := (o.p 2).extractLsb' 0 32
        ((s.modFlow t o.handle (fun f =>
          { f with deq := o.p 1, consumed := n, last := n, links := 0, lastInterval := none })).rejoin t o.handle).endOrder
          (.vf t) k .success o.handle.val 0 0))

/-- GROUP of a SET_GROUP. -/
def Order.group (o : Order) : Nat := field (o.p 0) 16 7

/-- SET_GROUP (R134): once no TD of the handle is in flight it moves, and what is announced joins the new order at its end. -/
def execSetGroup (t : TenantId) (k : Nat) (s : State) : Host.Outcome State Fault Refusal :=
  .next (s.withOrder (.vf t) k 0xC (fun o =>
    let h := o.handle
    let fin := fun (s : State) st d => s.endOrder (.vf t) k st h.val 0 d
    if 64 < o.group then fin s .badDescriptor 0
    else match s.flow? t h with
      | none => fin s .notPermitted 2
      | some f =>
        let full := 16 ≤ (s.flows.filter (fun g => g.t = t && g.group = o.group)).length
        if o.group ≠ 0 && f.group ≠ o.group && full then fin s .notPermitted 13
        else if !f.tds.isEmpty || !f.done.isEmpty then s
        else if f.group = o.group then fin s .success 0
        else
          let s := s.modFlow t h (fun f => { f with group := o.group })
          fin (if f.announced.isEmpty then s else s.rejoin t h) .success 0))

/-! ### The device of a VP (06 R163 to R166) -/

/-- A PORT_RESET, PORT_SUSPEND or PORT_RESUME on the device of its VP, once no resume, reset or suspend of the device is in progress
unless `free` lets it run. -/
def State.onVp (s : State) (t : TenantId) (k code : Nat) (free : Dev → Bool) (act : Order → Dev → State) : State :=
  s.withOrder (.vf t) k code (fun o =>
    let fin := fun st d => s.endOrder (.vf t) k st o.vp 0 d
    if o.vp = 0 || 64 < o.vp then fin .badDescriptor 0
    else if o.gone then fin .detached 0
    else match s.vpDev t o.vp with
      | none => fin .notPermitted 3
      | some d => if d.reset ≠ .none || d.suspendWait.isSome || !(free d) then s else act o d)

/-- The handles of a VP end before its device is reset: the default pipe goes on with what is announced, the others halt (R124,
R125). -/
def State.resetHandles (s : State) (t : TenantId) (vp : Nat) : State :=
  { s with flows := s.flows.map (fun f =>
      if f.t = t && f.vp = vp && f.st = .running then
        (if f.control && f.ep.addr = 0 then
          { f.abruptEnd .aborted true false .running with announced := f.announced, toggle := 0 }
         else f.abruptEnd .aborted true true .halted)
      else f) }

/-- A reset of the device of a VP starts (R163): its handles end, its pipes are torn down without TEARDOWN (10 Table 10.7). -/
def State.resetVp (s : State) (t : TenantId) (d : Dev) (k : Nat) : State :=
  let s := (s.cutSplits (fun f => f.t = t && f.vp = d.vp)).resetHandles t d.vp
  let s := s.tearDownAll (fun f => f.t = t && f.dev = d.id) 0 false true
  (s.beginReset d.id (.order t k)).waitOrder (.vf t) k

/-- A handshake of a device is in progress (Table 10.7). -/
def State.handshaking (s : State) (d : DevId) : Bool :=
  s.seals.hs.any (fun x => match s.flow? x.t x.h with | some f => f.dev = d | none => false)

/-- PORT_RESET (R163): once no resume or handshake of the device is in progress and its transactions have ended. -/
def execPortReset (t : TenantId) (k : Nat) (s : State) : Host.Outcome State Fault Refusal :=
  .next (s.onVp t k 5 (fun d => d.resume = .none && !s.handshaking d.id && !s.devBusy d.id) (fun _ d => s.resetVp t d k))

/-- PORT_SUSPEND (R164): after any resume, and at the end of a transaction in progress. -/
def execPortSuspend (t : TenantId) (k : Nat) (s : State) : Host.Outcome State Fault Refusal :=
  .next (s.onVp t k 6 (fun d => d.resume = .none) (fun _ d =>
    if d.suspended then s.endOrder (.vf t) k .success d.vp 0 0
    else ((s.modDev d.id (fun x => { x with suspendWait := some k, remote := false })).waitOrder (.vf t) k).suspendDue d.id))

/-- PORT_RESUME (R165): a device that is not suspended completes at once; one that resumes already completes with that resume. -/
def execPortResume (t : TenantId) (k : Nat) (s : State) : Host.Outcome State Fault Refusal :=
  .next (s.onVp t k 7 (fun _ => true) (fun _ d =>
    if d.resume ≠ .none then
      (s.modDev d.id (fun x => { x with resumeOrder := some k })).waitOrder (.vf t) k
    else if d.suspended then (s.beginResume d.id (some k)).waitOrder (.vf t) k
    else s.endOrder (.vf t) k .success d.vp 0 0))

end Sys2Proof.Machine
end

