-- ==== Sys2Proof/Machine/ManagerOrders.lean ====
section
/-! DEFINITION. The manager orders (03 R70 to R72; 06 R156, R157; 08 R233; 09 R251 to R253; 11 R292 to R302). An order whose row cannot
run yet leaves the state as it is: the row runs when it can. -/

namespace Sys2Proof.Machine

/-! ### Tenancy (11) -/

/-- A tenancy order's completion, TARGET the tenant. -/
def State.endTen (s : State) (k : Nat) (t : TenantId) (st : Status) (detail : Nat) : State := s.endOrder .pf0 k st t.val 0 detail

/-- TEN_ENABLE records its status in TEN_STATE.LAST_ENABLE_STATUS. -/
def State.endEnable (s : State) (k : Nat) (t : TenantId) (st : Status) (detail : Nat) : State :=
  (s.modTenant t (fun x => { x with lastEnable := BitVec.ofNat 8 st.code })).endTen k t st detail

/-- Entries that a reservation of q would need beyond what the tenant holds and the pool has; 0 if none are missing (R298). -/
def State.missing (s : State) (t : TenantId) (q : Nat) : Nat := Nat.max q (s.use t) - s.reserved t - s.pool

/-- TEN_ENABLE (R292): from STANDBY the INITIAL share waits for the swap; from QUIESCED the tenant is ACTIVE at once. -/
def execTenEnable (k : Nat) (s : State) : Host.Outcome State Fault Refusal :=
  .next (s.withOrder .pf0 k 0x40 (fun o =>
    let t := o.tenant
    match s.entry? t with
    | none => s.endEnable k t .outOfEnvelope 0xFF
    | some e => match (s.tenant t).st with
      | .quiesced => ((s.modTenant t (fun x => { x with st := .active })).endEnable k t .success 0).drainRing (.vf t)
      | .standby =>
        let n := s.missing t e.init.epQuota
        if n ≠ 0 then s.endEnable k t .overQuota n
        else (s.modTenant t (fun x => { x with swap := some e.init })).waitOrder .pf0 k
      | _ => s.endEnable k t .notPermitted 1))

/-- Step 2 of Table 11.6: transfers that have issued nothing, and orders not past CHECK, return to unfetched. -/
def State.quiesceReturn (s : State) (t : TenantId) : State :=
  let back := fun (f : Flow) => match f.xs.find? (fun x => !x.issued) with
    | some x => (match f.tds.find? (fun d => d.x = x.id && d.stage ≠ .retired) with
      | some d => f.returnFrom d.slot d.addr | none => f)
    | none => f
  let s : State := { s with flows := s.flows.map (fun f => if f.t = t then back f else f) }
  s.modRings (.vf t) (fun r =>
    let n := (r.orders.filter (fun o => o.stage = .fetched)).length
    { r with orders := r.orders.filter (fun o => o.stage ≠ .fetched), cons := (r.cons + r.orderSize - n) % r.orderSize })

/-- TEN_QUIESCE (R300): the drain starts. -/
def execTenQuiesce (k : Nat) (s : State) : Host.Outcome State Fault Refusal :=
  .next (s.withOrder .pf0 k 0x41 (fun o =>
    let t := o.tenant
    if (s.entry? t).isNone then s.endTen k t .outOfEnvelope 0xFF
    else match (s.tenant t).st with
      | .quiesced => s.endTen k t .success 0
      | .active =>
        let s := (s.modTenant t (fun x => { x with st := .quiescing })).waitOrder .pf0 k
        ((s.tenantNotice t 4).quiesceReturn t).quiesceDue
      | _ => s.endTen k t .notPermitted 1))

/-- QUIESCE_DRAIN_END (R300): nothing of the tenant is in a slot, in flight, buffered or unsent. -/
def execQuiesceDrainEnd (t : TenantId) (s : State) : Host.Outcome State Fault Refusal :=
  let x := s.tenant t
  let done := !s.tenantInSlots t && s.flows.all (fun f => f.t ≠ t || (f.tds.isEmpty && f.done.isEmpty)) &&
    x.rings.orders.isEmpty && x.rings.buf.isEmpty && x.rings.again.isEmpty && x.rings.notify.isEmpty && x.pci.held.isEmpty
  .next (if x.st = .quiescing && done then
      (s.modTenant t (fun x => { x with st := .quiesced })).endWaiting t [0x41] .success
    else s)

/-- A TEN_RESET or TEN_RELEASE of a tenant that is QUIESCED. -/
def State.whenQuiesced (s : State) (k code : Nat) (act : TenantId → State) : State :=
  s.withOrder .pf0 k code (fun o =>
    let t := o.tenant
    if (s.entry? t).isNone then s.endTen k t .outOfEnvelope 0xFF
    else if (s.tenant t).st ≠ .quiesced then s.endTen k t .notPermitted 1
    else act t)

/-- TEN_RESET (R302): steps 1 to 5 of Table 11.7. -/
def execTenReset (k : Nat) (s : State) : Host.Outcome State Fault Refusal :=
  .next (s.whenQuiesced k 0x42 (fun t =>
    ((s.wipe t).modTenant t (fun x => { x with st := if x.vf then .standby else .vacant })).endTen k t .success (s.handles t)))

/-- A manager's reset of a device whose grant ended: at once, or after the resume in progress (06 R157, Table 6.8); a reset already
in progress serves. -/
def State.ownReset (s : State) (d : DevId) (why : ResetFor) : State :=
  match s.dev? d with
  | some x =>
    if x.reset ≠ .none then s.modDev d (fun y => { y with reset := why })
    else if x.resume ≠ .none then s.modDev d (fun y => { y with resetWait := why })
    else s.beginReset d why
  | none => s

/-- Step 6 of Table 11.7 for one device: no event to the tenant, REVOKED to manager software, and the reset. -/
def State.releaseDev (s : State) (t : TenantId) (n : Nat) (d : DevId) : State :=
  let s := s.endGrant d (vcGrant ||| vcConnect) false
  (s.mgrPortNotice (s.noticeLoc d) 10).ownReset d (.release t n)

/-- TEN_RELEASE (R302): as TEN_RESET, and every grant ends; the tenant stays RESETTING until its devices have been reset. -/
def execTenRelease (k : Nat) (s : State) : Host.Outcome State Fault Refusal :=
  .next (s.whenQuiesced k 0x43 (fun t =>
    let n := s.handles t
    let s := ((s.wipe t).modTenant t (fun x => { x with st := .resetting })).waitOrder .pf0 k
    let l := vpOrder (s.devs.filter (fun d => d.st = .granted && d.tenant = some t))
    let s := (l.foldl (fun (a : State) d => a.releaseDev t n d) s).modTenant t (fun x =>
      { x with rings := { x.rings with notices := [], notify := [], buf := [] } })
    s.resetOver (.release t n)))

/-- MASK of a SET_SHARE. -/
def Order.shareMask (o : Order) : Nat := field (o.p 5) 16 16

/-- The record that a SET_SHARE carries. -/
def Order.shareWords (o : Order) : List Word := (List.range 6).map o.p

/-- The share that would result: the selected values over those in force. -/
def Order.newShare (o : Order) (t : TenantId) (old : ShareRec) : ShareRec :=
  ((List.range 14).filter (fun i => o.shareMask.testBit i)).foldl
    (fun r i => r.put i (shareValue t.val i (shareRaw o.shareWords i))) old

/-- Reserved bits, unselected bytes, ranges, and PIR against CIR where both are known (Table 11.4). -/
def State.shareOk (s : State) (o : Order) (t : TenantId) : Bool :=
  let m := o.shareMask
  let raw := shareRaw o.shareWords
  m < 2 ^ 14 && field (o.p 5) 32 32 = 0 &&
  (List.range 14).all (fun i => if m.testBit i then shareRange i (raw i) else raw i = 0) &&
  (match (s.tenant t).share with
   | some r => (o.newShare t r).cir ≤ (o.newShare t r).pir
   | none => !(m.testBit 4 && m.testBit 5) || raw 4 ≤ raw 5)

/-- The first selected field outside the tenant's envelope. -/
def Order.outside (o : Order) (t : TenantId) (e : TenantEntry) : Option Nat :=
  (List.range 14).find? (fun i => o.shareMask.testBit i &&
    !(fieldWithin i (e.min.get i) (shareValue t.val i (shareRaw o.shareWords i)) (e.max.get i)))

/-- SET_SHARE (R295): the changed share waits for the swap. -/
def execSetShare (k : Nat) (s : State) : Host.Outcome State Fault Refusal :=
  .next (s.withOrder .pf0 k 0x44 (fun o =>
    let t : TenantId := ⟨field (o.p 5) 8 8, Nat.mod_lt _ (by decide)⟩
    let x := s.tenant t
    if !s.shareOk o t then s.endTen k t .badDescriptor 0
    else match s.entry? t with
      | none => s.endTen k t .outOfEnvelope 0xFF
      | some e =>
        if !(x.st = .active || x.st = .quiescing || x.st = .quiesced) then s.endTen k t .notPermitted 1
        else if o.shareMask = 0 then s.endTen k t .success 0
        else
          let r := o.newShare t (s.share t)
          let n := s.missing t r.epQuota
          if n ≠ 0 then s.endTen k t .overQuota n
          else match o.outside t e with
            | some i => s.endTen k t .outOfEnvelope i
            | none => (s.modTenant t (fun x => { x with swap := some r })).waitOrder .pf0 k))

/-! ### Grants (06 R156, R157) -/

/-- GRANT's fields (Table 6.3). -/
def Order.device (o : Order) : Nat := field (o.p 0) 0 11
def Order.grantTenant (o : Order) : TenantId := ⟨field (o.p 0) 16 8, Nat.mod_lt _ (by decide)⟩
def Order.grantVpField (o : Order) : Nat := field (o.p 0) 24 7

/-- The path to a device is selectively suspended (13 R330). -/
def State.pathAsleep (s : State) (d : Dev) : Bool :=
  (d.suspended && d.st ≠ .granted) || s.devs.any (fun x => d.id.below x.id && x.suspended)

/-- GRANT (R156): an UNMATCHED device, once no reset or resume of it is in progress; a path that is selectively suspended is
resumed first (13 R330). -/
def execGrant (k : Nat) (s : State) : Host.Outcome State Fault Refusal :=
  .next (s.withOrder .pf0 k 0x45 (fun o =>
    let no := fun d => s.endOrder .pf0 k .notPermitted o.grantVpField 0 d
    if 64 < o.grantVpField then s.endOrder .pf0 k .badDescriptor o.grantVpField 0 0
    else match s.devAt o.device with
      | none => no 1
      | some d =>
        if d.reset ≠ .none || d.resetWait ≠ .none || d.resume ≠ .none then s
        else if d.st ≠ .unmatched then no 1
        else if (s.entry? o.grantTenant).isNone then no 2
        else match s.grantVp o.grantTenant o.grantVpField with
          | none => no 3
          | some v =>
            if s.pathAsleep d then s.beginResume d.id none
            else (s.present d.id o.grantTenant v).endOrder .pf0 k .success v 0 v))

/-- REVOKE (R157): once no other operation on the device is in progress, the grant ends, and the device is reset. -/
def execRevoke (k : Nat) (s : State) : Host.Outcome State Fault Refusal :=
  .next (s.withOrder .pf0 k 0x46 (fun o =>
    let no := s.endOrder .pf0 k .notPermitted 0 0 4
    match s.devAt o.device with
    | none => no
    | some d =>
      if d.st ≠ .granted then no
      else if d.reset ≠ .none || d.resume ≠ .none || d.suspendWait.isSome then s
      else if s.pathAsleep d then s.beginResume d.id none
      else
        let s := s.endGrant d.id (vcGrant ||| vcConnect) false
        ((s.mgrPortNotice d.loc 10).beginReset d.id (.revoke k d.vp)).waitOrder .pf0 k))

/-! ### Sluices (09 R251 to R253) -/

/-- The port that a SLUICE order names. -/
def Order.sluicePort (o : Order) : PortId := ⟨field (o.p 0) 0 4, Nat.mod_lt _ (by decide)⟩

/-- An entry of a list keeps Table 3.12. -/
def gateWordOk (w : Word) : Bool := field w 40 24 = 0 && 1000 ≤ field w 8 32

/-- SLUICE_STAGE (R251): `buf` is what the read of BUFFER returned. -/
def execSluiceStage (k : Nat) (buf : Option (List Word)) (s : State) : Host.Outcome State Fault Refusal :=
  .next (s.withOrder .pf0 k 0x47 (fun o =>
    let fin := fun (s : State) st d => s.endOrder .pf0 k st 0 0 d
    let n := field (o.p 0) 8 8
    let q := vget s.sluice.ports o.sluicePort
    if n = 0 || 128 < n then fin s .badDescriptor 0
    else if !s.sluice.staging then fin s .notPermitted 1
    else if q.state = .pending then fin s .notPermitted 2
    else match buf, s.canSend .pf0 with
      | none, true => fin (((s.sendRead .pf0 (o.p 1) (8 * n))).readError .pf0) .dmaFault 0
      | _, false => fin s .dmaFault 0
      | some l, true =>
        let s := s.sendRead .pf0 (o.p 1) (8 * n)
        let l := l.take n
        match l.findIdx? (fun w => !(gateWordOk w)) with
        | some i => fin s .badDescriptor (0x100 + i)
        | none =>
          let e := l.map gateEntry
          if l.length < n then fin s .dmaFault 0
          else if 1000000000 < cycleOf e then fin s .badDescriptor 0x200
          else fin (s.modSluice o.sluicePort (fun q => { q with admin := e, state := .staged })) .success 0))

/-- The first n ns of some entries. -/
def takeNs : List GateEntry → Nat → List GateEntry
  | [], _ => []
  | e :: l, n => if n = 0 then [] else if n ≤ e.ns then [{ e with ns := n }] else e :: takeNs l (n - e.ns)

/-- The longest unbroken open span of a class in len ns from a Keeper time, under a list that starts at a base. -/
def openSpan (l : List GateEntry) (base t len c : Nat) : Nat :=
  let g : GateList := { base := base, entries := l }
  longestRun (gateOk (some c)) (takeNs (g.ahead t ++ (List.replicate (len / Nat.max 1 (cycleOf l) + 1) l).flatten) len) 0 0

/-- The list closes a class. -/
def closes (l : List GateEntry) (c : Nat) : Bool := l.any (fun e => !(e.mask.getLsbD c))

/-- A reserved flow of a port misses its class's window in some slot (R253): the span of its class is shorter than the class's costs. -/
def State.spanShort (s : State) (l : List GateEntry) (base : Nat) (f : Flow) (r : Resv) : Bool :=
  let c := s.tcOf f
  let mates := (s.flows.filter (fun g => s.tcOf g = c)).filterMap (fun g => g.resv)
  let mates := mates.filter (fun x => x.onSide r.port r.ss)
  let m := Nat.lcm (cycleOf l / 125000) 256
  let step := if r.frame then 8 else 1
  (List.range (m / step)).any (fun i =>
    let n := i * step
    let slot := (if r.frame then n / 8 else n) % periodOf r.frame
    decide (0 < r.costAt slot) &&
    decide (openSpan l base ((((n : Int) + s.frames.k) * 125000).toNat) (125000 * step) c < (mates.map (fun x => x.costAt slot)).sum))

/-- The endpoints that conflict with a staged list (R253). -/
def State.gateConflicts (s : State) (p : PortId) (l : List GateEntry) (base : Nat) : List Flow :=
  s.flows.filter (fun f => match f.resv with
    | some r => r.port = p && closes l (s.tcOf f) && (cycleOf l % 125000 ≠ 0 || s.spanShort l base f r)
    | none => false)

/-- The switchover time S (R252). -/
def switchTime (base cycle soonest : Nat) : Nat :=
  if soonest ≤ base then base else base + (soonest - base + cycle - 1) / cycle * cycle

/-- CANCEL and FORCE of a SLUICE_COMMIT. -/
def Order.cancel (o : Order) : Bool := (o.p 0).getLsbD 9
def Order.force (o : Order) : Bool := (o.p 0).getLsbD 8

/-- SLUICE_COMMIT (R252): with CANCEL = 0 it checks the staged list and arms the switchover. -/
def execSluiceCommit (k : Nat) (s : State) : Host.Outcome State Fault Refusal :=
  .next (s.withOrder .pf0 k 0x48 (fun o =>
    let fin := fun (s : State) st d => s.endOrder .pf0 k st 0 0 d
    let q := vget s.sluice.ports o.sluicePort
    let base := (o.p 1).toNat
    if o.cancel then s
    else if !s.sluice.staging then fin s .notPermitted 1
    else if q.state = .empty then fin s .notPermitted 3
    else
      let bad := s.gateConflicts o.sluicePort q.admin base
      if !bad.isEmpty && !o.force then
        fin s .gateConflict ((bad.map (fun f => f.entry)).foldl Nat.min 16383)
      else
        let at_ := switchTime base (cycleOf q.admin) (s.time.now + s.sluice.lead)
        fin (s.modSluice o.sluicePort (fun q => { q with state := .pending, adminBase := base, switchAt := at_ })) .success
          bad.length))

/-- SLUICE_CANCEL (R251): a SLUICE_COMMIT with CANCEL = 1 empties the admin list. -/
def execSluiceCancel (k : Nat) (s : State) : Host.Outcome State Fault Refusal :=
  .next (s.withOrder .pf0 k 0x48 (fun o =>
    let fin := fun (s : State) st d => s.endOrder .pf0 k st 0 0 d
    if !o.cancel then s
    else if o.p 1 ≠ 0 then fin s .badDescriptor 0
    else if !s.sluice.staging then fin s .notPermitted 1
    else fin (s.modSluice o.sluicePort (fun q => { q with state := .empty, admin := [], switchAt := 0 })) .success 0))

/-! ### Image and claim (03 R70 to R72) -/

/-- The total that a FINAL chunk must end at: 256 + BODY_LENGTH + 64, never below 328. -/
def totalOk (l : List Byte) : Bool := 328 ≤ l.length && l.length = 256 + rd l 0x10 4 + 64

/-- IMG_STATUS.WRITE_STATE returns to IDLE. -/
def State.writeIdle (s : State) : State := { s with img := { s.img with writeState := 0, writeNext := 0, stream := [] } }

/-- The chunk of an IMAGE_WRITE is programmed and, when final, the image checked (R72). IMG_SLOT shows what the last start-up found, after
a failed FINAL chunk as well, until the next start-up (DESIGN CHOICE, notes/assumptions/101.md). -/
def State.writeChunk (s : State) (k : Nat) (o : Order) (slot : Fin 2) (l : List Byte) (flash : ProgramEnd) : State :=
  let fin := fun (s : State) st d => s.endOrder .pf0 k st 0 0 d
  let fl := if field (o.p 1) 32 24 = 0 then vset s.img.flash slot [] else s.img.flash
  let s : State := { s with img := { s.img with writeState := 1, writeNext := l.length % 2 ^ 24, writeSlot := slot, stream := l, flash := fl } }
  if flash ≠ .ok then fin s.writeIdle .busError 0
  else if !((o.p 2).getLsbD 0) then fin s .success 0
  else match checkImage s.fuses l with
    | .error e => fin s.writeIdle .badDescriptor e.reason.toNat
    | .ok i =>
      let s := s.writeIdle
      fin (({ s with img := { s.img with writeState := 2, flash := vset s.img.flash slot l } } : State).logEvent 3 none none
        (BitVec.ofNat 256 (slot.val + i.version.toNat * 2 ^ 64))) .success 0

/-- IMAGE_WRITE (R72): `data` is what the read of BUFFER returned, `flash` how the flash programmed it. A chunk that would end beyond the
slot's 8 MiB, and one that continues the open write in the other slot, are out of sequence (DESIGN CHOICE, notes/assumptions/101.md). -/
def execImageWrite (k : Nat) (data : Option (List Byte)) (flash : ProgramEnd) (s : State) : Host.Outcome State Fault Refusal :=
  .next (s.withOrder .pf0 k 0x49 (fun o =>
    let fin := fun (s : State) st d => s.endOrder .pf0 k st 0 0 d
    let len := field (o.p 1) 0 32
    let off := field (o.p 1) 32 24
    let slot : Fin 2 := if (o.p 2).getLsbD 1 then 1 else 0
    if len = 0 || len % 8 ≠ 0 || 65536 < len || 2 ^ 23 < off + len then fin s .badDescriptor 0
    else if s.img.active = slot.val + 1 then fin s .notPermitted 1
    else if off ≠ 0 && !(s.img.writeState = 1 && s.img.writeSlot = slot && off = s.img.writeNext) then fin s .badDescriptor 0
    else if s.peat.powerFail then fin s.writeIdle .aborted 0
    else match data, s.canSend .pf0 with
      | none, true => fin ((s.sendRead .pf0 (o.p 0) len).readError .pf0) .dmaFault 0
      | _, false => fin s .dmaFault 0
      | some d, true =>
        let s := s.sendRead .pf0 (o.p 0) len
        let d := rdBytes d 0 len
        let l := if off = 0 then d else s.img.stream ++ d
        if (o.p 2).getLsbD 0 && !(totalOk l) then fin s .badDescriptor 0
        else s.writeChunk k o slot l flash))

/-- The hash that a PROVISION_CLAIM programs, or its completion when it cannot. -/
def State.claimHash (s : State) (o : Order) (hash : Option (BitVec 256)) : Except (Status × Nat) (BitVec 256) :=
  let i : Fin 2 := if (o.p 0).getLsbD 1 then 1 else 0
  if s.fuses.ownerHash ≠ 0 then .error (.notPermitted, 1)
  else if !((o.p 0).getLsbD 0) then
    if (vget s.img.slots i).reason ≠ 0x08 then .error (.notPermitted, 2)
    else .ok (Config.sha256 (vget s.img.slots i).key)
  else match hash, s.canSend .pf0 with
    | some x, true => .ok x
    | _, _ => .error (.dmaFault, 0)

/-- PROVISION_CLAIM (R70): `hash` is what the read of HASH_ADDR returned, `readBack` what OTP then holds. -/
def execProvisionClaim (k : Nat) (hash : Option (BitVec 256)) (readBack : BitVec 256) (s : State) : Host.Outcome State Fault Refusal :=
  .next (s.withOrder .pf0 k 0x4C (fun o =>
    match s.claimHash o hash with
    | .error (st, d) =>
      (if st = .dmaFault && s.canSend .pf0 then (s.sendRead .pf0 (o.p 1) 32).readError .pf0 else s).endOrder .pf0 k st 0 0 d
    | .ok h =>
      let s := if (o.p 0).getLsbD 0 then s.sendRead .pf0 (o.p 1) 32 else s
      let s : State := { s with fuses := { s.fuses with ownerHash := readBack } }
      if readBack = h then s.endOrder .pf0 k .success 0 0 0 else s.endOrder .pf0 k .notPermitted 0 0 3))

/-! ### TRACE_CTL (08 R233) -/

/-- A TRACE_CTL of one ACTION; an invalid one completes in whichever row runs. -/
def State.traceCtl (s : State) (k action : Nat) (act : Order → State) : State :=
  s.withOrder .pf0 k 0x4D (fun o =>
    let a := field (o.p 0) 0 2
    let l := field (o.p 2) 0 5
    if a = 3 || (a = 1 && !(inRange 8 16 l)) || (a ≠ 1 && (o.p 1 ≠ 0 || l ≠ 0)) then s.endOrder .pf0 k .badDescriptor 0 0 0
    else if a = action then act o else s)

/-- TRACE_START (R233). -/
def execTraceStart (k : Nat) (s : State) : Host.Outcome State Fault Refusal :=
  .next (s.traceCtl k 1 (fun o =>
    if s.trace.spilling then s.endOrder .pf0 k .notPermitted 0 0 1
    else ({ s with trace := { s.trace with spilling := true, pi := 0, ci := 0, base := o.p 1, log2 := field (o.p 2) 0 5 } } : State).endOrder
      .pf0 k .success 0 0 0))

/-- TRACE_STOP (R233): spill stops; the order completes once every spill write that had begun has been posted. -/
def execTraceStop (k : Nat) (s : State) : Host.Outcome State Fault Refusal :=
  .next (s.traceCtl k 0 (fun _ =>
    if !s.trace.spilling then s.endOrder .pf0 k .success 0 0 0
    else (({ s with trace := { s.trace with spilling := false } } : State).waitOrder .pf0 k).finishStops))

/-- TRACE_CLEAR (R233). -/
def execTraceClear (k : Nat) (s : State) : Host.Outcome State Fault Refusal :=
  .next (s.traceCtl k 2 (fun _ =>
    ({ s with trace := { s.trace with buf := [], lost := 0 } } : State).endOrder .pf0 k .success 0 0 0))

end Sys2Proof.Machine
end

