-- ==== Sys2Proof/Machine/PortPower.lean ====
section
/-! DEFINITION. Port power and over-current (02 R26; 06 R168 to R172; 03 R57). -/

namespace Sys2Proof.Machine

/-! ### Over-current units (R169, R171) -/

/-- The ports that one unit of a hub feeds: all of them on a hub that gangs its power or reported a hub over-current. -/
def Dev.unit (x : Dev) (n : Nat) : List Nat :=
  match x.hub with
  | some h => if h.ganged || x.hubGang then (List.range h.ports).map (· + 1) else [n]
  | none => [n]

/-- The unit under its own name, that of its lowest port. -/
def State.ocUnit (s : State) : OcRef → OcRef
  | .root p => .root ((s.ocPorts p).headD p)
  | .hub d n => match s.dev? d with
    | some x => .hub d ((x.unit n).headD n)
    | none => .hub d n

def OcRef.port : OcRef → PortId
  | .root p => p
  | .hub d _ => d.port

def State.ocGet (s : State) : OcRef → OcSt
  | .root p => s.ocOf p
  | .hub d n => match s.dev? d with
    | some x => (x.hubOc.lookup n).getD {}
    | none => {}

def State.ocSet (s : State) (o : OcSt) : OcRef → State
  | .root p => s.setOc p o
  | .hub d n => s.modDev d (fun x =>
      { x with hubOc := (x.unit n).map (fun i => (i, o)) ++ x.hubOc.filter (fun e => !((x.unit n).contains e.1)) })

/-- Power of a unit goes off and everything below it detaches with OVER_CURRENT. -/
def State.ocCut (s : State) : OcRef → State
  | .root p => (s.ocPorts p).foldl (fun (a : State) q => a.cutPower q) s
  | .hub d n => match s.dev? d with
    | some x => (x.unit n).foldl (fun (a : State) i =>
        (a.request d (.clearPortPower i)).detach { d with path := d.path ++ [i] } true)
        (s.dropDelays (fun w => (x.unit n).any (fun i => w = .ocQuiet (.hub d i))))
    | none => s

/-- Power of a unit is raised, on root ports only where nothing holds it off; 10 s after a retry its count returns to 0. -/
def State.ocRaise (s : State) : OcRef → State
  | .root p => (s.ocPorts p).foldl (fun (a : State) q =>
      if a.mayPower q && !a.powered q then a.drivePower q true else a) s
  | .hub d n => match s.dev? d with
    | some x =>
      let s := (x.unit n).foldl (fun (a : State) i => a.request d (.setPortPower i)) s
      if (s.ocGet (.hub d n)).retries = 0 then s
      else s.setDelay (topoTask d.port) (s.time.now + 10000000000) (.ocQuiet (s.ocUnit (.hub d n)))
    | none => s

/-- A manager notice for a unit: once for each root port of it, or at the hub. -/
def State.ocNotice (s : State) (bit : Nat) : OcRef → State
  | .root p => (s.ocPorts p).foldl (fun (a : State) q => a.mgrPortNotice (q.val * 128) bit) s
  | .hub d _ => s.mgrPortNotice (s.noticeLoc d) bit

/-- A unit has power: one of its root ports, or a configured hub whose unit is neither latched nor waiting. -/
def State.ocPowered (s : State) : OcRef → Bool
  | .root p => (s.ocPorts p).any (fun q => s.powered q)
  | .hub d n =>
    (match s.dev? d with | some x => x.st = .hub | none => false) && (s.ocGet (.hub d n)).waiting.isNone && !(s.ocGet (.hub d n)).latched

/-- A trip: the power goes off; after the third retry the unit latches off, else a retry follows. -/
def State.ocTrip (s : State) (r : OcRef) : State :=
  if s.ocPowered r then
    let o := s.ocGet r
    let last := 3 ≤ o.retries
    let s := ((s.ocCut r).ocSet { o with latched := last, waiting := if last then none else some (s.time.now + 500000000) } r).ocNotice 8 r
    if last then s.ocNotice 9 r
    else s.setDelay (topoTask r.port) (s.time.now + 500000000) (.ocRetry (s.ocUnit r))
  else s

/-- An assertion of over-current outlasted the deglitch time (R169). -/
def State.overCurrent (s : State) (r : OcRef) : State :=
  let s := match r with
    | .root p => { (s.modPort p (fun q => { q with ocActive := true })) with
                   pins := { s.pins with pocN := s.pins.pocN &&& ~~~(1#16 <<< p.val) } }
    | .hub _ _ => s
  s.ocTrip r

/-- The delay of a unit that has run out: the unit under the name given, or under its own. -/
def State.onOcDelay (s : State) (w : OcRef → DelayFor) (r : OcRef) (act : State → State) : State :=
  s.onDelay (w (if (s.delayUnit (w r)).isSome then r else s.ocUnit r)) act

/-- OC_RETRY (R169): power is raised again, as one retry. -/
def execOcRetry (r : OcRef) (s : State) : Host.Outcome State Fault Refusal :=
  .next (s.onOcDelay .ocRetry r (fun s =>
    let o := s.ocGet r
    if o.waiting.isSome then (s.ocSet { o with waiting := none, retries := o.retries + 1 } r).ocRaise r else s))

/-- Devices whose feed stops showing OVER_CURRENT say so (R169). -/
def State.ocCalm (s pre : State) : State :=
  (s.devs.filter (fun d => pre.fedOc d.id && !s.fedOc d.id)).foldl (fun (a : State) d => a.vpEvent d.id vcOverCurrent) s

/-- OC_RETRY_COUNT_CLEAR (R169): 10 s of power without a trip. -/
def execOcRetryCountClear (r : OcRef) (s : State) : Host.Outcome State Fault Refusal :=
  .next (s.onOcDelay .ocQuiet r (fun s =>
    let o := s.ocGet r
    if o.retries ≠ 0 && o.waiting.isNone && !o.latched then (s.ocSet { o with retries := 0 } r).ocCalm s else s))

/-- POC_N_DEASSERT (R169): OC_ACTIVE clears. -/
def execPocNDeassert (p : PortId) (s : State) : Host.Outcome State Fault Refusal :=
  .next { (s.modPort p (fun q => { q with ocActive := false })) with
          pins := { s.pins with pocN := s.pins.pocN ||| (1#16 <<< p.val) } }

/-! ### PRT_PORT_CTL (R168, R170, R171) -/

/-- OC_CLEAR of a latched port or gang; it also clears the latched hub ports below the root port. -/
def State.ocClear (s : State) (p : PortId) : State :=
  let s := if (s.ocOf p).latched then (s.setOc p {}).ocRaise (.root p) else s
  let l := s.devs.flatMap (fun x => if x.id.port = p then
    (x.hubOc.filter (fun e => e.2.latched)).map (fun e => (x.id, e.1)) else [])
  l.foldl (fun (a : State) e =>
    if (a.ocGet (.hub e.1 e.2)).latched then (a.ocSet {} (.hub e.1 e.2)).ocRaise (.hub e.1 e.2) else a) s

/-- POWER_OFF: 1 powers the port off; 0 powers it on again and clears latched PHY faults (15 R385). -/
def State.powerOff (s : State) (p : PortId) (on : Bool) : State :=
  let was := (vget s.ports p).powerOff
  let s := s.modPort p (fun q => { q with powerOff := on })
  if on && !was then s.drivePower p false
  else if !on && was then
    let clear := fun (x : Side) => if x.phyLatched then { x with phyLatched := false, phyFaults := [] } else x
    let s := s.modPort p (fun q => { q with usb2 := clear q.usb2, ss := clear q.ss })
    if s.mayPower p then s.drivePower p true else s
  else s

def State.portCtlView (s : State) (p : PortId) : Word := BitVec.ofNat 64 (b2n (vget s.ports p).powerOff)

/-- What a write of PRT_PORT_CTL does. -/
def State.writePortCtl (p : PortId) (v : Word) (s : State) : State :=
  let s := s.powerOff p (v.getLsbD 0)
  if v.getLsbD 1 then s.ocClear p else s

/-- A write of PRT_PORT_CTL. -/
def State.portCtlWrite (s : State) (p : PortId) (a : WrAcc) (v : Word) : State :=
  s.regWrite .pf0 (0x40080 + 8 * p.val) .side (masks [(63, 2)]) (s.portCtlView p) a v (State.writePortCtl p)

/-- OC_CLEAR (R170). -/
def execOcClear (p : PortId) (a : WrAcc) (v : Word) (s : State) : Host.Outcome State Fault Refusal :=
  .next (s.portCtlWrite p a v)

/-- POWER_OFF (R168). -/
def execPowerOff (p : PortId) (a : WrAcc) (v : Word) (s : State) : Host.Outcome State Fault Refusal :=
  .next (s.portCtlWrite p a v)

/-! ### The power-up sequence (03 R57) -/

/-- PORT_POWER_STEP (R57): the next enabled port's PPWR_EN rises; a port held off stays unpowered. -/
def execPortPowerStep (s : State) : Host.Outcome State Fault Refusal :=
  match s.img.portSeq with
  | [] => .next s
  | p :: l =>
    let s : State := { s with img := { s.img with portSeq := l } }
    .next (if s.mayPower p && !s.powered p then s.drivePower p true else s)

end Sys2Proof.Machine
end

