-- ==== Sys2Proof/Machine/Topology.lean ====
section
/-! DEFINITION. Enumeration, hubs, grant rules, detach, reset, suspend and resume, link power (06 R137 to R167; 07
R205, R206; 13 R330). -/

namespace Sys2Proof.Machine

/-! ### A device is seen (Table 6.1 step 1) -/

/-- A device can be at this position: root ports have power and enumeration has started on the side, hub ports lie on a configured
hub that is awake; the speed belongs to the side. -/
def State.canAttach (s : State) (d : DevId) (sp : Speed) : Bool :=
  s.img.locked && (s.dev? d).isNone && sp.isSs = d.ss &&
  (match d.parent, d.path.getLast? with
   | some h, some n => match s.dev? h with
     | some x => x.st = .hub && !x.suspended && 1 ≤ n && n ≤ (match x.hub with | some y => y.ports | none => 0) &&
       s.ocPowered (.hub h n) && d.path.length ≤ 5
     | none => false
   | _, _ => s.powered d.port && (s.side d.port d.ss).on && !(s.side d.port d.ss).phyLatched)

/-- A connect is seen: the device is debounced for 100 ms. -/
def State.attach (s : State) (d : DevId) (sp : Speed) : State :=
  if s.canAttach d sp then
    ({ s with devs := s.devs ++ [{ id := d, speed := sp }] } : State).setDelay (topoTask d.port) (s.time.now + 100000000) (.debounce d)
  else s

/-- ENUMERATE_START (R144): 100 ms after PPWR_EN rose enumeration starts on a powered root port; a device found there has just connected. -/
def execEnumerateStart (p : PortId) (found : Option Speed) (s : State) : Host.Outcome State Fault Refusal :=
  let q := vget s.ports p
  let ssOn : Bool := match s.img.image with | some i => i.glob.ssEnable.getLsbD p.val | none => false
  let on := fun (x : Side) => { x with on := !x.phyLatched }
  .next (s.onDelay (.enumStart p) (fun s =>
    if s.img.locked && s.powered p && !(q.usb2.on && (q.ss.on || !ssOn)) then
      let s := (s.modPort p (fun q => { q with usb2 := on q.usb2, ss := if ssOn then on q.ss else q.ss })).addWork
        { task := topoTask p, node := .check, why := some (.enumerate p) }
      match found with
      | some sp => s.attach { port := p, ss := sp.isSs, path := [] } sp
      | none => s
    else s))

/-- ENUMERATE (R144, 08 R228): after lock the item of a root port runs as a node of its TOPO task, and its steps as that task's
requests and delays. -/
def execEnumerate (p : PortId) (s : State) : Host.Outcome State Fault Refusal := .next (s.onDelay (.enumerate p) (fun s => s))

/-- Run a step of a device that is present and passes a test. -/
def State.onDev (s : State) (d : DevId) (p : Dev → Bool) (act : Dev → State) : State :=
  match s.dev? d with
  | some x => if p x then act x else s
  | none => s

/-- DEBOUNCE_END (R141): step 2 ends; the device asks for the default address. -/
def execDebounceEnd (d : DevId) (s : State) : Host.Outcome State Fault Refusal :=
  .next (s.onDelay (.debounce d) (fun s => s.onDev d (fun x => x.step = .debounce) (fun _ => s.askDefault d)))

/-- RESET_RECOVERY_END (R141): step 5 ends and step 6 is issued. -/
def execResetRecoveryEnd (d : DevId) (s : State) : Host.Outcome State Fault Refusal :=
  .next (s.onDelay (.resetRecovery d) (fun s => s.onDev d (fun x => x.step = .recovery) (fun _ =>
    (s.modDev d (fun x => { x with step := .desc8 })).request d .getDevice8)))

/-! ### Failure (R140, R143, R150) -/

/-- The port above a device is disabled and stays powered; its address is free (R138). -/
def State.disablePort (s : State) (d : DevId) : State :=
  (((s.modDev d (fun x => { x with portOff := true, addr := 0, newAddr := 0, step := .done, linkU := 0 })).dropDefault d).dropReqs
    (fun q => q.d = d)).request d .disablePort

/-- The third failed attempt: FAILED; a reset's grant ends as a detach does, and its order completes (R143, R163). DESIGN CHOICE: the
address is freed first, so that ENUM_FAILED carries the locator of the parent (notes/assumptions/60.md). -/
def State.failDev (s : State) (x : Dev) : State :=
  let s := s.endGrant x.id (vcConnect ||| vcGrant) true
  let s := if x.st = .granted then s.mgrPortNotice x.loc 3 else s
  let s := (s.disablePort x.id).modDev x.id (fun y => { y with st := .failed, reset := .none, resetWait := .none })
  let s := ((s.resetOver x.reset).resetOver x.resetWait).freeTts
  s.mgrPortNotice (s.noticeLoc x.id) 4

/-- Step 8 is behind a device that still enumerates. -/
def EnumStep.pastReads : EnumStep → Bool
  | .setSel | .setIsoch | .hubConfig | .hubAlt | .hubDesc | .hubDepth | .hubPower => true
  | _ => false

/-- A step fails: back to the reset, or the third failure (R143). What step 8 read is kept for R145. -/
def State.failStep (s : State) (x : Dev) : State :=
  let read := x.step.pastReads
  if 3 ≤ x.attempts + 1 then s.failDev x
  else
    let s := s.modDev x.id (fun y =>
      { y with attempts := y.attempts + 1, desc := none, configs := [], bos := none, serial := none, langs := none,
               part := none, hub := none, config := if y.reset = .none then 0 else y.config,
               alts := if y.reset = .none then [] else y.alts, addr := if y.reset = .none then 0 else y.addr, newAddr := 0,
               old := match y.old, y.desc with
                 | some o, _ => some o
                 | none, some e => if read then some (e, y.serial) else none
                 | none, none => none })
    s.askDefault x.id

/-- A device that cannot be addressed: its port is disabled, with a notice at the hub above (R140, R150). -/
def State.limitDev (s : State) (d : DevId) (bit : Nat) : State :=
  (s.disablePort d).mgrPortNotice ((s.disablePort d).noticeLoc d) bit

/-! ### Steps 6 to 8 -/

/-- ENUM_RESET_END (R141): step 4 ends. A SuperSpeed device whose link reached U0 had no reset to make. -/
def execEnumResetEnd (e : ResetEnd) (s : State) : Host.Outcome State Fault Refusal :=
  let d := e.dev
  let act := fun (s : State) => s.onDev d (fun x => x.step = .reset && x.reset = .none) (fun x =>
    if e.ok then (s.modDev d (fun x => { x with step := .recovery })).setDelay (topoTask d.port) (s.time.now + 10000000) (.resetRecovery d)
    else s.failStep x)
  .next (s.onDev d (fun x => x.step = .reset && x.reset = .none) (fun _ =>
    let isReset := fun (r : UsbReq) => match r with | .portReset _ => true | _ => false
    if (s.reqOf d isReset).isSome then s.endReq d isReset e.ok (fun s _ => act s) else act s))

/-- SET_ADDRESS goes out. -/
def State.sendAddress (s : State) (d : DevId) (a : Nat) : State :=
  (s.modDev d (fun x => { x with newAddr := a, step := .setAddress })).request d (.setAddress a)

/-- Step 6 gave bMaxPacketSize0: the translator and the address that the device needs (R138, R140, R150). -/
def State.gotMps0 (s : State) (x : Dev) (n : Nat) : State :=
  let s := s.modDev x.id (fun y => { y with mps0 := if x.id.ss then 2 ^ n else n })
  match s.ttOf x.id x.speed with
  | some k =>
    if !s.tts.contains k && 256 ≤ s.tts.length then s.limitDev x.id 7
    else
      let s : State := if s.tts.contains k then s else { s with tts := s.tts ++ [k] }
      (match s.freeAddr x.id.port with | some a => s.sendAddress x.id a | none => s.limitDev x.id 6)
  | none => match s.freeAddr x.id.port with | some a => s.sendAddress x.id a | none => s.limitDev x.id 6

/-- What step 8 reads next: the device descriptor, each configuration, the BOS, string 0, the serial string. Of a configuration and of the
BOS the head comes first, which gives the full length. -/
inductive NextRead where
  | device | configHead | config (n : Nat) | bosHead | bos (n : Nat) | langs | serial (lang : Nat) | finished
  deriving DecidableEq, Repr

def Dev.nextRead (x : Dev) : NextRead :=
  match x.desc with
  | none => .device
  | some y =>
    if x.configs.length < y.numConfigs then (match x.part with | some n => .config n | none => .configHead)
    else if 0x0201 ≤ y.bcdUsb.toNat && x.bos.isNone then (match x.part with | some n => .bos n | none => .bosHead)
    else match x.langs with
      | none => .langs
      | some l => match l with
        | g :: _ => if y.iSerial ≠ 0 && x.serial.isNone then .serial g else .finished
        | [] => .finished

/-- The request of a read of step 8. -/
def Dev.readReq (x : Dev) : Option UsbReq :=
  match x.nextRead with
  | .device => some (.getDescriptor 1 0 0 18)
  | .configHead => some (.getDescriptor 2 x.configs.length 0 9)
  | .config n => some (.getDescriptor 2 x.configs.length 0 n)
  | .bosHead => some (.getDescriptor 15 0 0 5)
  | .bos n => some (.getDescriptor 15 0 0 n)
  | .langs => some (.getDescriptor 3 0 0 255)
  | .serial g => some (.getDescriptor 3 (match x.desc with | some y => y.iSerial | none => 0) g 255)
  | .finished => none

/-- Make the next read of step 8. -/
def State.readNext (s : State) (x : Dev) : State :=
  match x.readReq with | some r => s.request x.id r | none => s

/-- The device has its address; the default address is released and step 8 begins. -/
def State.gotAddress (s : State) (x : Dev) : State :=
  let s := (s.modDev x.id (fun y => { y with addr := y.newAddr, newAddr := 0, step := .descriptors })).dropDefault x.id
  match s.dev? x.id with | some y => s.readNext y | none => s

/-- The descriptors read again differ (R145). -/
def Dev.changed (x : Dev) : Bool :=
  match x.old, x.desc with
  | some (o, ser), some e => o.vid ≠ e.vid || o.pid ≠ e.pid || o.bcd ≠ e.bcd || ser ≠ x.serial
  | _, _ => false

/-! ### Grant rules (R152, R153) -/

/-- CLASS_MASK selects the positions compared. -/
def GrantRule.classOk (r : GrantRule) (c u p : Byte) : Bool :=
  (!r.clsMask.getLsbD 0 || c = r.cls) && (!r.clsMask.getLsbD 1 || u = r.sub) && (!r.clsMask.getLsbD 2 || p = r.proto)

/-- A rule matches a device (Table 6.2). -/
def GrantRule.hits (r : GrantRule) (x : Dev) (e : DevDesc) : Bool :=
  (!r.sel.getLsbD 0 || (x.id.port.val = r.rootPort && x.id.path.length = r.depth && x.id.path = r.path.take r.depth)) &&
  (!r.sel.getLsbD 1 || e.vid = r.vid) && (!r.sel.getLsbD 2 || e.pid = r.pid) &&
  (!r.sel.getLsbD 3 || r.classOk e.cls e.sub e.proto) &&
  (!r.sel.getLsbD 4 || x.configs.any (fun c => c.alts.any (fun a => r.classOk a.cls a.sub a.proto))) &&
  (!r.sel.getLsbD 5 || x.serial = some r.serialHash)

/-- The first rule that matches and can be satisfied. -/
def State.grantFor (s : State) (x : Dev) (e : DevDesc) : List GrantRule → Option (TenantId × Nat)
  | [] => none
  | r :: l =>
    let t : TenantId := ⟨r.tenant % 256, Nat.mod_lt _ (by decide)⟩
    if r.hits x e then
      match s.grantVp t r.vp with
      | some v => some (t, v)
      | none => s.grantFor x e l
    else s.grantFor x e l

/-- Step 10: the device is presented or recorded UNMATCHED. -/
def State.evaluate (s : State) (x : Dev) (e : DevDesc) : State :=
  let rules := match s.img.image with | some i => i.grants | none => []
  match s.grantFor x e rules with
  | some (t, v) => s.present x.id t v
  | none => (s.modDev x.id (fun y => { y with st := .unmatched })).mgrPortNotice x.loc 1

/-! ### Step 9 and the end of a reset -/

/-- A reset of an addressed device is over (R163): unconfigured, toggles at 0; the order or manager action that it served goes on. -/
def State.endReset (s : State) (x : Dev) : State :=
  let s := s.modDev x.id (fun y => { y with step := .done, config := 0, alts := [], old := none, u1 := false, u2 := false,
                                            reset := .none, attempts := 0 })
  let s := (s.modDevFlows x.id (fun f => { f with toggle := 0 })).vpEvent x.id (vcEnable ||| vcResetDone)
  let s := match x.reset with
    | .order t k => s.endOrder (.vf t) k .success x.vp 0 0
    | r => s.resetOver r
  if x.resetWait ≠ .none then s.beginReset x.id x.resetWait else s

/-- Step 9 is over for a device that is no hub, or begins for a hub (R139, R146). -/
def State.stepNine (s : State) (x : Dev) (e : DevDesc) : State :=
  if x.reset ≠ .none then s.endReset x
  else if e.cls = 9 then
    if 5 ≤ x.id.path.length then (s.modDev x.id (fun y => { y with st := .refused, step := .done })).mgrPortNotice x.loc 5
    else (s.modDev x.id (fun y => { y with step := .hubConfig })).request x.id (.setConfiguration 1)
  else
    let s := s.modDev x.id (fun y => { y with step := .done, old := none, attempts := 0 })
    (s.mgrPortNotice x.loc 0).evaluate x e

/-- Step 8 is over: a device whose descriptors changed detaches and attaches anew (R145). -/
def State.stepEight (s : State) (x : Dev) (e : DevDesc) : State :=
  if x.changed then
    (s.detach x.id false).attach x.id x.speed
  else if x.speed.isSs then (s.modDev x.id (fun y => { y with step := .setSel })).request x.id .setSel
  else s.stepNine x e

/-- The SHA-256 of the serial string's characters. -/
def serialHash (utf16 : List Byte) : BitVec 256 := Config.sha256 utf16

/-- What a device holds after a read of step 8; none where the reply is to another read. -/
def Dev.afterRead (x : Dev) (r : EnumReply) : Option Dev :=
  match x.nextRead, r with
  | .device, .device e => some { x with desc := some e }
  | .configHead, .total n | .bosHead, .total n => some { x with part := some n }
  | .config _, .config c => some { x with configs := x.configs ++ [c], part := none }
  | .bos _, .bos b => some { x with bos := some b, cap := tiraelOf b.caps, part := none }
  | .langs, .langs l => some { x with langs := some l }
  | .serial _, .serial u => some { x with serial := some (serialHash u) }
  | _, _ => none

/-- One read of step 8 returned. -/
def State.gotRead (s : State) (x : Dev) (r : EnumReply) : State :=
  match x.afterRead r with
  | none => s
  | some y =>
    let s := s.modDev x.id (fun _ => y)
    match y.nextRead, y.desc with
    | .finished, some e => s.stepEight y e
    | _, _ => s.readNext y

/-- The next step of a device begins with its request (R141, R146). -/
def State.nextStep (s : State) (x : Dev) (k : EnumStep) (r : UsbReq) : State :=
  (s.modDev x.id (fun y => { y with step := k })).request x.id r

/-- A hub's ports are powered in ascending order, from port n on; then 4 × bPwrOn2PwrGood ms pass (R146). -/
def State.powerHub (s : State) (x : Dev) (n : Nat) : State :=
  match x.hub with
  | some h =>
    if n ≤ h.ports then s.nextStep x .hubPower (.setPortPower n)
    else (s.modDev x.id (fun y => { y with step := .hubPower })).setDelay (topoTask x.id.port)
      (s.time.now + 4000000 * h.pwrOn) (.hubPower x.id)
  | none => s

/-- A multi-TT hub: high-speed with bDeviceProtocol 2. -/
def Dev.multiTt (x : Dev) : Bool := x.speed = .high && (match x.desc with | some e => e.proto = 2 | none => false)

/-- The step of a device and the kind of request that ends it. -/
def Dev.awaits (x : Dev) : UsbReq → Bool
  | .getDevice8 => x.step = .desc8
  | .setAddress _ => x.step = .setAddress
  | .getDescriptor _ _ _ _ => x.step = .descriptors
  | .setSel => x.step = .setSel
  | .setIsochDelay => x.step = .setIsoch
  | .setConfiguration _ => x.step = .hubConfig
  | .setInterface _ _ => x.step = .hubAlt
  | .getHub => x.step = .hubDesc
  | .setHubDepth _ => x.step = .hubDepth
  | .setPortPower _ => x.step = .hubPower
  | _ => false

/-- A reply is one to the request that a device's step waits for. -/
def Dev.answers (x : Dev) (r : EnumReply) : Bool :=
  match x.step, r with
  | _, .failed | .desc8, .maxPacket0 _ | .setAddress, .ack | .setSel, .ack | .setIsoch, .ack | .hubConfig, .ack | .hubAlt, .ack
  | .hubDesc, .hub _ | .hubDepth, .ack | .hubPower, .ack => true
  | .descriptors, r => (x.afterRead r).isSome
  | _, _ => false

/-- ENUM_REQUEST_DONE (R141): a request of enumeration ends; any that fails fails its step (R143). -/
def execEnumRequestDone (d : DevId) (r : EnumReply) (s : State) : Host.Outcome State Fault Refusal :=
  .next (s.onDev d (fun x => x.answers r) (fun x => s.endReq d x.awaits (r ≠ .failed) (fun s q =>
    match x.step, r with
    | _, .failed => s.failStep x
    | .desc8, .maxPacket0 n => s.gotMps0 x n
    | .setAddress, _ => s.gotAddress x
    | .descriptors, r => s.gotRead x r
    | .setSel, _ => s.nextStep x .setIsoch .setIsochDelay
    | .setIsoch, _ => (match x.desc with | some e => s.stepNine x e | none => s)
    | .hubConfig, _ =>
      let s := s.modDev d (fun y => { y with config := 1 })
      if x.multiTt then s.nextStep x .hubAlt (.setInterface 0 1) else s.nextStep x .hubDesc .getHub
    | .hubAlt, _ => (s.modDev d (fun y => { y with alts := [(0, 1)] })).nextStep x .hubDesc .getHub
    | .hubDesc, .hub h =>
      let s := s.modDev d (fun y => { y with hub := some h })
      if x.speed.isSs then s.nextStep x .hubDepth (.setHubDepth d.path.length) else s.powerHub { x with hub := some h } 1
    | .hubDepth, _ => s.powerHub x 1
    | .hubPower, _ => s.powerHub x (match q.r with | .setPortPower n => n + 1 | _ => 0)
    | _, _ => s)))

/-! ### Hubs (R146 to R148, R171) -/

/-- A hub's poll interval in ns: the smaller of its status-change endpoint's and 32 ms (R147). -/
def Dev.pollNs (x : Dev) : Nat :=
  let eps := x.configs.flatMap (fun c => if c.value = x.config then
    (c.alts.filter (fun a => a.alt = (x.alts.lookup a.iface).getD 0)).flatMap (fun a => a.eps) else [])
  match eps.find? (fun e => e.kind = .interrupt && e.addr.getLsbD 7) with
  | some e => Nat.min 32000000 (match x.speed with
      | .low | .full => 1000000 * e.bInterval
      | _ => 125000 * 2 ^ (e.bInterval - 1))
  | none => 32000000

/-- The next poll of a hub is due one interval from now. -/
def State.pollLater (s : State) (x : Dev) : State := s.setDelay (topoTask x.id.port) (s.time.now + x.pollNs) (.hubPoll x.id)

/-- HUB_POWER_WAIT_END (R146): the hub is configured and its connected ports start enumeration. -/
def execHubPowerWaitEnd (d : DevId) (connected : List (Nat × Speed)) (s : State) : Host.Outcome State Fault Refusal :=
  .next (s.onDelay (.hubPower d) (fun s => s.onDev d (fun x => x.step = .hubPower) (fun x =>
    let s := (s.modDev d (fun y => { y with step := .done, st := .hub, attempts := 0, old := none })).pollLater x
    connected.foldl (fun (a : State) c => a.attach { d with path := d.path ++ [c.1] } c.2) (s.mgrPortNotice x.loc 0))))

/-- HUB_POLL (R147): the poll interval of a configured hub ends; the poll goes out once the changes of the last one are acknowledged. -/
def execHubPoll (d : DevId) (s : State) : Host.Outcome State Fault Refusal :=
  .next (s.onDelay (.hubPoll d) (fun s => s.onDev d (fun x => x.st = .hub && !x.suspended && x.resume = .none) (fun x =>
    let s := s.pollLater x
    if (s.reqOf d (fun r => r = .hubPoll)).isSome then s else s.request d .hubPoll)))

/-- One change that a poll reported. -/
def State.hubChange (s : State) (d : DevId) : HubChange → State
  | .connect n sp => s.attach { d with path := d.path ++ [n] } sp
  | .disconnect n => s.detach { d with path := d.path ++ [n] } false
  | .overCurrent n => s.ocTrip (.hub d n)
  | .hubOverCurrent =>
    let ofHub := fun (r : OcRef) => match r with | .hub e _ => decide (e = d) | .root _ => false
    let s := s.dropDelays (fun w => match w with | .ocRetry r | .ocQuiet r => ofHub r | _ => false)
    (s.modDev d (fun x => { x with hubGang := true })).ocTrip (.hub d 1)
  | .ocCleared _ => s

/-- The port and the change feature of a change; port 0 is the hub itself. -/
def HubChange.feature : HubChange → Nat × Nat
  | .connect n _ | .disconnect n => (n, 16)
  | .overCurrent n | .ocCleared n => (n, 19)
  | .hubOverCurrent => (0, 1)

/-- HUB_POLL_DONE (R147): each change is read with GetPortStatus, acknowledged with ClearPortFeature and handled. A poll without a change
may end in any way. -/
def execHubPollDone (d : DevId) (ch : List HubChange) (s : State) : Host.Outcome State Fault Refusal :=
  .next (s.endReq d (fun r => r = .hubPoll) (!ch.isEmpty) (fun s _ =>
    ch.foldl (fun (a : State) c => (((a.request d (.getPortStatus c.feature.1)).request d
      (.clearPortChange c.feature.1 c.feature.2))).hubChange d c) s))

/-! ### Resume (R165, R166) -/

/-- Remote wake (R165): a suspended device, or one in L1, is resumed; during a controller-driven resume it is the same resume. -/
def State.remoteWake (s : State) (d : DevId) : State :=
  s.onDev d (fun x => x.reset = .none) (fun x =>
    if x.resume ≠ .none then
      (if x.remote then s else s.modDev d (fun y => { y with remote := true, collided := true }))
    else if x.suspendWait.isSome then s.modDev d (fun y => { y with remote := true })
    else if x.suspended || x.l1 then (s.modDev d (fun y => { y with remote := true })).beginResume d none
    else s)

/-- Function Wake (R165): on a link in U0 it needs no resume; a suspended device is resumed. -/
def State.functionWake (s : State) (d : DevId) : State :=
  s.onDev d (fun x => d.ss && x.reset = .none) (fun x =>
    if x.suspended then
      (if x.resume ≠ .none then (if x.remote then s else s.modDev d (fun y => { y with remote := true, collided := true }))
       else (s.modDev d (fun y => { y with remote := true })).beginResume d none)
    else if x.suspendWait.isSome then s.modDev d (fun y => { y with remote := true })
    else (s.modDev d (fun y => { y with linkU := 0 })).vpEvent d vcRemoteWake)

/-- The port watcher still drives the port of a device: its island is not ready to take it over (13 R332). -/
def State.watching (s : State) (d : DevId) : Bool :=
  s.power.watched.any (fun e => e.port = d.port && e.side = if d.ss then .ssport else .hsport)

/-- RESUME_SIGNALLING_END (R165): recovery begins, once the port island has the port. -/
def execResumeSignallingEnd (d : DevId) (s : State) : Host.Outcome State Fault Refusal :=
  .next (s.onDev d (fun x => x.resume = .signalling && !s.watching d &&
      (match s.reqOf d (fun r => r = .resume) with | some q => q.stage = 3 | none => false)) (fun _ =>
    ((s.dropReqs (fun q => q.d = d && q.r = .resume)).modDev d (fun x => { x with resume := .recovery })).setDelay (topoTask d.port)
      (s.time.now + 10000000) (.resumeRecovery d)))

/-- A device has resumed. -/
def State.endResume (s : State) (x : Dev) : State :=
  let c := (if x.suspended then vcSuspend else 0) ||| (if x.remote then vcRemoteWake else 0) |||
    (if x.collided then vcCollided else 0)
  let s := s.modDev x.id (fun y => { y with resume := .none, resumeOrder := none, suspended := false, l1 := false, linkU := 0,
                                            remote := false, collided := false })
  let s := if c = 0 then s else s.vpEvent x.id c
  let s := match x.resumeOrder, x.tenant with
    | some k, some t => s.endOrder (.vf t) k .success x.vp 0 0
    | _, _ => s
  let s := if x.resetWait ≠ .none then s.beginReset x.id x.resetWait else s
  (if x.st = .hub then s.pollLater x else s).kickResumes

/-- What a device answers with now differs from what it was enumerated with (R145). -/
def Dev.differs (x : Dev) (e : DevDesc) (serial : Option (List Byte)) : Bool :=
  match x.desc with
  | some o => o.vid ≠ e.vid || o.pid ≠ e.pid || o.bcd ≠ e.bcd || x.serial ≠ serial.map serialHash
  | none => false

/-- RESUME_RECOVERY_END (R165): the device's waiting TDs continue. One whose descriptors have changed across the resume, as far as they
are read again, detaches and attaches anew (R145). -/
def execResumeRecoveryEnd (r : ResumeEnd) (s : State) : Host.Outcome State Fault Refusal :=
  let d := r.dev
  .next (s.onDelay (.resumeRecovery d) (fun s => s.onDev d (fun x => x.resume = .recovery) (fun x =>
    if r.desc.any (fun e => x.differs e r.serial) then (s.detach d false).attach d x.speed
    else s.endResume x)))

/-- PORT_RESET_END (R163): the reset of an addressed device and its recovery end; the previous address is given again. -/
def execPortResetEnd (d : DevId) (ok : Bool) (s : State) : Host.Outcome State Fault Refusal :=
  .next (s.onDev d (fun x => x.step = .reset && x.reset ≠ .none) (fun x =>
    s.endReq d (fun r => match r with | .portReset _ => true | _ => false) ok (fun s _ => if ok then
      (s.modDev d (fun y =>
        { y with desc := none, configs := [], bos := none, serial := none, langs := none, part := none,
                 old := match y.old, y.desc with | some o, _ => some o | none, some e => some (e, y.serial) | none, none => none
        })).sendAddress d x.addr
    else s.failStep x)))

/-! ### Transaction translators and link power -/

/-- CLEAR_TT_BUFFER (R151): success, a STALL or the third failed attempt ends the wait. -/
def execClearTtBuffer (t : TenantId) (h : Fin 1024) (r : ReqEnd) (s : State) : Host.Outcome State Fault Refusal :=
  .next (match s.sched.reqs.find? (fun q => q.r.clears t h) with
    | some q => s.endReq q.d (UsbReq.clears t h) (r = .ok) (fun s q =>
      match q.r with
      | .clearTt _ _ d e n => if r = .failed && n < 3 then s.request q.d (.clearTt t h d e (n + 1)) else s
      | _ => s)
    | none => s)

/-- A device and every hub above it declare LPM. -/
def State.lpmPath (s : State) (d : DevId) : Bool :=
  (List.range (d.path.length + 1)).all (fun k =>
    match s.dev? { d with path := d.path.take k } with
    | some x => (match x.bos with | some b => b.lpm | none => false)
    | none => false)

/-- A device is idle and awake: nothing of it is being reset, suspended or resumed, no TD of it is in flight or announced, and no request
goes to it. -/
def State.idleDev (s : State) (x : Dev) : Bool :=
  x.step = .done && !x.portOff && x.reset = .none && x.resume = .none && x.suspendWait.isNone && !x.suspended &&
  s.flows.all (fun f => f.dev ≠ x.id || f.tds.isEmpty) && s.sched.reqs.all (fun q => q.target ≠ x.id)

/-- LPM_ENTRY (R205): the LPM token goes to a USB 2.0 device that has been idle for 200 us, with its Baseline BESL, or 2; the ISSUE of the token has the answer. -/
def execLpmEntry (d : DevId) (idleUs : Nat) (s : State) : Host.Outcome State Fault Refusal :=
  .next (s.onDev d (fun x => 200 ≤ idleUs && !d.ss && s.idleDev x && !x.l1 && !x.lpmOff && s.lpmPath d &&
      s.flows.all (fun f => f.dev ≠ d || !f.periodic)) (fun x => s.request d (.lpm ((x.bos.bind (fun b => b.besl)).getD 2))))

/-- LINK_INACTIVITY_TIMEOUT (R206): an idle SuperSpeed link enters U1, or U2, where the device uses it and the link's timeout is not 0. -/
def execLinkInactivityTimeout (d : DevId) (u2 : Bool) (s : State) : Host.Outcome State Fault Refusal :=
  .next (s.onDev d (fun x => d.ss && x.step = .done && !x.suspended && x.resume = .none && x.reset = .none && !s.devBusy d) (fun x =>
    if u2 then (if x.u2 && x.linkU ≠ 2 && x.timeouts.2 ≠ 0 then s.modDev d (fun y => { y with linkU := 2 }) else s)
    else if x.u1 && x.timeouts.1 ≠ 0 && x.linkU = 0 then s.modDev d (fun y => { y with linkU := 1 })
    else s))

/-- One device of a port that is selectively suspended: a hub gets DEVICE_REMOTE_WAKEUP first, and its polls stop (13 R330). -/
def State.sleepDev (s : State) (x : Dev) : State :=
  let s := if x.st = .hub then
      ((s.dropReqs (fun q => q.d = x.id && q.r = .hubPoll)).dropDelays (fun w => w = .hubPoll x.id)).request x.id .setRemoteWakeup else s
  (s.modDev x.id (fun y => { y with suspended := true, l1 := false, linkU := 0 })).request x.id .suspend

/-- ROOT_PORT_SELECTIVE_SUSPEND (R330): a port with only hubs and UNMATCHED devices; a hub after every device below it. -/
def execRootPortSelectiveSuspend (p : PortId) (s : State) : Host.Outcome State Fault Refusal :=
  let l := s.devs.filter (fun x => x.id.port = p)
  let ok := l.all (fun x => (x.st = .hub || x.st = .unmatched) && x.step = .done && x.reset = .none && x.resume = .none) &&
    s.sched.reqs.all (fun q => q.d.port ≠ p || q.r = .hubPoll)
  .next (if ok then
      (sortBy (fun a b => b.id.path.length ≤ a.id.path.length) (l.filter (fun x => !x.suspended))).foldl
        (fun (a : State) x => a.sleepDev x) s
    else s)

end Sys2Proof.Machine
end

