-- ==== Sys2Proof/Machine/Faults.lean ====
section
/-! DEFINITION. Faults of the controller's own parts: memory errors, hangs, clock loss, PHY faults, the recovery item and the FLT_
registers (15 R377 to R386, R394; 13 R343). -/

namespace Sys2Proof.Machine

/-! ### The recovery item (R380, R381) -/

/-- A fault waits for FAULT_RECOVER; a job that needs the workers quiet holds them (08 Table 8.9). -/
def State.faultJob (s : State) (j : FaultJob) : State :=
  let s : State := { s with faults := { s.faults with jobs := s.faults.jobs ++ [j] } }
  let s : State := if j.quiet && s.sched.data = .graph then
      { s with sched := { s.sched with data := .item, cause := .recovery } } else s
  s.addItem faultTask .faultRecover

/-- The response to a fault is over: its record. -/
def State.endFault (s : State) (cls : Fin 9) (unit : Nat) (owner : Option TenantId) (outcome wher time : Nat) : State :=
  s.faultRecord cls unit owner outcome wher (s.time.now - time)

/-- What a job rebuilds; a ready list in ascending task number. -/
def State.rebuild (s : State) (j : FaultJob) : State :=
  let s : State := { s with sched := { s.sched with ready := Vector.ofFn (fun (l : Fin 8) =>
    if j.lists.getLsbD l.val then sortBy (fun a b => a ≤ b) (vget s.sched.ready l) else vget s.sched.ready l) } }
  let s : State := if j.shadow then { s with shadowBusy := s.faults.jobs.any (fun x => x.shadow) } else s
  if s.sched.cause = .recovery && !(s.faults.jobs.any (fun x => x.quiet)) then
    { s with sched := { s.sched with data := if s.self.loopBusy then .item else .graph,
                                     cause := if s.self.loopBusy then .selfTest else .none } } else s

/-- FAULT_RECOVER (R380, R382): the first waiting fault is answered; a worker that passes its check, and had not hung before, returns
to service. -/
def execFaultRecover (pass : Bool) (s : State) : Host.Outcome State Fault Refusal :=
  .next (match s.itemCore .faultRecover, s.faults.jobs with
    | some c, j :: l =>
      let s := s.endItem c .faultRecover false
      let s := ({ s with faults := { s.faults with jobs := l } } : State).rebuild j
      let back := pass && j.outcome ≠ 2
      match j.worker with
      | some w =>
        let s := if back then s.modWorker w (fun x => { x with fenced := false }) else s
        s.endFault j.cls j.unit j.owner (if back then 0 else 2) j.wher j.time
      | none => s.endFault j.cls j.unit j.owner j.outcome j.wher j.time
    | some c, [] => s.endItem c .faultRecover false
    | none, _ => s)

/-! ### Lost contexts (R343, 05 Table 5.3, 10 Table 10.7) -/

/-- A handle's context is lost; its tenant and manager software are told. -/
def State.loseHandle (s : State) (t : TenantId) (h : Fin 1024) : State :=
  match s.flow? t h with
  | some f =>
    let s := if f.cutUnit then s.tearDown t h 0 true true else s
    let s := s.modFlow t h (fun f => f.endAbruptly (s.inTransaction f.entry) .contextLost .lost)
    (s.tenantNotice t 2).mgrTenantNotice t 5
  | none => s

/-- Lose the contexts that a predicate on entries picks: a key context takes its pipe with it. -/
def State.loseEntries (s : State) (p : Nat → Bool) : State :=
  (s.flows.filter (fun f => p f.entry || (match f.key with | some k => p k.entry | none => false))).foldl (fun (a : State) f =>
    let a := match f.key with
      | some k => if p k.entry then a.tearDown f.t f.h 0 true true else a
      | none => a
    a.loseHandle f.t f.h) s

/-- The action of an order has not ended. -/
def Order.inFlight (o : Order) : Bool := o.stage = .fetched || o.stage = .acting || o.stage = .waiting

/-- Each order in flight of an order flow completes CONTEXT_LOST; a ghost just ends. -/
def State.loseOrders (s : State) (f : Fn) : State :=
  s.modRings f (fun r => { r with orders := (r.orders.filter (fun o => !(o.ghost && o.inFlight))).map (fun o =>
    if o.inFlight
    then { o with stage := .ended, inSlot := false, ev := o.doneEv .contextLost o.target 0 0 } else o) })

/-- Owners of an order flow's task. -/
def Fn.owner : Fn → List TenantId
  | .pf0 => []
  | .vf t => [t]

/-! ### Slots that empty (08 Table 8.8) -/

/-- An operation of a fenced worker waits to be placed again; one that was to answer NOT_STARTED takes up its work anew. -/
def State.redoOp (s : State) (o : Op) (w : Nat) : State :=
  let s := if o.stale then s.noteOp o else s
  { s with sched := { s.sched with redo := s.sched.redo ++ [({ o with stale := false }, w)] } }

/-- An ISSUE that had started counts as one transaction error, and its operation is placed again (01 R9); where the error ended its
transfer or slot it has nothing left to run and only reports. -/
def State.strike (s : State) (o : Op) (w : Nat) : State :=
  let redo := fun (s : State) => s.redoOp o w
  let done := fun (s : State) => s.redoOp { o with tx := none, arg := 0 } w
  match s.flows.find? (fun f => f.entry = o.task), o.tx with
  | none, some _ => redo (match o.usb.bind (fun u => s.reqOf u.1 (fun r => r = u.2)) with
    | some q => if q.stage = 3 then s else s.stepReq q .error
    | none => s)
  | some f, some (id, _) =>
    match f.xfer? id with
    | some x =>
      let also := match x.expires with | some e => decide (e ≤ s.time.now) | none => false
      let s := (s.modFlow f.t f.h (fun f => f.txError id (s.perSlot f) also)).testTimeout f id x.status.isSome
      let ended : Bool := match (s.flow? f.t f.h).bind (fun g => g.xfer? id) with | some y => y.status.isSome | none => true
      if f.iso then (done s).settleFlow f.t f.h
      else if ended then
        let s := if f.periodic then s else s.modSide f.dev.port f.dev.ss (fun q => q.addDeficit f.t o.arg)
        ((done s).wantTtClear f.t f.h).settleFlow f.t f.h
      else (redo s).settleFlow f.t f.h
    | none => done s
  | _, _ => redo s

/-- The operations in a worker's slots are placed again. -/
def State.emptyWorker (s : State) (w : WorkerId) : State :=
  let x := vget s.sched.workers w
  let s := s.modWorker w (fun x => { x with cur := none, next := none })
  let s := match x.cur with
    | some o => if o.node = .issue && o.tx.isSome && !o.stale then s.strike o w.val
        else s.redoOp o w.val
    | none => s
  match x.next with
  | some o => s.redoOp o (w.val + 32)
  | none => s

/-- A core is reset: its item, or the order check in its slot, is placed again from its start (R381). -/
def State.resetCore (s : State) (c : CoreId) : State :=
  match (vget s.sched.cores c).op with
  | some o =>
    let s := s.modCore c (fun x => { x with op := none })
    match o.item with
    | some i => { s with sched := { s.sched with work := { task := o.task, node := o.node, item := some i, arg := o.arg } :: s.sched.work } }
    | none => s.redoOp o (64 + c.val)
  | none => s

/-- A core is fenced; its item goes to another. -/
def State.fenceCore (s : State) (c : CoreId) : State := (s.resetCore c).modCore c (fun x => { x with fenced := true })

/-! ### Port sides -/

/-- Root port and side of a port side number (Table 15.6). -/
def sidePort (i : SideId) : PortId × Bool :=
  if h : i.val < 16 then (⟨i.val, h⟩, false) else (⟨(i.val - 16) % 16, Nat.mod_lt _ (by decide)⟩, true)

/-- The worker's operation, where it is a transaction on a port side that a predicate picks. -/
def State.runsOn (s : State) (w : WorkerId) (p : PortId → Bool → Bool) : Option Op :=
  match (vget s.sched.workers w).cur with
  | some o =>
    let d : Option DevId := match o.usb with | some (d, _) => some d | none => (s.flows.find? (fun (f : Flow) => decide (f.entry = o.task))).map (fun (f : Flow) => f.dev)
    if o.node = .issue && !o.stale && (match d with | some d => p d.port d.ss | none => false) then some o else none
  | none => none

/-- Transactions in progress on some port sides end as transaction errors (R200). -/
def State.cutSides (s : State) (p : PortId → Bool → Bool) : State :=
  (allFin 32).foldl (fun (a : State) w => if (a.runsOn w p).isSome then a.endIssue (.worker w) .error else a) s

/-- A port FIFO loses data: an OUT counts as a transaction error, an IN ends its transfer BUS_ERROR, or its request. -/
def State.loseFifo (s : State) (p : PortId → Bool → Bool) : State :=
  (allFin 32).foldl (fun (a : State) w =>
    match a.runsOn w p with
    | some o => match o.tx, a.flows.find? (fun f => f.entry = o.task) with
      | some (id, tx), some f =>
        if tx.isIn then (a.modFlow f.t f.h (fun f => f.endX id .busError 0)).settleFlow f.t f.h else a.endIssue (.worker w) .error
      | some (_, tx), none => a.endIssue (.worker w) (if tx.isIn then .babble else .error)
      | none, _ => a
    | none => a) s

/-! ### Uncorrectable errors (Table 15.2) -/

/-- What a memory error did: the state, the tenants whose state it destroyed, and the rebuild that it needs. -/
structure Loss where
  st : State
  owners : List TenantId := []
  job : Option FaultJob := none

/-- The things that a lost word, or a lost bank, holds. -/
def chosen {α : Type} (b : Fin 21) (whole : Bool) (off : Nat) (l : List α) : List α :=
  if whole then l else (l[Config.holder b off l.length]?).toList

/-- Endpoint table: the contexts of a bank, or the 64-byte one that holds the word. -/
def State.loseEpt (s : State) (b : Fin 21) (whole : Bool) (off : Nat) : Loss :=
  let p := fun (n : Nat) => n / 2048 = b.val && (whole || n % 2048 = off / 64 % 2048)
  let l := (s.flows.filter (fun f => p f.entry || (match f.key with | some k => p k.entry | none => false))).map (fun f => f.t)
  { st := s.loseEntries p, owners := l, job := some { cls := 0, unit := b.val, time := s.time.now, outcome := if l.isEmpty then 0 else 1 } }

/-- Task memory, one task's word. -/
def State.loseTask (s : State) (k : Nat) : Loss :=
  if k < 16384 then
    { st := s.loseEntries (fun n => n = k), owners := (s.flows.filter (fun f => f.entry = k)).map (fun f => f.t) }
  else match taskOwner k with
    | some f => { st := s.loseOrders f, owners := if (s.rings f).orders.isEmpty then [] else f.owner }
    | none => { st := s }

/-- Every task and every list. -/
def State.loseTasks (s : State) : Loss :=
  let s' := s.loseEntries (fun _ => true)
  { st := (allFin 256).foldl (fun (a : State) t => a.loseOrders (.vf t)) (s'.loseOrders .pf0),
    owners := s.flows.map (fun f => f.t),
    job := some { cls := 0, unit := 8, time := s.time.now, lists := 0xFF, quiet := true } }

/-- Transfers with data in the staging buffers. -/
def State.staged (s : State) : List (Flow × Xfer) :=
  s.flows.flatMap (fun f => (f.xs.filter (fun x => 0 < f.stagedBytes x)).map (fun x => (f, x)))

/-- What a transfer keeps once its staged bytes are gone: an OUT those that the bus carried, or that have been sealed, and it moves the
others again; an IN those written to host memory, and no others follow. -/
def Flow.unstage (f : Flow) (x : Xfer) : Xfer :=
  if !f.xIn x then { x with moved := if x.unit = 0 then x.wire else x.plain }
  else if x.unit = 0 then { x with wire := x.moved }
  else { x with used := x.wire, plain := x.moved }

/-- A staging line is lost: an OUT piece's MOVE runs again, an IN transfer ends BUS_ERROR without the bytes not yet written. -/
def State.loseStaging (s : State) (e : Flow × Xfer) : State :=
  let f := e.1
  (s.modFlow f.t f.h (fun g =>
    (if f.xIn e.2 then g.endX e.2.id .busError 0 else g).modX e.2.id g.unstage)).settleFlow f.t f.h

/-- A TD in the prefetch cache is read again; whether the host answers is free, and a failed read ends the transfer. -/
def State.rereadTd (s : State) (e : Flow × Td) : State :=
  let (ok, s) := (s.sendRead (.vf e.1.t) e.2.addr 64).drawBool
  if ok && s.canSend (.vf e.1.t) then s
  else ((s.readError (.vf e.1.t)).modFlow e.1.t e.1.h (fun f => f.endX e.2.x .dmaFault 0)).settleFlow e.1.t e.1.h

/-- Every port side of the calendar. -/
def allSides : List (PortId × Bool) := (allFin 16).flatMap (fun p => [(p, false), (p, true)])

/-- Slots that are open on a side whose calendar is lost miss their service. -/
def State.missSides (s : State) (l : List (PortId × Bool)) : State :=
  { s with flows := s.flows.map (fun f => if f.slotDue && l.contains (f.dev.port, f.dev.ss) then f.closeSlot else f) }

/-- The state after a memory has lost a word, or all of its content. -/
def State.lose (s : State) (b : Fin 21) (whole : Bool) (off : Nat) : Loss :=
  let job : FaultJob := { cls := 0, unit := b.val, time := s.time.now }
  match b.val with
  | 8 =>
    if whole then s.loseTasks
    else match Config.taskWord off with
      | some k => s.loseTask k
      | none => { st := s, job := some { job with lists := Config.listLevels off, quiet := true } }
  | 9 => { st := s, job := some { job with quiet := true } }
  | 10 =>
    let l := if whole then allSides else [(⟨off / 16384 % 16, Nat.mod_lt _ (by decide)⟩, decide (32 ≤ off % 64))]
    { st := s.missSides l, job := some { job with sides := l, quiet := true } }
  | 11 => { st := { s with sched := { s.sched with policyLost := s.sched.policyLost ++ [if whole then none else some off] } } }
  | 12 => { st := { s with shadowBusy := true }, job := some { job with shadow := true } }
  | 13 =>
    let n := if whole then s.trace.buf.length else if off / 16 < s.trace.buf.length then 1 else 0
    { st := { s with trace := { s.trace with lost := satAdd s.trace.lost n (2 ^ 32 - 1),
                                             buf := if whole then [] else s.trace.buf.eraseIdx (off / 16) } } }
  | 14 =>
    let l := chosen b whole off (s.flows.flatMap (fun f => f.live.map (fun d => (f, d))))
    { st := l.foldl State.rereadTd s, owners := l.map (fun e => e.1.t) }
  | 15 =>
    let l := chosen b whole off s.staged
    { st := l.foldl State.loseStaging s, owners := l.map (fun e => e.1.t) }
  | 16 =>
    let l := chosen b whole off (s.flows.filter (fun f => f.key.isSome))
    { st := l.foldl (fun (a : State) f => (a.tearDown f.t f.h 0 true true).loseHandle f.t f.h) s, owners := l.map (fun f => f.t) }
  | 17 =>
    if whole then { st := s.loseFifo (fun _ _ => true) }
    else
      let i := sidePort ⟨off / 1024 % 22, Nat.mod_lt _ (by decide)⟩
      { st := s.loseFifo (fun p ss => p = i.1 && ss = i.2) }
  | 18 => { st := s, job := some { job with tts := chosen b whole off s.tts } }
  | 19 =>
    if whole then { st := (allFin 4).foldl (fun (a : State) c => a.resetCore c) s }
    else { st := s.resetCore ⟨off / 32768 % 4, Nat.mod_lt _ (by decide)⟩ }
  | 20 =>
    let (ok, s) := s.drawBool
    { st := if ok then s else s.fenceCore (Config.romCore off) }
  | _ => s.loseEpt b whole off

/-- The only tenant of a list. -/
def soleOwner : List TenantId → Option TenantId
  | [] => none
  | t :: l => if l.all (fun u => u = t) then some t else none

/-- A memory lost a word, or all of its content: the effect, and the record at once or after the rebuild. -/
def State.memoryFault (s : State) (cls : Fin 9) (b : Fin 21) (whole : Bool) (off : Nat) : State :=
  let fencedBefore := (allFin 4).filter (fun c => (vget s.sched.cores c).fenced)
  let r := s.lose b whole off
  let owner := soleOwner r.owners
  let fenced := (allFin 4).any (fun c => (vget r.st.sched.cores c).fenced && !(fencedBefore.contains c))
  let wher := if cls = 0 then off else 0
  match r.job with
  | some j => r.st.faultJob { j with cls := cls, unit := b.val, owner := owner, wher := wher }
  | none => r.st.endFault cls b.val owner (if fenced then 2 else if r.owners.isEmpty then 0 else 1) wher s.time.now

/-- UNCORRECTABLE_ERROR (R380). -/
def execUncorrectableError (b : Fin 21) (off : Nat) (s : State) : Host.Outcome State Fault Refusal :=
  let s : State := { s with faults := { s.faults with uncorrectable := vmod s.faults.uncorrectable b (fun n => satAdd n 1 65535) } }
  .next (s.memoryFault 0 b false off)

/-- MEMORY_SCRUB (R379): in LP0 and LP1 a pass over a memory writes corrected words back. -/
def execMemoryScrub (b : Fin 21) (corrected : Nat) (s : State) : Host.Outcome State Fault Refusal :=
  .next (if s.power.lp = .lp0 || s.power.lp = .lp1 then
      { s with faults := { s.faults with corrected := vmod s.faults.corrected b (fun n => satAdd n corrected (2 ^ 48 - 1)) } }
    else s)

/-! ### Hangs (R382, R386) -/

/-- A hang within 3,600 s of the one before. -/
def State.hungBefore (s : State) (last : Option Nat) : Bool :=
  match last with | some t => s.time.now - t ≤ 3600000000000 | none => false

/-- WORKER_HANG (R382): the worker is fenced, its operations are placed again, and FAULT_RECOVER resets and checks it. -/
def execWorkerHang (w : WorkerId) (s : State) : Host.Outcome State Fault Refusal :=
  let x := vget s.sched.workers w
  .next (match x.cur with
    | some o =>
      if x.fenced then s
      else
        let j : FaultJob := { cls := 1, unit := w.val, time := s.time.now, worker := some w, wher := o.task + o.node.code * 65536,
                              outcome := if s.hungBefore x.lastHang then 2 else 0 }
        ((s.emptyWorker w).modWorker w (fun x => { x with fenced := true, lastHang := some s.time.now })).faultJob j
    | none => s)

/-- Items without the 4 ms limit: start-up and self-test items. -/
def ItemCode.exempt : ItemCode → Bool
  | .peatMount | .imageSelect | .tableBuild | .portPower | .enumerate | .selfTestMbist | .selfTestLoopback => true
  | _ => false

/-- CORE_HANG (R386): the core is reset and its item placed again; a second hang within 3,600 s fences the core. -/
def execCoreHang (c : CoreId) (s : State) : Host.Outcome State Fault Refusal :=
  let x := vget s.sched.cores c
  .next (match x.op.bind (fun o => o.item) with
    | some i =>
      if i.exempt then s
      else
        let again := s.hungBefore x.lastHang
        let s := (if again then s.fenceCore c else s.resetCore c).modCore c (fun x => { x with lastHang := some s.time.now })
        s.endFault 7 c.val none (if again then 2 else 0) 0 s.time.now
    | none => s)

/-! ### Clock loss (R383, R384) -/

/-- The fate of the work that a restarting island held (Table 15.3). -/
def State.islandLost (s : State) (i : Island) : State :=
  match i with
  | .worka => (allFin 32).foldl (fun (a : State) w => if w.val < 16 then a.emptyWorker w else a) s
  | .workb => (allFin 32).foldl (fun (a : State) w => if w.val < 16 then a else a.emptyWorker w) s
  | .hsport => s.cutSides (fun _ ss => !ss)
  | .ssport => s.cutSides (fun _ ss => ss)
  | .mgmt => (allFin 4).foldl (fun (a : State) c => a.resetCore c) s
  | _ => s

/-- Islands stop and restart. -/
def State.restart (s : State) (l : List Island) (cls : Fin 9) (unit outcome mask : Nat) : State :=
  let s := l.foldl (fun (a : State) i => (a.islandLost i).moveIsland i .restarting) s
  { s with faults := { s.faults with restarts := s.faults.restarts ++
    [{ cls := cls, unit := unit, outcome := outcome, mask := mask, left := l, time := s.time.now }] } }

/-- CLOCK_LOSS (R383): the island, or every island that the lost PLL clocks, restarts. AON goes on with its 1 MHz RC. -/
def execClockLoss (i : Island) (pll : List Island) (s : State) : Host.Outcome State Fault Refusal :=
  let l := ((i :: pll).eraseDups).filter (fun j => j ≠ .aon && !s.restarting j)
  .next (if i = .aon && pll.isEmpty then
      ({ s with pins := { s.pins with xtal32 := false } } : State).endFault 2 0 none 0 0 s.time.now
    else if l.isEmpty then s
    else s.restart l 2 i.idx.val 0 ((l.map (fun j => 2 ^ j.idx.val)).sum))

/-- LODE_PARITY_FAIL (R384): LODE restarts. -/
def execLodeParityFail (s : State) : Host.Outcome State Fault Refusal :=
  .next (if s.restarting .lode then s else s.restart [.lode] 3 (Island.idx .lode).val 5 0)

/-- The service port's held response and the control transfer in progress are discarded (16 R408). -/
def State.loseResponse (s : State) : State :=
  let v := s.svc
  if v.resp.isSome || v.inXfer then
    { s with svc := { v with resp := none, inXfer := false, ep1 := v.ep1 &&& ~~~1, ep1Req := 0, verify := none, verified := none, nonce := none,
                             lostResp := if v.resp.isSome then satAdd v.lostResp 1 65535 else v.lostResp,
                             change := if v.resp.isSome then v.change ||| 0x80 else v.change } }
  else s

/-- A restart is over when its last island is ready: its record. -/
def State.endRestarts (s : State) : State :=
  let done := s.faults.restarts.filter (fun r => r.left.isEmpty)
  let s : State := { s with faults := { s.faults with restarts := s.faults.restarts.filter (fun r => !r.left.isEmpty) } }
  done.foldl (fun (a : State) r => a.endFault r.cls r.unit none r.outcome r.mask r.time) s

/-! ### PHY faults (R385) -/

/-- PORT_PHY_FAULT (R385): the side is disabled and its devices detach; the third fault within 600 s latches it off. -/
def execPortPhyFault (i : SideId) (s : State) : Host.Outcome State Fault Refusal :=
  let (p, ss) := sidePort i
  let l := ((s.side p ss).phyFaults.filter (fun t => s.time.now - t ≤ 600000000000)) ++ [s.time.now]
  let last : Bool := 3 ≤ l.length
  .next (if (s.side p ss).on then
      let s := (s.cutSides (fun q side => q = p && side = ss)).detachPort p (fun d => d.id.ss = ss) false
      let s := s.modSide p ss (fun q => { q with on := false, phyFaults := l, phyLatched := last })
      s.endFault 4 i.val none (if last then 4 else 3) (b2n last) s.time.now
    else s)

/-- PHY_RESTART (R385): 1 s after a fault the PHY is reset, and enumeration starts again on a side that is not latched. -/
def execPhyRestart (i : SideId) (s : State) : Host.Outcome State Fault Refusal :=
  let (p, ss) := sidePort i
  .next (if s.powered p && !(s.side p ss).on && !(s.side p ss).phyLatched && !(s.side p ss).phyFaults.isEmpty then
      let s := s.modSide p ss (fun q => { q with on := true })
      if s.hasDelay (.enumerate p) then s else s.addWork { task := topoTask p, node := .check, why := some (.enumerate p) }
    else s)

/-! ### HOST_LINK_ERROR -/

/-- HOST_LINK_ERROR (R377): AER reports it; a link that fails goes down. -/
def execHostLinkError (aer : BitVec 32) (down : Bool) (s : State) : Host.Outcome State Fault Refusal :=
  let s := if aer = 0 then s else s.aer .pf0 aer
  let s : State := if down then { s with link := .down } else s
  .next (s.endFault 5 0 none (if down then 5 else 0) (s.pf.dword 0x104).toNat s.time.now)

/-! ### FLT_ registers (R394) -/

def State.fltStatusView (s : State) : Word :=
  pack ([(s.faults.dropped, 32), (s.faults.records.length, 0)] ++
    (allFin 4).map (fun c => (b2n (vget s.sched.cores c).fenced, 8 + c.val)))

/-- FLT_HEAD[n]. -/
def State.fltHeadView (s : State) (n : Nat) : Word :=
  match s.faults.records with
  | r :: _ => if n = 0 then r.w0 else if n = 1 then r.w1 else if n = 2 then r.w2 else r.w3
  | [] => 0

def State.writeFltPop (v : Word) (s : State) : State :=
  if v.getLsbD 0 then { s with faults := { s.faults with records := s.faults.records.drop 1 } } else s

def State.fltPopWrite (s : State) (a : WrAcc) (v : Word) : State :=
  s.regWrite .pf0 0x80028 .side (masks [(63, 1)]) 0 a v State.writeFltPop

/-- FLT_POP (R394). -/
def execFltPop (a : WrAcc) (v : Word) (s : State) : Host.Outcome State Fault Refusal := .next (s.fltPopWrite a v)

/-- A fenced worker, or core, selected by FLT_UNFENCE returns to service if its check passes. -/
def State.unfenceWorkers (s : State) (sel pass : BitVec 32) : State :=
  (allFin 32).foldl (fun (a : State) w =>
    if sel.getLsbD w.val && pass.getLsbD w.val && !(a.faults.jobs.any (fun j => j.worker = some w))
    then a.modWorker w (fun x => { x with fenced := false }) else a) s

def State.unfenceCores (s : State) (sel pass : BitVec 4) : State :=
  (allFin 4).foldl (fun (a : State) c =>
    if sel.getLsbD c.val && pass.getLsbD c.val then a.modCore c (fun x => { x with fenced := false }) else a) s

def State.writeUnfence (pw : BitVec 32) (pc : BitVec 4) (v : Word) (s : State) : State :=
  (s.unfenceWorkers (v.extractLsb' 0 32) pw).unfenceCores (v.extractLsb' 32 4) pc

/-- A write of FLT_UNFENCE, with the checks' outcomes. -/
def State.fltUnfenceWrite (s : State) (a : WrAcc) (v : Word) (pw : BitVec 32) (pc : BitVec 4) : State :=
  s.regWrite .pf0 0x80200 .side (masks [(63, 36)]) 0 a v (State.writeUnfence pw pc)

/-- The outcomes of checks that a command does not give are free. -/
def State.drawBits (s : State) : Nat → Nat × State
  | 0 => (0, s)
  | n + 1 =>
    let (b, s) := s.drawBool
    let (x, s) := State.drawBits s n
    (2 * x + b2n b, s)

/-- FLT_UNFENCE_WORKERS (R382): `pass` is which of the workers pass their loopback check. -/
def execFltUnfenceWorkers (a : WrAcc) (v : Word) (pass : BitVec 32) (s : State) : Host.Outcome State Fault Refusal :=
  let (c, s) := s.drawBits 4
  .next (s.fltUnfenceWrite a v pass (BitVec.ofNat 4 c))

/-- FLT_UNFENCE_CORES (R386): `pass` is which of the cores pass their check. -/
def execFltUnfenceCores (a : WrAcc) (v : Word) (pass : BitVec 4) (s : State) : Host.Outcome State Fault Refusal :=
  let (w, s) := s.drawBits 32
  .next (s.fltUnfenceWrite a v (BitVec.ofNat 32 w) pass)

end Sys2Proof.Machine
end

