-- ==== Sys2Proof/Machine/Pads.lean ====
section
/-! DEFINITION. The state of every pad (02 R24, Tables 2.3 and 2.4): what drives it, by supply, reset, start-up, power state and pad
hold (13 R338). -/

namespace Sys2Proof.Machine

/-- The signals of Table 2.3, row by row. -/
inductive Pad where
  | pet | per | refclk | perstN | clkreqN | wakeN | dpdm | sstx | ssrx | ppwrEn | pocN | svcDpDm | svcVbusDet | xspiClk | xspiDqs | xspiDq
  | xspiCsN | xspiRstN | xtal25 | xtal32 | vsel | vcorePg | pwrfailN | porN | ppsIn | ppsOut | thermN | tamperN | gpio | peatSel | testMode
  | tck | tmsTdi | tdo | trstN | usbCal
  deriving DecidableEq, Repr

/-- The codes of Table 2.4; `zPd15k` and `vsel1` are the two that a row of Table 2.3 spells out. -/
inductive PadState where
  | live | z | zPu | zPd | zPd15k | low | high | vsel1 | held | idle | ignored | sampled | off
  deriving DecidableEq, Repr

/-- Column Reset. -/
def Pad.atReset : Pad → PadState
  | .pet | .sstx => .idle
  | .per | .refclk | .clkreqN | .wakeN | .ssrx | .svcDpDm | .thermN | .tdo => .z
  | .dpdm => .zPd15k
  | .ppwrEn | .xspiClk | .xspiRstN | .ppsOut => .low
  | .xspiCsN => .high
  | .pocN => .zPu
  | .xspiDqs | .xspiDq | .ppsIn | .gpio => .zPd
  | .vsel => .vsel1
  | .peatSel | .testMode => .sampled
  | _ => .live

/-- Columns LP1 to LP3; what is held there is the latch's to say. -/
def Pad.inState (p : Pad) (l : LpState) : PadState :=
  let deep : Bool := decide (l = .lp2) || decide (l = .lp3)
  match p with
  | .pet | .per => if deep then .idle else .live
  | .refclk => if l = .lp3 then .ignored else .live
  | .xspiDqs | .xspiDq => if deep then .zPd else .live
  | .xtal25 => if l = .lp3 then .off else .live
  | .peatSel | .testMode => .ignored
  | _ => .live

/-- Column VBAT only. -/
def Pad.onVbat : Pad → PadState
  | .xtal32 | .tamperN => .live
  | _ => .off

/-- The side-band pads, and the xSPI outputs, that AON latches (R338). -/
def Pad.sideBand : Pad → Bool
  | .ppwrEn | .gpio | .ppsOut => true
  | _ => false

def Pad.xspiOut : Pad → Bool
  | .xspiClk | .xspiCsN | .xspiRstN => true
  | _ => false

/-- The start-up step that first configures a pad (03 Table 3.3): the flash at PEAT_MOUNT, the rest as the islands are powered (DESIGN
CHOICE, notes/assumptions/108.md). -/
def Pad.step (p : Pad) : Nat := if p.xspiOut || p = .xspiDqs || p = .xspiDq then 4 else 3

/-- The state that a pad is in. -/
def State.padState (s : State) (p : Pad) : PadState :=
  if !s.pins.vaon then (if s.pins.vbat then p.onVbat else .off)
  else if !s.pins.porN then p.atReset
  else if p = .peatSel || p = .testMode then .ignored
  else if s.img.step < p.step then p.atReset
  else if (p.sideBand && s.power.padsHeld) || (p.xspiOut && s.pins.xspiHeld) then .held
  else p.inState s.power.lp

/-- The level of GPIO[7:0]: the one latched while the pads are held. -/
def State.gpioLevel (s : State) : BitVec 8 := s.pins.gpioHeld.getD s.pins.gpio

/-- Step 2 of entry (R338): the side-band pads and the xSPI outputs are latched; pads held already stay so. -/
def State.holdPads (s : State) : State :=
  { s with power := { s.power with padsHeld := true },
           pins := { s.pins with xspiHeld := true, gpioHeld := if s.power.padsHeld then s.pins.gpioHeld else some s.pins.gpio } }

/-- What AON counts its time from: the crystal once it runs, until then its 1 MHz RC (R39). -/
inductive AonSource where
  | crystal | rc
  deriving DecidableEq, Repr

def State.aonSource (s : State) : AonSource := if s.pins.xtal32 then .crystal else .rc

end Sys2Proof.Machine
end

