-- ==== Sys2Proof/Machine/Power.lean ====
section
/-! DEFINITION. Power states, wake, operating points, sleep time, retention, temperature and tamper inputs (01 R17, R18; 09 R259,
R260; 10 R288, R289; 13 R325 to R346). -/

namespace Sys2Proof.Machine

/-! ### The effective tolerance and the next event (R327, R328) -/

def State.powerSec (s : State) : PowerSec := match s.img.image with | some i => i.power | none => {}

/-- The tolerances of the ACTIVE tenants, by tenant. -/
def State.tolerances (s : State) : List (TenantId × Nat) :=
  (allFin 256).filterMap (fun t => if (s.tenant t).st = .active then some (t, (s.tenant t).latTol) else none)

/-- The effective tolerance; 0xFFFF_FFFF is "any". -/
def State.effTol (s : State) : Nat := (s.tolerances.map (fun e => e.2)).foldl Nat.min s.power.latFloor

/-- PWR_EFF_TOL. -/
def State.effTolView (s : State) : Word :=
  let ns := s.effTol
  let floor : Bool := s.power.latFloor = ns
  let t := if floor then 0 else match s.tolerances.find? (fun e => e.2 = ns) with | some e => e.1.val | none => 0
  pack [(b2n floor, 40), (t, 32), (ns, 0)]

/-- The next calendar slot of a periodic handle whose device is neither suspended nor detached (Table 13.3): a handle that lost its
context is open and counts too. -/
def State.slotEvent (s : State) (f : Flow) : List Nat :=
  match f.resv, s.dev? f.dev with
  | some r, some d => if d.suspended || f.st = .detached then [] else [s.frameStart (r.nextDue (s.frames.f + 1))]
  | _, _ => []

/-- The starts of the intervals that fetched ISO TDs target. -/
def State.isoEvents (s : State) (f : Flow) : List Nat :=
  f.live.filterMap (fun d => d.interval.bind (fun n => if s.frames.f < n then some (s.frameStart n) else none))

/-- The gate edge at which the window opens of a flow whose transaction waits only for GATE_OPEN or WINDOW. -/
def State.gateEvent (s : State) (f : Flow) : List Nat :=
  let m := s.missingFlags f .issue
  if m = 0 || m &&& ~~~(0x108#16) ≠ 0 then []
  else
    let q := vget s.sluice.ports f.dev.port
    let l := if q.state = .pending && q.switchAt ≤ s.time.now
      then GateList.ahead { base := q.switchAt, entries := q.admin } s.time.now
      else match q.oper with | some g => g.ahead s.time.now | none => []
    let starts := (l.foldl (fun (a : Nat × List Nat) e => (a.1 + e.ns, a.2 ++ [a.1 + e.ns])) (s.time.now, [])).2
    let fits := fun (t : Nat) => match s.nextTx f with
      | some r => s.fitsAt f.dev.port (some (s.tcOf f)) (s.duration f r.2) t
      | none => gateOk (some (s.tcOf f)) (q.maskAt t)
    (starts.find? fits).toList

/-- The due times of delays: those of the wheel and the overflow list, PTM dialogues, quarantine windows. -/
def State.delayEvents (s : State) : List Nat :=
  s.sched.wheel.map (fun (d : Delay) => d.due) ++ s.time.nextPtm.toList ++
  s.seals.counts.flatMap (fun e => e.2.map (fun t => t + 600000000000))

/-- The events of Table 13.3. -/
def State.events (s : State) : List Nat :=
  s.flows.flatMap (fun f => s.slotEvent f ++ s.isoEvents f ++ f.xs.flatMap (fun x => if x.status.isNone then x.expires.toList else []) ++
    s.gateEvent f) ++ s.delayEvents ++
  (allFin 16).flatMap (fun p => let q := vget s.sluice.ports p; if q.state = .pending then [q.switchAt] else [])

/-- The next scheduled event. -/
def State.nextEvent (s : State) : Option Nat :=
  match s.events with | [] => none | t :: l => some (l.foldl Nat.min t)

/-- PWR_NEXT_EVENT. -/
def State.nextEventView (s : State) : Word := match s.nextEvent with | some t => BitVec.ofNat 64 t | none => bits 63 0

/-! ### Permission (R329, Table 13.4) -/

/-- 1.1 × X, and E + 1.1 × X, in ns (Table 13.1). -/
def LpState.tol : LpState → Nat
  | .lp0 => 0 | .lp1 => 550 | .lp2 => 44000 | .lp3 => 990000
def LpState.room : LpState → Nat
  | .lp0 => 0 | .lp1 => 750 | .lp2 => 54000 | .lp3 => 1290000

/-- The device on a root port side leaves the side quiet (Table 13.2). -/
def Dev.quiet (d : Dev) (lp3 : Bool) : Bool :=
  d.reset = .none && d.resume = .none && (d.suspended || d.st = .failed || (!lp3 && (if d.id.ss then 1 ≤ d.linkU else d.l1)))

/-- Idle: no task listed, no slot occupied, no released delay, request or posted write waiting, no culvert request held, no flash
operation or item running. -/
def State.allIdle (s : State) : Bool :=
  let r := s.refreshLists
  r.sched.ready.toList.all List.isEmpty && s.slotOps.isEmpty && s.sched.work.isEmpty && s.sched.due.isEmpty &&
  s.sched.reqs.all (fun q => q.stage = 3) &&
  (allFin 4).all (fun c => (vget s.sched.cores c).op.isNone) && (allFin 14).all (fun i => (vget s.power.islands i).held.isEmpty) &&
  s.peat.erasing.isNone && s.peat.queue.isEmpty && s.pf.held.isEmpty && (allFin 256).all (fun t => (s.tenant t).pci.held.isEmpty)

/-- The conditions of a state, in the order of Table 13.4, each with its LIMIT code. Workers held for a self-test or a recovery keep the
controller in LP0 (15 Table 15.5), shown as condition 3 (DEDUCED, notes/assumptions/125.md). -/
def State.lpConds (s : State) (l : LpState) : List (Nat × Bool) :=
  let deep : Bool := decide (l = .lp2) || decide (l = .lp3)
  let lp3 : Bool := decide (l = .lp3)
  [(8, s.img.locked && !s.tap.custody && s.pins.pwrfailN), (1, decide (l.tol ≤ s.effTol)),
   (2, match s.nextEvent with | some t => decide (s.time.now + l.room ≤ t) | none => true),
   (3, decide (s.sched.data = .graph) && (!deep || s.allIdle)),
   (4, !deep || decide (s.link = .l12) || (!lp3 && decide (s.link = .l11))),
   (5, !deep || s.devs.all (fun d => !d.id.path.isEmpty || d.quiet lp3)),
   (6, !deep || !s.svc.attached || s.svc.suspended),
   (7, !lp3 || decide (s.aonSource = .crystal))]

def State.permitted (s : State) (l : LpState) : Bool := (s.lpConds l).all (fun e => e.2)

/-- The deepest permitted state. -/
def State.deepest (s : State) : LpState :=
  if s.permitted .lp3 then .lp3 else if s.permitted .lp2 then .lp2 else if s.permitted .lp1 then .lp1 else .lp0

/-- PWR_STATUS.LIMIT: the first condition that bars the next deeper state. -/
def State.lpLimit (s : State) : Nat :=
  let next : Option LpState := match s.power.lp with | .lp0 => some .lp1 | .lp1 => some .lp2 | .lp2 => some .lp3 | .lp3 => none
  match next with
  | some l => match (s.lpConds l).find? (fun e => !e.2) with | some e => e.1 | none => 0
  | none => 0

/-- PWR_STATUS.ALLOWED: the deepest state that the tolerance permits; its reset value LP0 until the image lock (DEDUCED,
notes/assumptions/11.md). -/
def State.lpAllowed (s : State) : Nat :=
  if !s.img.locked then 0 else if 990000 ≤ s.effTol then 3 else if 44000 ≤ s.effTol then 2 else if 550 ≤ s.effTol then 1 else 0

/-- PWR_STATUS. -/
def State.pwrStatusView (s : State) : Word :=
  pack [(s.lpLimit, 16), (b2n s.power.padItem, 9), (b2n s.power.padsHeld, 8), (s.lpAllowed, 4), (s.power.last.code, 2),
        (s.power.lp.code, 0)]

/-! ### Entry (R326, Table 13.7) -/

/-- What an island is put into by a state, if not left running (Table 13.2). -/
def Island.sleep (l : LpState) (i : Island) : Option IslandState :=
  match l, i with
  | .lp0, _ | _, .aon => none
  | _, .test => some .retention
  | .lp1, .hostlink => none
  | .lp1, _ => some .gated
  | .lp2, .hostlink | .lp2, .sched => some .gated
  | _, _ => some .retention

/-- Across LP2 and LP3 the energy account gains the refill of the elapsed Keeper time at the stage that held at entry (09 R260). -/
def State.sleepRefill (s : State) (ns : Nat) : State :=
  let e := s.energy
  if e.enabled then
    { s with energy := { (e.add ((({ e with stage := s.power.stage } : Energy).refill * (ns / 1000) : Nat) : Int)) with
                         forgiven := e.forgiven } }
  else s

/-- The state in force changes; its time and the entry are counted (R346). -/
def State.enterLp (s : State) (l : LpState) : State :=
  let p := s.power
  let ns := p.clock - p.since
  let s := if p.lp = .lp2 || p.lp = .lp3 then s.sleepRefill (s.time.now - p.entered) else s
  { s with power := { s.power with lp := l, since := p.clock, entered := s.time.now, stage := s.energy.stage, resNs := vmod p.resNs p.lp.idx (fun n => n + ns),
                                   resEntries := vmod p.resEntries l.idx (fun n => n + 1) } }

/-- Islands go to what a state puts them into, but for one with a request held in front of it (01 R18). -/
def State.sleepIslands (s : State) (l : LpState) (which : List Island) : State :=
  which.foldl (fun (a : State) i => match i.sleep l with
    | some st => if a.restarting i || !(a.island i).held.isEmpty then a else a.moveIsland i st
    | none => a) s

/-- VSEL code of an operating point (R335). -/
def State.vselOf (s : State) (n : Nat) : BitVec 3 := vget s.powerSec.vsel ⟨n % 3, Nat.mod_lt _ (by decide)⟩

/-- Enter a state. LP1 takes effect as its clocks gate; LP3 goes on at KEEPER_SAVE, from OPP0 (R337). -/
def State.enter (s : State) : LpState → State
  | .lp0 => s
  | .lp1 => (s.sleepIslands .lp1 [.test]).enterLp .lp1
  | .lp2 => (s.holdPads.sleepIslands .lp2 allIslands).enterLp .lp2
  | .lp3 =>
    let s := s.holdPads
    let s : State := { s with power := { s.power with entering := true, opp := 0, change := none },
                              pins := { s.pins with vsel := s.vselOf 0 } }
    s.sleepIslands .lp3 (allIslands.filter (fun i => i ≠ .sched))

/-! ### Exit (Table 13.6, R333, R334) -/

/-- The device on a root port that a wake source of the port names: resumed, or out of U1 or U2 (06 R165, 07 R207). -/
def State.portWake (s : State) (w : Nat) (p : PortId) : State :=
  let d : DevId := { port := p, ss := decide (w = 1), path := [] }
  match s.dev? d with
  | some x =>
    if (w ≠ 0 && w ≠ 1) || x.reset ≠ .none || x.resume ≠ .none then s
    else if x.suspended || x.l1 then (s.modDev d (fun y => { y with remote := true })).beginResume d none
    else s.modDev d (fun y => { y with linkU := 0 })
  | none => s

/-- What a PERST_N or a tamper assertion left to the end of the exit takes place (R344, Table 13.10). -/
def State.dueEffects (s : State) : State :=
  let p := s.power
  let s : State := { s with power := { p with perstDue := false, zeroDue := false } }
  let s := if p.perstDue then s.perst else s
  if p.zeroDue then s.zeroise else s

/-- The exit is over once every island is ready and Keeper time is restored: LP0, levels are sampled again, the WAKE item is placed, and
events latched during entry are replayed to their handlers, in latch order (R334). -/
def State.endExit (s : State) : State :=
  if s.power.exiting && s.power.saved.isNone && (allFin 14).all (fun i => (vget s.power.islands i).ready) then
    let s := if s.power.lp = .lp0 then s else s.enterLp .lp0
    let p := s.power
    let s : State := { s with power := { p with exiting := false, replayed := p.replayed || !p.latched.isEmpty, latched := [] } }
    p.latched.foldl (fun (a : State) e => a.portWake e.1 e.2) (s.dueEffects.resample.wantItem powerTask .wake)
  else s

/-- Begin an exit to LP0. Clocks ungate at once; islands in retention wake, and one that a request has woken goes on to. -/
def State.beginExit (s : State) (first : Nat) : State :=
  let p := s.power
  if p.exiting || (p.lp = .lp0 && !p.entering) then s
  else if p.lp = .lp1 && !p.entering then
    let s : State := { s with power := { s.power with first := first, last := p.lp } }
    (((allIslands.filter (fun i => !(s.island i).active)).foldl (fun (a : State) i => a.moveIsland i .running) s).enterLp .lp0).resample
  else (s.startExit first).endExit

/-- State selection (R329): exit when the state in force stops being permitted, then enter the deepest one that is. -/
def State.selectState (s : State) : State :=
  if s.power.entering || s.power.exiting || s.power.lp = .lp3 then s
  else
    let s := if s.power.lp = .lp0 || s.permitted s.power.lp then s else s.beginExit 0xF
    let d := s.deepest
    if !s.power.exiting && s.power.lp.code < d.code then s.enter d else s

/-- LP_ENTRY (R329). -/
def execLpEntry (s : State) : Host.Outcome State Fault Refusal := .next s.selectState

/-- What writes of T_LAT_TOL and PWR_LAT_FLOOR do: the effective tolerance changes, and with it the state. -/
def State.writeLatTol (t : TenantId) (v : Word) (s : State) : State :=
  (s.modTenant t (fun x => { x with latTol := field v 0 32 })).selectState

def State.writeLatFloor (v : Word) (s : State) : State :=
  ({ s with power := { s.power with latFloor := field v 0 32 } } : State).selectState

/-- T_LAT_TOL_WRITE (R327, R345). -/
def execTLatTolWrite (t : TenantId) (a : WrAcc) (v : Word) (s : State) : Host.Outcome State Fault Refusal :=
  .next (s.regWrite (.vf t) 0x200 .plain (bits 63 32) (BitVec.ofNat 64 (s.tenant t).latTol) a v (State.writeLatTol t))

/-- PWR_LAT_FLOOR_WRITE (R327, R345). -/
def execPwrLatFloorWrite (a : WrAcc) (v : Word) (s : State) : Host.Outcome State Fault Refusal :=
  .next (s.regWrite .pf0 0x50008 .plain (bits 63 32) (BitVec.ofNat 64 s.power.latFloor) a v State.writeLatFloor)

/-! ### The PCIe link and the crystal (R329, 02 R39) -/

/-- ASPM_L1_ENTRY (R329): the link enters L1 once ASPM L1 is enabled; the command stands for 4 us without a TLP. -/
def execAspmL1Entry (s : State) : Host.Outcome State Fault Refusal :=
  .next (if s.link = .l0 && s.pf.bit 0x60 1 then { s with link := .l1 } else s)

/-- L1_PM_SUBSTATE_ENTRY (R329): the host's L1 PM Substates mechanism takes the link in L1 on. -/
def execL1PmSubstateEntry (l12 : Bool) (s : State) : Host.Outcome State Fault Refusal :=
  .next (if s.link = .l1 && (if l12 then s.pf.bit 0x278 2 else s.pf.bit 0x278 3)
    then { s with link := if l12 then .l12 else .l11 } else s)

/-- XTAL32_RUNNING (02 R39). -/
def execXtal32Running (s : State) : Host.Outcome State Fault Refusal := .next { s with pins := { s.pins with xtal32 := true } }

/-! ### Wake sources (R331, R332, R334) -/

/-- The port watcher answers signalling on a root port whose island sleeps (R332): it drives the resume, or the LFPS handshake, until the
island is ready and takes the port over. Of the service port it passes on that the host has resumed it. -/
def State.portWatch (s : State) (w : Nat) (p : PortId) : State :=
  let asleep : Bool := !(vget s.power.islands (if w = 1 then Island.ssport else Island.hsport).idx).active
  if (w = 0 || w = 1) && asleep then
    { s with power := { s.power with watched := s.power.watched ++
      [{ port := p, side := if w = 1 then .ssport else .hsport, drive := if w = 1 then .lfps else .resumeK }] } }
  else if w = 4 && !(s.island .svc).active then
    { s with power := { s.power with watched := s.power.watched ++ [{ port := 0, side := .svc, drive := .none }] } }
  else s

/-- A wake source is recognised: it starts an exit, joins one, or, during entry, is latched for replay to its handler (R334). In LP0 it has
its own effect only. -/
def State.wake (s : State) (w : Nat) (p : PortId) : State :=
  let s := if w = 5 && s.link ≠ .down then ({ s with link := .l0 } : State) else s
  let asleep : Bool := !(vget s.power.islands (if w = 1 then Island.ssport else Island.hsport).idx).active
  let s := s.portWatch w p
  let s := if asleep && !s.power.entering then s.portWake w p else s
  let pw := s.power
  if pw.lp = .lp0 && !pw.entering && !pw.exiting then s
  else
    let s : State := { s with power := { pw with causes := pw.causes ||| (1#12 <<< w),
                                                 wakePort := if w ≤ 3 then p else pw.wakePort,
                                                 latched := if pw.entering then pw.latched ++ [(w, p)] else pw.latched } }
    s.beginExit w

/-- CONNECT (06 R141): step 1; on a root port it is wake source 2. -/
def execConnect (d : DevId) (sp : Speed) (s : State) : Host.Outcome State Fault Refusal :=
  .next (if d.path.isEmpty then (s.attach d sp).wake 2 d.port else s.attach d sp)

/-- DISCONNECT (06 R167): the device detaches, with everything below it; during debounce it ends the connect (R141). On a root port it is
wake source 2. -/
def execDisconnect (d : DevId) (s : State) : Host.Outcome State Fault Refusal :=
  .next (if d.path.isEmpty then (s.detach d false).wake 2 d.port else s.detach d false)

/-- REMOTE_WAKE (06 R165); at its root port it is wake source 0. -/
def execRemoteWake (d : DevId) (s : State) : Host.Outcome State Fault Refusal := .next ((s.remoteWake d).wake 0 d.port)

/-- FUNCTION_WAKE (06 R165); at its root port it is wake source 1. -/
def execFunctionWake (d : DevId) (s : State) : Host.Outcome State Fault Refusal := .next ((s.functionWake d).wake 1 d.port)

/-- OVER_CURRENT_TRIP (06 R169); of a root port it is wake source 3. -/
def execOverCurrentTrip (r : OcRef) (s : State) : Host.Outcome State Fault Refusal :=
  .next (match r with | .root p => (s.overCurrent r).wake 3 p | .hub _ _ => s.overCurrent r)

/-- PWRFAIL_N_FALL (14 R360); it is wake source 6. -/
def execPwrfailNFall (tpp : Nat) (starts : List Nat) (s : State) : Host.Outcome State Fault Refusal :=
  .next ((s.pwrfailFall tpp starts).wake 6 0)

/-- PPS_IN_EDGE (04 R98): while PPS_IN is in use, wake source 7. Keeper time does not run from its saving for LP3 on, and an edge then only
wakes (notes/assumptions/116.md). -/
def execPpsInEdge (falling : Bool) (s : State) : Host.Outcome State Fault Refusal :=
  let t := if s.power.saved.isSome then s else s.ppsInEdge falling
  .next (if s.img.locked && s.ppsInUse then t.wake 7 0 else t)

/-- PERST_N_ASSERT (03 R50): the link goes down; in LP2 or LP3, or on the way in or out, it is wake source 5 and the rest follows the exit
(Table 13.10). -/
def execPerstNAssert (s : State) : Host.Outcome State Fault Refusal :=
  if s.pins.perstN then
    let t : State := { s with pins := { s.pins with perstN := false }, link := .down }
    let p := s.power
    if p.lp = .lp2 || p.lp = .lp3 || p.entering || p.exiting then
      .next (({ t with power := { p with perstDue := true } } : State).wake 5 0)
    else .next (t.perst.wake 5 0)
  else .next s

/-- WAKE_SOURCE (R331). -/
def execWakeSource (w : Fin 12) (p : PortId) (s : State) : Host.Outcome State Fault Refusal := .next (s.wake w.val p)

/-- WAKE_TIMER (R341). -/
def execWakeTimer (s : State) : Host.Outcome State Fault Refusal :=
  .next (if s.power.lp = .lp3 && s.power.wakeTimer.isSome && !s.power.exiting then s.wake 8 0 else s)

/-! ### Time across sleep (R340, R341) -/

/-- The largest whole tick count that ends 990 us before the next event, at 50 ppm. -/
def wakeTicks (saved next : Nat) : Nat := (next - saved - 990000) * 100000000000 / (30517578125 * 100005)

/-- KEEPER_SAVE (R340): Keeper time is saved, the wake timer set, and SCHED goes into retention. -/
def execKeeperSave (s : State) : Host.Outcome State Fault Refusal :=
  .next (if s.power.entering then
      let timer := s.nextEvent.map (fun n => wakeTicks s.time.now n)
      let s := (s.sleepIslands .lp3 [.sched]).enterLp .lp3
      { s with power := { s.power with entering := false, saved := some s.time.now, wakeTimer := timer } }
    else s)

/-- KEEPER_RESTORE (R340, R341): at the tick edge after the islands report ready, Keeper time is the saved value and the ticks counted;
F follows it, due delays are released, and buckets and islands' counts gain the elapsed time. -/
def execKeeperRestore (ticks : Nat) (s : State) : Host.Outcome State Fault Refusal :=
  .next (match s.power.saved with
    | some t0 =>
      if s.power.exiting && (allFin 14).all (fun i => (vget s.power.islands i).ready) then
        let x : Int := s.time.frac + ticks * 30517578125000
        let ns := (x + 500000000) / 1000000000
        let now := addNs t0 ns
        let el := ns.toNat
        let s : State := { s with
          time := { s.time with now := now, frac := x - ns * 1000000000 },
          frames := { s.frames with f := (((now : Int) + s.frames.phase) / 125000 - s.frames.k).toNat },
          flows := s.flows.map (fun (f : Flow) => { f with xs := f.xs.map (fun x =>
            { x with late := match x.expires with | some e => decide (t0 < e) && decide (e ≤ now) | none => false }) }),
          power := { s.power with saved := none, lastSleep := ticks % 2 ^ 48, clock := s.power.clock + el,
                                  gatedNs := Vector.ofFn (fun i => if i.val = 0 then 0 else vget s.power.gatedNs i + el),
                                  islands := s.power.islands.map (fun i => { i with since := i.since + el }) } }
        ((s.tickPolicing (el / 1000)).releaseDelays now (some t0)).endExit
      else s
    | none => s)

/-! ### Islands (R326, 01 R17, R18) -/

/-- Every unit with its operation. -/
def State.unitOps (s : State) : List (UnitId × Op) :=
  ((allFin 32).map UnitId.worker ++ (allFin 4).map UnitId.core).flatMap (fun u => (s.opAt u).toList.map (fun o => (u, o)))

/-- The island has no work: no request held in front of it, no operation that takes it up, no task listed, no flash operation, no
transfer of the service port. -/
def State.islandIdle (s : State) (i : Island) : Bool :=
  (s.island i).held.isEmpty && s.unitOps.all (fun e => !((s.opWay e.1 e.2).contains i)) &&
  (match i with
   | .nvm => s.peat.erasing.isNone && s.peat.queue.isEmpty
   | .sched => s.slotOps.isEmpty && s.refreshLists.sched.ready.toList.all List.isEmpty
   | .svc => !s.svc.inXfer
   | _ => true)

/-- An island that runs and has no work goes to what the state in force puts it into. -/
def State.islandSleep (s : State) (i : Island) (st : IslandState) : State :=
  if (vget s.power.islands i.idx).state = .running && !s.power.entering && !s.power.exiting && i.sleep s.power.lp = some st &&
     s.islandIdle i then s.moveIsland i st else s

/-- ISLAND_CLOCK_GATE (R326): the command stands for 1 us without work. -/
def execIslandClockGate (i : Island) (s : State) : Host.Outcome State Fault Refusal := .next (s.islandSleep i .gated)

/-- ISLAND_RETENTION (R326): the command stands for 50 us without work after a wake on demand. -/
def execIslandRetention (i : Island) (s : State) : Host.Outcome State Fault Refusal := .next (s.islandSleep i .retention)

/-! ### Retention (R342, R343) -/

/-- The islands of a bank of Table 13.9 (01 Table 1.5): the port FIFOs lie in two. -/
def bankIslands (b : Nat) : List Island :=
  if b ≤ 7 || b = 14 || b = 15 then [.lode] else if b = 12 || b = 19 then [.mgmt] else if b = 16 then [.seal]
  else if b = 17 then [.hsport, .ssport] else if b = 18 then [.hsport] else [.sched]

/-- RETENTION_SCRUB (R342): a bank is scrubbed in LP2 or LP3, or on exit; corrected words count for retention and, as from any scrub
(15 R379), in FLT_ECC of the bank. A LOST bank has the consequence of Table 13.9, and during sleep wakes the controller; the seal
buffers after a tamper assertion in sleep are reinitialised and not LOST (R344). -/
def execRetentionScrub (b : Fin 20) (corrected : Nat) (lost : Bool) (s : State) : Host.Outcome State Fault Refusal :=
  .next (if s.power.lp = .lp2 || s.power.lp = .lp3 || (bankIslands b.val).any (fun i => (s.island i).state = .waking) then
      let s : State := { s with
        power := { s.power with corrected := satAdd s.power.corrected corrected (2 ^ 24 - 1) },
        faults := { s.faults with corrected := vmod s.faults.corrected (b.castLE (by decide)) (fun n => satAdd n corrected (2 ^ 48 - 1)) } }
      if lost && !(b.val = 16 && s.power.zeroDue) then
        let s : State := { s with power := { s.power with lost := s.power.lost ||| (1#20 <<< b.val) } }
        let s := s.memoryFault 8 (b.castLE (by decide)) true 0
        if s.power.exiting then s else s.wake 10 0
      else s
    else s)

/-! ### Pads (R338, R339) -/

/-- Pads are released: every pad takes its owner's level, and waiting changes take effect in the order they arose. -/
def State.releasePads (s : State) : State :=
  if s.power.padsHeld then
    let l := s.power.waiting
    let s : State := { s with power := { s.power with padsHeld := false, waiting := [] },
                              pins := { s.pins with gpioHeld := none, ppsOut := s.time.ppsOutEn && decide (s.time.now % 1000000000 < 1000000) } }
    l.foldl (fun (a : State) e => a.setPower e.1 e.2) s
  else s

def State.writePadRelease (v : Word) (s : State) : State := if v.getLsbD 0 then s.releasePads else s

/-- PWR_PAD_RELEASE (R339). -/
def execPwrPadRelease (a : WrAcc) (v : Word) (s : State) : Host.Outcome State Fault Refusal :=
  .next (s.regWrite .pf0 0x50030 .side (bits 63 1) 0 a v State.writePadRelease)

/-- WAKE (R333): causes and residency stand already; the item releases the pads in mode ITEM. -/
def execWake (s : State) : Host.Outcome State Fault Refusal :=
  .next (match s.itemCore .wake with
    | some c =>
      let s := s.endItem c .wake false
      if s.power.padItem then s.releasePads else s
    | none => s)

/-! ### Operating points (R335 to R337) -/

/-- The points that the image permits, ascending. -/
def Power.points (p : Power) : List Nat := (List.range 3).filter (fun n => p.permit.getLsbD n)

/-- The highest permitted point up to a cap, else the lowest one. -/
def Power.atMost (p : Power) (cap : Nat) : Nat :=
  match (p.points.filter (fun n => n ≤ cap)).getLast?, p.points with
  | some n, _ => n
  | none, n :: _ => n
  | none, [] => 0

/-- The highest point AUTO may choose at a thermal stage. -/
def Thermal.cap : Thermal → Nat
  | .normal => 2 | .soft => 1 | _ => 0

/-- The chosen point; with the energy account disabled the thermal stages have no effect (09 R257). -/
def State.chosenPoint (s : State) : Nat :=
  if s.power.oppMode < 3 then s.power.oppMode
  else s.power.atMost (Nat.min s.power.chosen (if s.energy.enabled then s.energy.stage.cap else 2))

/-- The periodic floor: the lowest point that carries the heaviest microframe. -/
def State.oppFloor (s : State) : Nat :=
  let n := worstBytes s.resvs
  if n ≤ 400000 then 0 else if n ≤ 600000 then 1 else 2

def State.oppShort (s : State) : Bool := !(s.power.points.contains s.oppFloor)

/-- The point to run: the higher of the two; the highest permitted one when the floor is forbidden. -/
def State.oppWanted (s : State) : Nat :=
  if s.oppShort then s.power.atMost 2 else Nat.max s.chosenPoint s.oppFloor

/-- PWR_OPP_STATUS. -/
def State.oppStatusView (s : State) : Word :=
  let p := s.power
  pack [(p.oppFaults, 32), (if s.img.locked then p.permit.toNat else 0, 16), (s.pins.vsel.toNat, 8), (b2n (s.img.locked && s.oppShort), 5),
        (b2n p.oppFault, 4), (b2n (decide (s.chosenPoint < s.oppFloor)), 3), (b2n p.change.isSome, 2), (p.opp, 0)]

/-- What a write of PWR_OPP_CTL does: a point outside OPP_PERMIT is refused. -/
def State.writeOppCtl (v : Word) (s : State) : State :=
  let m := field v 0 2
  if m = 3 || s.power.permit.getLsbD m then { s with power := { s.power with oppMode := m } } else s.refuseWrite .pf0

def State.oppCtlWrite (s : State) (a : WrAcc) (v : Word) : State :=
  s.regWrite .pf0 0x50020 .plain (bits 63 2) (BitVec.ofNat 64 s.power.oppMode) a v State.writeOppCtl

/-- PWR_OPP_CTL_WRITE (R336). -/
def execPwrOppCtlWrite (a : WrAcc) (v : Word) (s : State) : Host.Outcome State Fault Refusal := .next (s.oppCtlWrite a v)

/-- OPP_CHANGE (R336): up, the voltage first; down, the clocks first. None while a change runs, FAULT stands, the lock is not reached
or an entry to LP3, or LP3, holds OPP0. -/
def execOppChange (s : State) : Host.Outcome State Fault Refusal :=
  let p := s.power
  let n := s.oppWanted
  .next (if p.change.isSome || p.oppFault || !s.img.locked || p.entering || p.lp = .lp3 || p.exiting || n = p.opp then s
    else if p.opp < n then
      { s with power := { p with change := some (n, .waitPg) }, pins := { s.pins with vsel := s.vselOf n, vcorePg := false } }
    else { s with power := { p with change := some (n, .relock), opp := n }, pins := { s.pins with vsel := s.vselOf n } })

/-- The phase of a change moves on. -/
def State.oppPhase (s : State) (old new : OppPhase) : State :=
  match s.power.change with
  | some (n, ph) => if ph = old then { s with power := { s.power with change := some (n, new) } } else s
  | none => s

/-- VCORE_PG_GOOD (R336). -/
def execVcorePgGood (s : State) : Host.Outcome State Fault Refusal :=
  .next (({ s with pins := { s.pins with vcorePg := true } } : State).oppPhase .waitPg .settle)

/-- VCORE_SETTLE_END (R336): the clocks are raised. -/
def execVcoreSettleEnd (s : State) : Host.Outcome State Fault Refusal := .next (s.oppPhase .settle .relock)

/-- PLL_RELOCK (R336): SCHED and the workers run at the new point. -/
def execPllRelock (s : State) : Host.Outcome State Fault Refusal :=
  .next (match s.power.change with
    | some (n, .relock) => { s with power := { s.power with change := none, opp := n } }
    | _ => s)

/-- OPP_FAULT (R336): 2 ms without VCORE_PG; the old code returns, and a fault is recorded. -/
def execOppFault (s : State) : Host.Outcome State Fault Refusal :=
  .next (match s.power.change with
    | some (n, .waitPg) =>
      let bad := s.pins.vsel
      let s : State := { s with pins := { s.pins with vsel := s.vselOf s.power.opp, vcorePg := true },
                                power := { s.power with change := none, oppFault := true, oppFaults := satAdd s.power.oppFaults 1 65535 } }
      s.faultRecord 6 n none 0 bad.toNat 0
    | _ => s)

/-- OPP_AUTO_WINDOW (R337): a window ends once 1 ms has passed: up after one above 80 %, down after eight in a row below 35 %. -/
def execOppAutoWindow (windowUs : Nat) (s : State) : Host.Outcome State Fault Refusal :=
  if windowUs < 1000 then .next s
  else
  let w := s.power
  let p := { w with busy := 0, slots := 0 }
  let s : State := { s with power := p }
  let run := if 100 * w.busy < 35 * w.slots then p.lowRun + 1 else 0
  .next (if p.oppMode ≠ 3 || !s.img.locked then s
    else
      let now := s.chosenPoint
      if 80 * w.slots < 100 * w.busy then
        { s with power := { p with lowRun := 0, chosen := ((p.points.filter (fun n => now < n)).head?).getD now } }
      else if 8 ≤ run then
        { s with power := { p with lowRun := 0, chosen := ((p.points.filter (fun n => n < now)).getLast?).getD now } }
      else { s with power := { p with lowRun := run, chosen := now } })

/-! ### Temperature (09 R259) -/

/-- The thresholds in force: those of TABLE_BUILD, before it the ordering code's. -/
def Energy.limits (e : Energy) : List Nat :=
  if e.tCrit = 0 then [defaultT.1, defaultT.2.1, defaultT.2.2] else [e.tSoft, e.tHard, e.tCrit]

/-- A stage holds at a reading: its threshold is reached, or it was held and the reading is less than 3 degrees below. -/
def stageHolds (r : Int) (t : Nat) (held : Bool) : Bool := decide ((t : Int) ≤ r) || (held && decide ((t : Int) - 3 < r))

/-- The stage that a reading gives. -/
def Energy.stageAt (e : Energy) (r : Int) : Thermal :=
  let h := fun (k : Nat) => stageHolds r (e.limits.getD k 0) (decide (k < e.stage.code))
  if h 2 then .crit else if h 1 then .hard else if h 0 then .soft else .normal

/-- THERMAL_SAMPLE (09 R259): the highest reading decides; CRIT drives THERM_N and is wake source 10. -/
def execThermalSample (r : List (BitVec 8)) (s : State) : Host.Outcome State Fault Refusal :=
  let top := r.foldl (fun (a : Int) (x : BitVec 8) => if a < x.toInt then x.toInt else a) (-128)
  let st := s.energy.stageAt top
  let was := s.energy.stage
  let s : State := { s with
    energy := { s.energy with sensors := Vector.ofFn (fun (i : Fin 4) => r.getD i.val 0), stage := st },
    pins := { s.pins with thermN := s.pins.porN && decide (st = .crit) } }
  .next (if st = .crit && was ≠ .crit then s.wake 10 0 else s)

/-! ### Tamper inputs (10 R286, R288, R289; R344) -/

/-- The tamper latch, which the VBAT well keeps alive (01 R13): the pending count and the input. -/
def State.latchTamper (s : State) (i : Fin 2) : State :=
  { s with peat := { s.peat with tamperPend := BitVec.ofNat 16 (satAdd s.peat.tamperPend.toNat 1 65535),
                                 tamperInputs := s.peat.tamperInputs ||| (1#2 <<< i.val) } }

/-- Zeroising by a tamper assertion: while SEAL is in retention the wrapping key goes at once, and the rest follows the exit (R344). -/
def State.tamperZero (s : State) : State :=
  if (s.island .seal).ready || s.power.lp = .lp0 || s.power.lp = .lp1 then s.zeroise
  else { s with seals := { s.seals with wrapKey := 0, zeroised := true }, power := { s.power with zeroDue := true } }

/-- TAMPER_ASSERT (10 R288): with VAON or VBAT present the latch counts it; while the controller runs, keys are zeroised and
REVOKE_ON_TAMPER blows the fuse; in LP2 and LP3 exit starts. -/
def execTamperAssert (i : Fin 2) (s : State) : Host.Outcome State Fault Refusal :=
  .next (if s.pins.tamper.getLsbD i.val then s
    else
      let s : State := { s with pins := { s.pins with tamper := s.pins.tamper ||| (1#2 <<< i.val) } }
      if !s.pins.vaon && !s.pins.vbat then s
      else
      let s := s.latchTamper i
      if !s.pins.porN then s
      else
      let s : State := { s with fuses := { s.fuses with revoked := s.fuses.revoked || s.seals.revokeOnTamper },
                                svc := { s.svc with ep1 := s.svc.ep1 ||| 8 } }
      let s := s.tamperZero
      let waits := s.peat.queue.any (fun q => match q.body with | .lifetime _ => q.link = 0 && !q.ckpt | _ => false)
      let s := if s.peatUp && !waits then s.queueRec { body := .lifetime {} } else s
      s.wake 9 0)

/-- TAMPER_RELEASE (10 R288): the input can be recognised again. -/
def execTamperRelease (i : Fin 2) (s : State) : Host.Outcome State Fault Refusal :=
  .next { s with pins := { s.pins with tamper := s.pins.tamper &&& ~~~(1#2 <<< i.val) } }

end Sys2Proof.Machine
end

