-- ==== Sys2Proof/Machine/Startup.lean ====
section
/-! DEFINITION. Power-up, resets and start-up: VSEL, the two resets that run start-up, the straps, IMAGE_SELECT, TABLE_BUILD, the
image lock, PORT_POWER, and the self-test items (02 R25, R29 to R31; 03 R49 to R69; 16 R415). -/

namespace Sys2Proof.Machine

/-! ### Resets (R49 to R52, Table 3.2) -/

/-- VDDIO_N_RISE (02 R29): VSEL is driven to 0b001. -/
def execVddioNRise (s : State) : Host.Outcome State Fault Refusal :=
  .next (if s.pins.vddioN then s else { s with pins := { s.pins with vddioN := true, vsel := 1 } })

/-- What lies in the Peat flash, beyond any reset, and what VAON or VBAT keeps (14 R361). -/
def PeatSt.survives (p : PeatSt) (powered : Bool) : PeatSt :=
  let p0 : PeatSt := { sectors := p.sectors, copies := p.copies }
  if powered then
    { p0 with horizon := p.horizon, horizonMac := p.horizonMac, horizonOk := p.horizonOk, tamperPend := p.tamperPend,
              tamperGen := p.tamperGen, tamperInputs := p.tamperInputs }
  else p0

/-- The machine that a full or watchdog reset leaves: every part at its reset value but flash, fuses, what VBAT keeps, the levels at
its input pins, and the model's own queue and logs. -/
def State.afterReset (s : State) (vaon vbat : Bool) (cause : BitVec 4) : State :=
  { pending := s.pending, out := s.out, resp := s.resp, free := s.free, fuses := s.fuses,
    pins := { vddioN := s.pins.vddioN, perstN := s.pins.perstN, pwrfailN := s.pins.pwrfailN, pocN := s.pins.pocN,
              tamper := s.pins.tamper, gpio := s.pins.gpio, xtal32 := s.pins.xtal32 && (vaon || vbat), vcorePg := s.pins.vcorePg,
              vaon := vaon, vbat := vbat },
    img := { flash := s.img.flash, cause := cause }, peat := s.peat.survives (vaon || vbat), svc := { vbus := s.svc.vbus } }

/-- A full reset: the AON island resets too, with VAON present or not. Its cause is POR or VAON_LOW, with CUSTODY when it ends test
custody. -/
def State.fullReset (s : State) (vaonLow vbat : Bool) : State :=
  s.afterReset (!vaonLow) vbat ((if vaonLow then 2 else 1) + (if s.tap.custody then 8 else 0))

/-- FULL_RESET (02 R31): a POR_N pulse shorter than 7 us does nothing, one of 9 us or more resets, one between does either, whole. VAON
below 0.70 V always resets. Start-up begins at POR_N_RELEASE. -/
def execFullReset (src : FullResetSrc) (vbat : Bool) (s : State) : Host.Outcome State Fault Refusal :=
  .next (match src with
    | .vaonLow => s.fullReset true vbat
    | .por n =>
      if n < 7000 then s
      else if 9000 ≤ n then s.fullReset false vbat
      else
        let (b, s) := s.drawBool
        if b then s.fullReset false vbat else s)

/-! ### Start-up steps 1 to 3, and test custody (R53, R56; 16 R414) -/

/-- The mode of test custody: items only, and Peat no more (16 Table 16.5 step 5). -/
def State.custodyMode (s : State) : State :=
  { s with tap := { s.tap with custody := true }, sched := { s.sched with data := .item, mgmt := .item, cause := .custody } }

/-- The image lock (R55): configuration space answers, RWL fields lock, and outside test custody both areas go to GRAPH. -/
def State.imageLock (s : State) (us : Nat) : State :=
  let s : State := { s with img := { s.img with locked := true, startUs := us % 2 ^ 32 } }
  if s.tap.custody then s else { s with sched := { s.sched with data := .graph, mgmt := .graph, cause := .none } }

/-- Steps 1 to 3, with a fresh wrapping key (10 R271), then the start-up items. In test custody only steps 1 to 3 run, and the lock follows without an image (R56); with
the strap, both self-tests run. -/
def State.runStart (s : State) : State :=
  let (key, s) := s.drawRandom
  let s : State := { s with img := { s.img with step := 3, fusesRead := true }, seals := { s.seals with wrapKey := key } }
  if s.pins.testMode || s.tap.custody then
    let s := (s.custodyMode.setPeat .absent .custody).imageLock (s.time.now / 1000)
    if s.pins.testMode then
      ({ s with self := { s.self with mbistBusy := true, loopNext := true } } : State).addItem powerTask .selfTestMbist
    else s
  else s.addItem powerTask .peatMount

/-- POR_N_RELEASE (R53, 02 R25): the straps are sampled and start-up begins. -/
def execPorNRelease (peatSel testMode : Bool) (s : State) : Host.Outcome State Fault Refusal :=
  .next (if s.pins.porN then s
    else ({ s with pins := { s.pins with porN := true, vaon := true, peatSel := peatSel, testMode := testMode } } : State).runStart)

/-- Some Sedge core runs: the watchdog watches it from the first start-up item on. -/
def State.watched (s : State) : Bool :=
  s.pins.porN && 3 ≤ s.img.step && (vget s.power.islands Island.mgmt.idx).state = .running &&
  (allFin 4).any (fun c => !(vget s.sched.cores c).fenced)

/-- What AON keeps through a watchdog reset: residency, the wake latch and the sleep counter. -/
def Power.kept (p : Power) : Power :=
  { clock := p.clock, since := p.clock, last := p.last, wakePort := p.wakePort, first := p.first, replayed := p.replayed,
    causes := p.causes, lastSleep := p.lastSleep,
    resNs := vmod p.resNs p.lp.idx (fun n => n + (p.clock - p.since)), resEntries := p.resEntries,
    gatedNs := Vector.ofFn (fun i => let x := vget p.islands i
                                     vget p.gatedNs i + (if x.active then 0 else p.clock - x.since)),
    islands := Vector.replicate 14 { since := p.clock } }

/-- WATCHDOG_RESET (R49): a core failed to kick for 100 ms. AON, horizon, tamper latch, straps and the TAP are kept, and so are the
causes in IMG_RESET_CAUSE that no write has cleared (Table 3.2); start-up runs again. -/
def execWatchdogReset (s : State) : Host.Outcome State Fault Refusal :=
  .next (if s.watched then
      let r := s.afterReset true s.pins.vbat (s.img.cause ||| 4)
      ({ r with power := s.power.kept, tap := s.tap,
                pins := { r.pins with porN := true, peatSel := s.pins.peatSel, testMode := s.pins.testMode } } : State).runStart
    else s)

/-! ### IMAGE_SELECT (R57, R64 to R66, R69) -/

/-- Checks 1 to 4 of a slot's header. -/
def slotHeader (r : FlashRead) (l : List Byte) : Option Byte := if r = .none then some 0x0C else headerFail l

/-- Every check of a slot, the claim included. A body that cannot be read is found once the header has passed. -/
def State.checkSlot (s : State) (r : FlashRead) (l : List Byte) : Except CheckFail Image :=
  match slotHeader r l with
  | some e => .error { reason := e }
  | none =>
    if r = .header then .error { reason := 0x0C }
    else match bodyFail s.fuses l with
      | .error e => .error e
      | .ok i => if s.fuses.ownerHash = 0 then .error { reason := 0x08 } else .ok i

/-- IMG_SLOT and IMG_SLOT_VERSION: the version when check 2 passed, the security version when check 3 passed. -/
def slotInfo (r : FlashRead) (l : List Byte) (e : CheckFail) : SlotInfo :=
  let h := slotHeader r l
  { reason := e.reason, sect := BitVec.ofNat 8 e.sect, fieldOffset := e.off,
    svn := if h = some 0x0C || h = some 1 || h = some 2 || h = some 3 then 0 else rd l 6 1 % 64,
    version := if h = some 0x0C || h = some 1 || h = some 2 then 0 else BitVec.ofNat 64 (rd l 8 8),
    key := if r = .none then [] else rdBytes l 0x38 64 }

/-- The slot that is fully checked first: B only when both headers pass and B's version is higher. -/
def prefersB (readA readB : FlashRead) (a b : List Byte) : Bool :=
  (slotHeader readA a).isNone && (slotHeader readB b).isNone && decide (rd a 8 8 < rd b 8 8)

/-- A slot that is not checked beyond its header. -/
def unchecked (r : FlashRead) (l : List Byte) : CheckFail := { reason := (slotHeader r l).getD 0x0D }

/-- The choice: the booted slot with its image, and what each slot reports. -/
def State.choose (s : State) (readA readB : FlashRead) : Option (Fin 2 × Image) × CheckFail × CheckFail :=
  let a := vget s.img.flash 0
  let b := vget s.img.flash 1
  let ca := s.checkSlot readA a
  let cb := s.checkSlot readB b
  let valid : CheckFail := { reason := 0 }
  if prefersB readA readB a b then
    match cb, ca with
    | .ok i, _ => (some (1, i), unchecked readA a, valid)
    | .error e, .ok i => (some (0, i), valid, e)
    | .error e, .error d => (none, d, e)
  else
    match ca, cb with
    | .ok i, _ => (some (0, i), valid, unchecked readB b)
    | .error e, .ok i => (some (1, i), e, valid)
    | .error e, .error d => (none, e, d)

/-- The next bit of the SVN thermometer is blown, n times, in ascending order up to a security version (R66). -/
def Fuses.blow (goal : Nat) : Nat → Fuses → Fuses
  | 0, f => f
  | n + 1, f => if f.svn < goal then Fuses.blow goal n { f with svn := f.svn + 1 } else f

/-- The fused minimum while IMAGE_SELECT advances it (R66): all bits that the image calls for, or those blown before a power cut. -/
def Fuses.advance (f : Fuses) (i : Image) (cut : Option Nat) : Fuses :=
  if i.advance then f.blow i.svn (cut.getD i.svn) else f

/-- The power fails while IMAGE_SELECT blows fuse bits: the advance is short of the image's security version (R66). -/
def Fuses.cutShort (f : Fuses) (i : Image) (cut : Option Nat) : Bool := i.advance && decide ((f.advance i cut).svn < i.svn)

/-- IMAGE_SELECT (R64 to R66): no valid slot leaves the controller imageless, and its lock is the end of this item (R55). `cut` is the
number of fuse bits blown when the power failed, if it did: start-up then waits for the next reset, and the bits stay blown. -/
def execImageSelect (r : SlotReads) (cut : Option Nat) (s : State) : Host.Outcome State Fault Refusal :=
  .next (match s.itemCore .imageSelect with
    | none => s
    | some c =>
      let (pick, ea, eb) := s.choose r.a r.b
      if (match pick with | some (_, i) => s.fuses.cutShort i cut | none => false) then
        { s with fuses := match pick with | some (_, i) => s.fuses.advance i cut | none => s.fuses }
      else
      let before := s.fuses.svn
      let slots := #v[slotInfo r.a (vget s.img.flash 0) ea, slotInfo r.b (vget s.img.flash 1) eb]
      let active := match pick with | some (n, _) => n.val + 1 | none => 0
      let s : State := { s with
        img := { s.img with slots := slots, active := active, image := pick.map (fun p => p.2), step := 5 },
        fuses := match pick with | some (_, i) => s.fuses.advance i none | none => s.fuses }
      let s := s.logEvent 2 none none (BitVec.ofNat 256
        (ea.reason.toNat + eb.reason.toNat * 2 ^ 8 + active * 2 ^ 16 + before * 2 ^ 24 + s.fuses.svn * 2 ^ 32))
      let s := s.endItem c .imageSelect pick.isNone
      if pick.isSome then s.addItem powerTask .tableBuild else s.imageLock (s.time.now / 1000))

/-! ### TABLE_BUILD (R55, R57) -/

/-- The energy account that the ENERGY section gives; without it the account is disabled and the thresholds are the defaults.
The level starts at NRG_BURST_UJ. -/
def Energy.load (e : Energy) : Option EnergySec → Energy
  | some x => { e with enabled := true, level := (x.set.burst : Int) * 1000000, set := x.set, active := x.set, tSoft := x.tSoft, tHard := x.tHard, tCrit := x.tCrit }
  | none => { e with enabled := false, tSoft := defaultT.1, tHard := defaultT.2.1, tCrit := defaultT.2.2 }

/-- Gate lists and the POLICY section. -/
def Sluice.load (q : Sluice) (i : Image) (now : Nat) : Sluice :=
  let lists := match i.sluice with | some x => x.lists | none => []
  { q with staging := match i.sluice with | some x => x.staging | none => false, exempt := i.exempt, startEmpty := i.startEmpty,
           ports := Vector.ofFn (fun (p : Fin 16) =>
             ({ vget q.ports p with oper := lists.lookup p.val } : SluicePort).edge now) }

/-- A route word of the IRQ section (12 R320). -/
def IrqSrc.load (x : IrqSrc) (w : BitVec 32) : IrqSrc :=
  { x with target := w.extractLsb' 0 8, vector := w.extractLsb' 8 8, prio := w.extractLsb' 16 3, en := w.getLsbD 19 }

/-- Every section goes into the tables. -/
def State.loadImage (s : State) (i : Image) : State :=
  { s with
    power := { s.power with latFloor := i.power.latFloor, permit := i.power.permit, oppMode := i.power.mode, padItem := i.power.padItem },
    energy := s.energy.load i.energy, sluice := s.sluice.load i s.time.now, deglitchUs := i.glob.deglitchUs,
    gangMask := i.glob.gangs, ports := s.ports.map (fun (p : Port) => { p with urgent := i.urgentNs }),
    frames := { s.frames with lock := if i.glob.freeRun then .freeRun else s.frames.lock },
    shared := if i.irq.isEmpty then s.shared else Vector.ofFn (fun (n : Fin 96) => (vget s.shared n).load (i.irq.getD n.val 0)),
    time := { s.time with nextPtm := if i.time.usesPtm then some (s.time.now + i.time.intervalMs * 1000000) else none },
    peat := { s.peat with formatting := s.peat.formatting || (s.peat.state = .absent && s.peat.reason = .unformatted) } }

/-- TABLE_BUILD (R55, R57): the tables are loaded, a missing Peat superblock begins a format, and the image lock is reached. -/
def execTableBuild (lockUs : Nat) (s : State) : Host.Outcome State Fault Refusal :=
  .next (match s.itemCore .tableBuild, s.img.image with
    | some c, some i =>
      let t := (s.loadImage i).endItem c .tableBuild false
      let t : State := { t with img := { t.img with step := 6 } }
      ((t.imageLock lockUs).addItem powerTask .portPower).settle s .pf0
    | some c, none => s.endItem c .tableBuild false
    | none, _ => s)

/-! ### PORT_POWER (R57) -/

/-- PORT_POWER (R57): PPWR_EN of the enabled ports rises one by one from here on, in hardware. -/
def execPortPower (s : State) : Host.Outcome State Fault Refusal :=
  .next (match s.itemCore .portPower, s.img.image with
    | some c, some i =>
      let s := s.endItem c .portPower false
      { s with img := { s.img with step := 9, portSeq := (allFin 16).filter (fun p => i.glob.portEnable.getLsbD p.val) } }
    | some c, none => s.endItem c .portPower false
    | none, _ => s)

/-! ### Self-test (16 R415) -/

/-- A self-test item runs, or waits for its slot. -/
def SelfTest.busy (x : SelfTest) : Bool := x.mbistBusy || x.loopBusy

/-- LOOPBACK begins: it waits for empty worker slots. -/
def State.startLoop (s : State) : State :=
  let s : State := if s.sched.data = .graph then { s with sched := { s.sched with data := .item, cause := .selfTest } } else s
  ({ s with self := { s.self with loopBusy := true, loopNext := false } } : State).addItem powerTask .selfTestLoopback

/-- A write of SVC_SELFTEST_CTL: MBIST first; outside test custody it reports REFUSED and runs nothing. -/
def State.startSelfTest (s : State) (mbist loop : Bool) : State :=
  if !mbist && !loop then s
  else if s.self.busy then s.refuseWrite .pf0
  else if mbist && s.tap.custody then
    ({ s with self := { s.self with mbistBusy := true, loopNext := loop } } : State).addItem powerTask .selfTestMbist
  else
    let s : State := if mbist then { s with self := { s.self with mbist := 3 } } else s
    if loop then s.startLoop else s

def State.writeSelfTest (v : Word) (s : State) : State := s.startSelfTest (v.getLsbD 0) (v.getLsbD 1)

/-- A write of SVC_SELFTEST_CTL. -/
def State.selfTestWrite (s : State) (a : WrAcc) (v : Word) : State :=
  s.regWrite .pf0 0xA0100 .side (bits 63 2) 0 a v State.writeSelfTest

/-- SELFTEST_MBIST_START (16 R415). -/
def execSelftestMbistStart (a : WrAcc) (v : Word) (s : State) : Host.Outcome State Fault Refusal := .next (s.selfTestWrite a v)

/-- SELFTEST_LOOPBACK_START (16 R415). -/
def execSelftestLoopbackStart (a : WrAcc) (v : Word) (s : State) : Host.Outcome State Fault Refusal := .next (s.selfTestWrite a v)

/-- Every memory of Table 13.9 is initialised again: the tables that live in them are empty. -/
def State.clearMemories (s : State) : State :=
  { s with flows := [], devs := [], tts := [], seals := { s.seals with hs := [], counts := [], quarPend := [] },
           sched := { s.sched with ready := Vector.replicate 8 [], wheel := [], due := [], work := [], reqs := [], redo := [] },
           trace := { s.trace with buf := [] },
           peat := { s.peat with pins := [], quars := [], events := [], queue := [], waiting := [] } }

/-- SELF_TEST_MBIST (16 R415): its result; memories are initialised, and a waiting LOOPBACK begins. -/
def execSelfTestMbist (fails : BitVec 21) (s : State) : Host.Outcome State Fault Refusal :=
  .next (match s.itemCore .selfTestMbist with
    | some c =>
      let s := (s.endItem c .selfTestMbist (decide (fails ≠ 0))).clearMemories
      let s : State := { s with self := { s.self with mbistBusy := false, mbist := if fails = 0 then 1 else 2, mbistFail := fails } }
      if s.self.loopNext then s.startLoop else s
    | none => s)

/-- The port sides with a device attached. -/
def State.busySides (s : State) : BitVec 22 :=
  s.devs.foldl (fun (m : BitVec 22) d => m ||| (1#22 <<< (if d.id.ss then 16 + d.id.port.val else d.id.port.val))) 0

/-- SELF_TEST_LOOPBACK (16 R415): ports with devices are skipped; worker dispatch resumes. -/
def execSelfTestLoopback (workers : BitVec 32) (ports : BitVec 22) (seals lodes : BitVec 2) (s : State) :
    Host.Outcome State Fault Refusal :=
  .next (match s.itemCore .selfTestLoopback with
    | some c =>
      let ports := ports &&& ~~~s.busySides
      let bad : Bool := decide (workers ≠ 0) || decide (ports ≠ 0) || decide (seals ≠ 0) || decide (lodes ≠ 0)
      let s := s.endItem c .selfTestLoopback bad
      let s : State := { s with self := { s.self with loopBusy := false, loop := if bad then 2 else 1, workers := workers,
                                                      ports := ports, seals := seals, lodes := lodes } }
      if s.sched.cause = .selfTest then
        if s.faults.jobs.any (fun x => x.quiet) then { s with sched := { s.sched with cause := .recovery } }
        else { s with sched := { s.sched with data := .graph, cause := .none } }
      else s
    | none => s)

/-- SVC_SELFTEST_STATUS. -/
def SelfTest.statusView (x : SelfTest) : Word :=
  pack [(x.mbistFail.toNat, 32), (x.loop, 6), (x.mbist, 4), (b2n x.loopBusy, 1), (b2n x.mbistBusy, 0)]

/-- SVC_SELFTEST_FAIL. -/
def SelfTest.failView (x : SelfTest) : Word :=
  pack [(x.workers.toNat, 32), (x.ports.toNat, 10), (x.seals.toNat, 8), (x.lodes.toNat, 6)]

end Sys2Proof.Machine
end

