-- ==== Sys2Proof/Machine/Svc.lean ====
section
/-! DEFINITION. The service port, and the SEAL_ARITH item (16 R395 to R411; 10 R265). -/

namespace Sys2Proof.Machine

/-! ### Attaching (R395, R402) -/

def State.svcSec (s : State) : Option SvcSec := s.img.image.bind (fun i => i.svc)

/-- The conditions under which the pull-up is enabled. -/
def State.mayAttach (s : State) : Bool :=
  s.img.locked && s.svcSec.isSome && s.svc.attach && s.svc.vbus && !s.tap.custody

/-- A session ends; a change of SESSION is reported. -/
def Svc.endSession (v : Svc) : Svc := if v.session then { v with session := false, change := v.change ||| 0x20 } else v

/-- The verification of an AUTH_RESPONSE is discarded (Table 16.3). -/
def Svc.dropVerify (v : Svc) : Svc := { v with verify := none, verified := none, inXfer := false }

/-- The pull-up is removed: a disconnect. -/
def Svc.detach (v : Svc) : Svc :=
  if v.attached then
    { v.endSession.dropVerify with attached := false, highSpeed := false, suspended := false, address := 0, configured := false,
                                   remoteWake := false, driveK := none, resp := none, nonce := none, toggles := 0, halts := 0,
                                   change := v.endSession.change ||| 2 }
  else v

/-- SVC_ATTACH (R395, R396): the pull-up is enabled, and the host answers the chirp or does not. -/
def execSvcAttach (highSpeed : Bool) (s : State) : Host.Outcome State Fault Refusal :=
  .next (if s.mayAttach && !s.svc.attached then
      { s with svc := { s.svc with attached := true, highSpeed := highSpeed, attachFails := 0, change := s.svc.change ||| 2 } }
    else s)

/-- SVC_DETACH (R395). -/
def execSvcDetach (s : State) : Host.Outcome State Fault Refusal :=
  .next (if s.mayAttach then s else { s with svc := s.svc.detach })

/-- SVC_VBUS_CHANGE (R395, R409): the level and its change; a loss ends a test mode, and on a suspended port is wake source 4. -/
def execSvcVbusChange (valid : Bool) (s : State) : Host.Outcome State Fault Refusal :=
  .next (if s.svc.vbus = valid then s
    else
      let t : State := { s with svc := { s.svc with vbus := valid, change := s.svc.change ||| 1, testMode := if valid then s.svc.testMode else 0 } }
      if !valid && s.svc.suspended then t.wake 4 0 else t)

def Svc.ctlView (v : Svc) : Word := pack [(b2n v.traceOk, 1), (b2n v.attach, 0)]

/-- A write of SVC_CTL: clearing ATTACH detaches the port and ends a test mode. -/
def State.writeSvcCtl (v : Word) (s : State) : State :=
  let x : Svc := { s.svc with attach := v.getLsbD 0, traceOk := v.getLsbD 1 }
  { s with svc := if x.attach then x else { x.detach with testMode := 0 } }

def State.svcCtlWrite (s : State) (a : WrAcc) (v : Word) : State :=
  s.regWrite .pf0 0xA0000 .plain (bits 63 2) s.svc.ctlView a v State.writeSvcCtl

/-- SVC_CTL_WRITE (R395). -/
def execSvcCtlWrite (a : WrAcc) (v : Word) (s : State) : Host.Outcome State Fault Refusal := .next (s.svcCtlWrite a v)

/-! ### Bus events (R409 to R411) -/

/-- SVC_BUS_RESET (R411): an AUTH_RESPONSE that is being verified is a control transfer in progress; on a suspended port the reset is wake
source 4. -/
def execSvcBusReset (midXfer highSpeed : Bool) (s : State) : Host.Outcome State Fault Refusal :=
  .next (if s.svc.attached then
      let v := s.svc.endSession.dropVerify
      let t : State := { s with svc := { v with
        resp := none, nonce := none, toggles := 0, halts := 0, address := 0, configured := false, remoteWake := false,
        testMode := 0, suspended := false, driveK := none, highSpeed := highSpeed, resets := satAdd v.resets 1 65535,
        resetMid := if midXfer || s.svc.inXfer then satAdd v.resetMid 1 65535 else v.resetMid, change := v.change ||| 4 } }
      if s.svc.suspended then t.wake 4 0 else t
    else s)

/-- SVC_SUSPEND (R409): 3 ms without bus activity. -/
def execSvcSuspend (s : State) : Host.Outcome State Fault Refusal :=
  .next (if s.svc.attached && !s.svc.suspended then
      let v := s.svc.endSession.dropVerify
      { s with svc := { v with suspended := true, change := v.change ||| 8 } }
    else s)

/-- SVC_RESUME (R409, Table 16.3): wake source 4; a resume that meets the port's own K sets WAKE_COLLIDED. -/
def execSvcResume (s : State) : Host.Outcome State Fault Refusal :=
  .next (if s.svc.suspended then
      let met := match s.svc.driveK with | some t => decide (s.time.now < t) | none => false
      ({ s with svc := { s.svc with suspended := false, driveK := none, wakeCollided := s.svc.wakeCollided || met,
                                    change := s.svc.change ||| 0x10 } } : State).wake 4 0
    else s)

/-- SVC_REMOTE_WAKE (R409): a notification is due on a port that has been suspended for 5 ms, for which the command stands; K is driven
for 2 ms. -/
def execSvcRemoteWake (s : State) : Host.Outcome State Fault Refusal :=
  .next (if s.svc.suspended && s.svc.remoteWake && s.svc.ep1 ≠ 0 && s.svc.driveK.isNone then
      ({ s with svc := { s.svc with driveK := some (s.time.now + 2000000) } } : State).emitOut .svcWake
    else s)

/-! ### Requests -/

/-- The port answers requests now. -/
def State.svcOn (s : State) : Bool := s.svc.attached && !s.svc.suspended && s.svc.testMode = 0 && !s.restarting .svc

def reqType (x : Setup) : Nat := field x 0 8
def reqCode (x : Setup) : Nat := field x 8 8
def reqValue (x : Setup) : Nat := field x 16 16
def reqIndex (x : Setup) : Nat := field x 32 16
def reqLength (x : Setup) : Nat := field x 48 16

/-- The data stage, or the status stage of a request without one. -/
def State.svcReply (s : State) (l : List Byte) : State := s.emitOut (.svc l)

/-- A protocol stall. -/
def State.svcStall (s : State) : State := s.emitOut .svcStall

/-- Serve a vendor request of a code (R398): any new SETUP ends the control transfer before it; a request that differs from the table,
or lacks its session, is stalled. -/
def State.vendor (s : State) (x : Setup) (code type : Nat) (ok session : Bool) (act : State → State) : State :=
  if !s.svcOn || reqType x / 32 % 4 = 0 || reqCode x ≠ code then s
  else
    let s : State := { s with svc := s.svc.dropVerify }
    if reqType x = type && reqIndex x = 0 && ok && (!session || s.svc.session) then act s else s.svcStall

/-- The Device Serial Number, big-endian. -/
def serialBytes : List Byte := (wordBytes serialNumber).reverse

/-- The identity blob (R399). -/
def identityBlob : List Byte :=
  serialBytes ++ unitPublicKey ++ natBytes 2 unitCertificate.length ++ natBytes 2 unitChain.length ++
  [0, 0, 0, 0] ++ unitCertificate ++ unitChain

/-- GET_IDENTITY (R399). -/
def execGetIdentity (x : Setup) (s : State) : Host.Outcome State Fault Refusal :=
  .next (s.vendor x 1 0xC0 (reqValue x ≤ 129 && 1 ≤ reqLength x && reqLength x ≤ 4096) false (fun s =>
    s.svcReply ((identityBlob.drop (64 * reqValue x)).take (reqLength x))))

/-- SEAL_ARITH's operand numbers for the service port. -/
def svcAttestArg : Nat := 2000000
def svcAuthArg : Nat := 2000001

/-- GET_ATTESTATION (R400): a SEAL_ARITH item signs the statement. -/
def execGetAttestation (x : Setup) (nonce : BitVec 256) (s : State) : Host.Outcome State Fault Refusal :=
  .next (s.vendor x 2 0x40 (reqValue x = 0 && reqLength x = 32) false (fun s =>
    if s.fuses.revoked then s.svcStall
    else (({ s with svc := { s.svc with nonce := some nonce, resp := none } } : State).svcReply []).wantItem sealTask .sealArith svcAttestArg))

/-- PWR_RES_TIME[n]: us spent in a power state, the present stay included (13 R346). -/
def State.resTimeView (s : State) (n : Fin 4) : Word :=
  BitVec.ofNat 64 ((vget s.power.resNs n + (if s.power.lp.idx = n then s.power.clock - s.power.since else 0)) / 1000)

/-- GET_RESIDENCY (R398). -/
def execGetResidency (x : Setup) (s : State) : Host.Outcome State Fault Refusal :=
  .next (s.vendor x 3 0xC0 (reqValue x = 0 && reqLength x = 72) false (fun s =>
    s.svcReply (((allFin 4).map s.resTimeView ++ s.power.resEntries.toList ++ [s.pwrStatusView]).flatMap wordBytes)))

/-! ### Authentication (R401, R402) -/

/-- AUTH_CHALLENGE (R401): stalled during the lockout. -/
def execAuthChallenge (x : Setup) (s : State) : Host.Outcome State Fault Refusal :=
  .next (s.vendor x 0x10 0xC0 (reqValue x = 0 && reqLength x = 40) false (fun s =>
    if s.svc.lockout.isSome then s.svcStall
    else
      let (c, s) := s.drawRandom
      ({ s with svc := { s.svc.endSession with challenge := some c } } : State).svcReply (digestBytes c ++ serialBytes)))

/-- A failed AUTH_RESPONSE: the third within one attach begins the lockout of 60 s. -/
def State.authFailed (s : State) : State :=
  let v := s.svc
  let n := v.attachFails + 1
  ({ s with svc := { v with authFail := satAdd v.authFail 1 65535, change := v.change ||| 0x40, attachFails := n,
                            lockout := if n = 3 then some (s.time.now + 60000000000) else v.lockout } } : State).svcStall

/-- AUTH_RESPONSE (R401): the status stage is NAKed until a SEAL_ARITH item has verified the signature; without a challenge it fails. -/
def execAuthResponse (x : Setup) (sig : List Byte) (s : State) : Host.Outcome State Fault Refusal :=
  .next (s.vendor x 0x11 0x40 (reqValue x = 0 && reqLength x = 64) false (fun s =>
    match s.svc.challenge with
    | some c => ({ s with svc := { s.svc with challenge := none, verify := some (c, sig), inXfer := true } } : State).wantItem
        sealTask .sealArith svcAuthArg
    | none => s.authFailed))

/-- What a service key signs. -/
def authDigest (c : BitVec 256) : BitVec 256 :=
  Config.sha256 ([0x70, 0x78, 0x73, 0x76, 0x63, 0x31] ++ digestBytes c ++ serialBytes)

/-- AUTH_VERIFY_DONE (R401): the status stage completes and a session opens, or it is stalled. -/
def execAuthVerifyDone (s : State) : Host.Outcome State Fault Refusal :=
  .next (match s.svc.verified with
    | some ok =>
      let s : State := { s with svc := s.svc.dropVerify }
      if ok then ({ s with svc := { s.svc with session := true, change := s.svc.change ||| 0x20 } } : State).svcReply []
      else s.authFailed
    | none => s)

/-- AUTH_LOCKOUT_END (R402). -/
def execAuthLockoutEnd (s : State) : Host.Outcome State Fault Refusal :=
  .next (match s.svc.lockout with
    | some t => if t ≤ s.time.now then { s with svc := { s.svc with lockout := none, attachFails := 0 } } else s
    | none => s)

/-! ### Responses on EP2 IN (R403 to R405) -/

/-- Maximum packet size of the bulk endpoints. -/
def Svc.bulkMax (v : Svc) : Nat := if v.highSpeed then 512 else 64

/-- Packets of a response: full ones, then a short or a zero-length one. -/
def svcPackets (n : Nat) : Nat → List Byte → List (List Byte)
  | 0, _ => [[]]
  | k + 1, l => if l.length < n then [l] else l.take n :: svcPackets n k (l.drop n)

/-- A response is ready, in place of any other: EP1 RESPONSE_READY (R403, R406). -/
def State.svcReady (s : State) (req : Nat) (l : List (List Byte × Option Nat)) : State :=
  { s with svc := { s.svc with resp := some { req := req, packets := l }, nonce := none, ep1 := s.svc.ep1 ||| 1, ep1Req := req } }

/-- A response that moves no cursor. -/
def State.svcData (s : State) (req : Nat) (l : List Byte) : State :=
  s.svcReady req ((svcPackets s.svc.bulkMax (l.length + 1) l).map (fun p => (p, none)))

/-- Packets of event records: whole records, with the cursor after them. -/
def logPackets (n : Nat) : Nat → List LogEv → List (List Byte × Option Nat)
  | 0, _ => [([], none)]
  | k + 1, l =>
    let now := l.take n
    let p := (now.flatMap (fun e => (LogEv.words e).flatMap wordBytes), now.getLast?.map (fun e => e.index + 1))
    if l.length < n then [p] else p :: logPackets n k (l.drop n)

/-- GET_LOG (R404). -/
def execGetLog (x : Setup) (s : State) : Host.Outcome State Fault Refusal :=
  .next (s.vendor x 0x20 0x40 (1 ≤ reqValue x && reqValue x ≤ 256 && reqLength x = 0) true (fun s =>
    if s.peat.state = .absent then s.svcStall
    else
      let l := (s.retained.filter (fun e => Nat.max s.svc.cursor s.peat.logFirst ≤ e.index)).take (reqValue x)
      (s.svcReply []).svcReady 0x20 (logPackets (s.svc.bulkMax / 64) (l.length + 1) l)))

/-- GET_TRACE (R405): nothing is removed. -/
def execGetTrace (x : Setup) (s : State) : Host.Outcome State Fault Refusal :=
  .next (s.vendor x 0x21 0x40 (1 ≤ reqValue x && reqValue x ≤ 4096 && reqLength x = 0) true (fun s =>
    if s.svc.traceOk then (s.svcReply []).svcData 0x21 ((s.trace.buf.take (reqValue x)).flatMap (fun r => natBytes 16 r.toNat))
    else s.svcStall))

/-- SET_LOG_CURSOR (R404). -/
def execSetLogCursor (x : Setup) (index : Word) (s : State) : Host.Outcome State Fault Refusal :=
  .next (s.vendor x 0x22 0x40 (reqValue x = 0 && reqLength x = 8) true (fun s =>
    if s.peat.state = .absent then s.svcStall
    else ({ s with svc := { s.svc with cursor := index.toNat } } : State).svcReply []))

/-- SVC_EP2_IN_ACK (R403, R404): a packet is sent and ACKed; the cursor moves past its records. -/
def execSvcEp2InAck (s : State) : Host.Outcome State Fault Refusal :=
  .next (match s.svc.resp with
    | some r => match r.packets with
      | p :: l =>
        if s.svcOn && s.svc.configured && !(s.svc.halts.getLsbD 1) then
          ({ s with svc := { s.svc with resp := if l.isEmpty then none else some { r with packets := l },
                                        cursor := p.2.getD s.svc.cursor, toggles := s.svc.toggles ^^^ 2 } } : State).svcReply p.1
        else s
      | [] => s
    | none => s)

/-- SVC_EP1_ACK (R406): the notification is sent and ACKed; its bits clear. -/
def execSvcEp1Ack (s : State) : Host.Outcome State Fault Refusal :=
  .next (if s.svcOn && s.svc.configured && s.svc.ep1 ≠ 0 && !(s.svc.halts.getLsbD 0) then
      let l := [s.svc.ep1.setWidth 8, BitVec.ofNat 8 s.svc.ep1Req, 0, 0, 0, 0, 0, 0] ++ natBytes 8 s.peat.logNext
      ({ s with svc := { s.svc with ep1 := 0, ep1Req := 0, toggles := s.svc.toggles ^^^ 1 } } : State).svcReply l
    else s)

/-- SVC_EP2_OUT_DATA (R397): accepted with ACK and discarded; a halted endpoint stalls. -/
def execSvcEp2OutData (_data : List Byte) (s : State) : Host.Outcome State Fault Refusal :=
  .next (if s.svcOn && s.svc.configured then
      if s.svc.halts.getLsbD 2 then s.svcStall else { s with svc := { s.svc with toggles := s.svc.toggles ^^^ 4 } }
    else s)

/-! ### Descriptors (Table 16.1) -/

def word16 (v : BitVec 16) : List Byte := natBytes 2 v.toNat

def deviceDesc (x : SvcSec) : List Byte :=
  [18, 1, 0, 2, 0, 0, 0, 64] ++ word16 x.vid ++ word16 x.pid ++ word16 x.bcd ++
  [if x.manufacturer.isEmpty then 0 else 1, if x.product.isEmpty then 0 else 2, 3, 1]

def qualifierDesc : List Byte := [10, 6, 0, 2, 0, 0, 0, 64, 1, 0]

/-- Configuration 1 at a speed, as a CONFIGURATION (2) or OTHER_SPEED_CONFIGURATION (7) descriptor. -/
def configDesc (type : Byte) (high : Bool) : List Byte :=
  let mps : List Byte := if high then [0, 2] else [64, 0]
  [9, type, 39, 0, 1, 1, 0, 0xE0, 0, 9, 4, 0, 0, 3, 0xFF, 0, 0, 0, 7, 5, 0x81, 3, 16, 0, if high then 4 else 1] ++
  [7, 5, 0x82, 2] ++ mps ++ [Config.svcBulkInterval, 7, 5, 0x02, 2] ++ mps ++ [Config.svcBulkInterval]

/-- A hexadecimal digit as UTF-16LE. -/
def hexDigit (n : Nat) : List Byte :=
  [BitVec.ofNat 8 (if n < 10 then 48 + n else (if Config.svcUpperHex then 55 else 87) + n), 0]

/-- The serial string: the SVC section's, or the 16 digits of the Device Serial Number (03 Table 3.17). -/
def serialString (x : SvcSec) : List Byte :=
  if x.serial.isEmpty then serialBytes.flatMap (fun b => hexDigit (b.toNat / 16) ++ hexDigit (b.toNat % 16)) else x.serial

def stringDesc (l : List Byte) : List Byte := BitVec.ofNat 8 (2 + l.length) :: 3 :: l

/-- The descriptor that a GET_DESCRIPTOR names. -/
def State.svcDescriptor (s : State) (type idx : Nat) : Option (List Byte) :=
  match s.svcSec with
  | none => none
  | some x =>
    match type, idx with
    | 1, 0 => some (deviceDesc x)
    | 2, 0 => some (configDesc 2 s.svc.highSpeed)
    | 6, 0 => some qualifierDesc
    | 7, 0 => some (configDesc 7 (!s.svc.highSpeed))
    | 3, 0 => some (stringDesc (word16 Config.svcLanguage))
    | 3, 1 => if x.manufacturer.isEmpty then none else some (stringDesc x.manufacturer)
    | 3, 2 => if x.product.isEmpty then none else some (stringDesc x.product)
    | 3, 3 => some (stringDesc (serialString x))
    | _, _ => none

/-! ### Standard requests (R396, R407; USB 2.0 chapter 9) -/

/-- The bit of an endpoint other than EP0. -/
def svcEp (idx : Nat) : Option (BitVec 3) :=
  if idx = 0x81 then some 1 else if idx = 0x82 then some 2 else if idx = 0x02 then some 4 else none

/-- GET_STATUS: of the device, of interface 0, of an endpoint. -/
def Svc.getStatus (v : Svc) (type idx : Nat) : Option (List Byte) :=
  match type with
  | 0x80 => if idx = 0 then some [BitVec.ofNat 8 (1 + 2 * b2n v.remoteWake), 0] else none
  | 0x81 => if v.configured && idx = 0 then some [0, 0] else none
  | 0x82 =>
    if idx = 0 || idx = 0x80 then some [0, 0]
    else if v.configured then (svcEp idx).map (fun m => [BitVec.ofNat 8 (b2n (v.halts &&& m ≠ 0)), 0]) else none
  | _ => none

/-- CLEAR_FEATURE and SET_FEATURE: remote wakeup, endpoint halt (never of EP0), test mode. -/
def Svc.feature (v : Svc) (on : Bool) (type feat idx : Nat) : Option Svc :=
  if type = 0 && feat = 1 && idx = 0 && v.address ≠ 0 then some { v with remoteWake := on }
  else if type = 0 && feat = 2 && on && idx % 256 = 0 && 1 ≤ idx / 256 && idx / 256 ≤ 5 then some { v with testMode := idx / 256 }
  else if type = 2 && feat = 0 && v.configured then
    (svcEp idx).map (fun m => if on then { v with halts := v.halts ||| m }
                              else { v with halts := v.halts &&& ~~~m, toggles := v.toggles &&& ~~~m })
  else none

/-- SET_CONFIGURATION: toggles return to DATA0, halts clear; 0 ends any session (R402, R407). -/
def Svc.setConfig (v : Svc) (n : Nat) : Svc :=
  let v := if n = 0 then v.endSession else v
  { v with configured := decide (n = 1), toggles := 0, halts := 0 }

/-- Answer a request that may not be defined. -/
def State.answerSvc (s : State) (r : Option (List Byte)) (n : Nat) : State :=
  match r with
  | some l => s.svcReply (l.take n)
  | none => s.svcStall

/-- Carry out a request without data that may not be defined. -/
def State.changeSvc (s : State) (r : Option Svc) : State :=
  match r with
  | some v => ({ s with svc := v } : State).svcReply []
  | none => s.svcStall

/-- A standard request. -/
def State.svcStandard (s : State) (x : Setup) : State :=
  let v := s.svc
  let ty := reqType x
  let val := reqValue x
  let idx := reqIndex x
  let len := reqLength x
  let addressed : Bool := v.address ≠ 0
  match reqCode x with
  | 0 => s.answerSvc (if addressed && val = 0 && len = 2 then v.getStatus ty idx else none) len
  | 1 => s.changeSvc (if addressed && len = 0 then v.feature false ty val idx else none)
  | 3 => s.changeSvc (if len = 0 && (addressed || val = 2) then v.feature true ty val idx else none)
  | 5 => s.changeSvc (if ty = 0 && val < 128 && idx = 0 && len = 0 && !v.configured then some { v with address := BitVec.ofNat 7 val } else none)
  | 6 => s.answerSvc (if ty = 0x80 && (idx = 0 || val / 256 = 3) then s.svcDescriptor (val / 256) (val % 256) else none) len
  | 8 => s.answerSvc (if addressed && ty = 0x80 && val = 0 && idx = 0 && len = 1 then some [BitVec.ofNat 8 (b2n v.configured)] else none) len
  | 9 => s.changeSvc (if addressed && ty = 0 && val ≤ 1 && idx = 0 && len = 0 then some (v.setConfig val) else none)
  | 10 => s.answerSvc (if v.configured && ty = 0x81 && val = 0 && idx = 0 && len = 1 then some [0] else none) len
  | 11 => s.changeSvc (if v.configured && ty = 1 && val = 0 && idx = 0 && len = 0 then some { v with toggles := 0, halts := 0 } else none)
  | _ => s.svcStall

/-- A vendor request of Table 16.2: it has a row of its own. -/
def vendorCode (n : Nat) : Bool := n = 1 || n = 2 || n = 3 || n = 0x10 || n = 0x11 || n = 0x20 || n = 0x21 || n = 0x22

/-- SVC_STANDARD_REQUEST (R396, R398): requests that neither chapter 9 nor Table 16.2 has are stalled. -/
def execSvcStandardRequest (x : Setup) (s : State) : Host.Outcome State Fault Refusal :=
  .next (if !s.svcOn then s
    else
      let t : State := { s with svc := s.svc.dropVerify }
      if reqType x / 32 % 4 = 0 then t.svcStandard x
      else if vendorCode (reqCode x) then s
      else t.svcStall)

/-! ### SEAL_ARITH (10 R265, R267, R287; R400, R401) -/

/-- The service port's statement, signed (R400). -/
def State.arithSvcAttest (s : State) : State :=
  match s.svc.nonce with
  | some n =>
    let pipes := (s.flows.filter (fun f => f.key.isSome)).length
    let body := s.statementOf 0x53 0 (digestBytes n) (List.replicate 32 0)
      (Nat.min pipes 2047 + 32768 * b2n (!s.peat.quars.isEmpty))
    ({ s with svc := { s.svc with nonce := none } } : State).svcData 2 (body ++ unitSign (Config.sha256 body))
  | none => s

/-- An AUTH_RESPONSE's signature is verified against SVC.SERVICE_KEY. -/
def State.arithSvcAuth (s : State) : State :=
  match s.svc.verify, s.svcSec with
  | some (c, sig), some x =>
    { s with svc := { s.svc with verify := none, verified := some (ecdsaVerify x.key (authDigest c) sig) } }
  | _, _ => s

/-- The operand number of a SEAL_ARITH. -/
def ArithFor.arg : ArithFor → Nat
  | .handshake t h => arithArg t h
  | .attest t k => attestArg t k
  | .svcAttest => svcAttestArg
  | .svcAuth => svcAuthArg

/-- SEAL_ARITH (10 R267). -/
def execSealArith (a : ArithFor) (s : State) : Host.Outcome State Fault Refusal :=
  .next (match s.itemCore .sealArith a.arg with
    | some c =>
      let s := s.endItem c .sealArith false
      match a with
      | .handshake t h => s.arithHandshake t h
      | .attest t k => s.arithAttest t k
      | .svcAttest => s.arithSvcAttest
      | .svcAuth => s.arithSvcAuth
    | none => s)

/-! ### Registers -/

/-- SVC_STATUS. -/
def State.svcStatusView (s : State) : Word :=
  let v := s.svc
  pack [(v.address.toNat, 16), (b2n v.wakeCollided, 9), (b2n v.session, 8), (b2n (v.testMode ≠ 0), 7), (b2n v.remoteWake, 6),
        (b2n v.suspended, 5), (b2n v.configured, 4), (b2n v.highSpeed, 3), (b2n v.attached, 2), (b2n v.vbus, 1), (b2n s.svcSec.isSome, 0)]

/-- SVC_COUNT. -/
def Svc.countView (v : Svc) : Word := pack [(v.resets, 48), (v.resetMid, 32), (v.authFail, 16), (v.lostResp, 0)]

end Sys2Proof.Machine
end

