-- ==== Sys2Proof/Machine/Tap.lean ====
section
/-! DEFINITION. The TAP and test custody (16 R412 to R414; 01 R14). -/

namespace Sys2Proof.Machine

/-- The instructions of Table 16.4. -/
inductive TapInstr where
  | extest | idcode | samplePreload | clamp | highz | extestPulse | extestTrain | bypass
  deriving DecidableEq, Repr

/-- Opcode. -/
def TapInstr.code : TapInstr → BitVec 5
  | .extest => 0 | .idcode => 1 | .samplePreload => 2 | .clamp => 4 | .highz => 5 | .extestPulse => 6 | .extestTrain => 7 | .bypass => 31

/-- The instruction controls the pins, and enters test custody. -/
def TapInstr.takes : TapInstr → Bool
  | .idcode | .samplePreload | .bypass => false
  | _ => true

/-- What IDCODE reads (R413). -/
def tapIdcode : BitVec 32 := 0x102560E7

/-- A tenant that custody fences: not VACANT, and neither draining nor in its reset already. -/
def Tenant.custodyFences (x : Tenant) : Bool :=
  match x.st with
  | .standby | .active | .quiescing | .quiesced => true
  | _ => false

/-- The service port lets go of its pull-up. -/
def State.svcGone (s : State) : State := { s with svc := s.svc.detach }

/-- Test custody begins (R414, Table 16.5), unless it has. -/
def State.enterCustody (s : State) : State :=
  if s.tap.custody then s
  else
    let s := (s.wake 11 0).tamperZero
    let s := (allFin 256).foldl (fun (a : State) t =>
      if (a.tenant t).custodyFences then (a.countFlr t).fence t else a) s
    ((s.peatLost .absent .custody).custodyMode).svcGone

/-- Update-IR: the pins go to the boundary register or back to system logic; the PCIe link is down while they are away, and retrains. -/
def State.tapLoad (s : State) (i : TapInstr) : State :=
  { s with tap := { s.tap with ir := i.code, pinsTaken := i.takes, hiZ := decide (i = .highz) },
           link := if i.takes then .down else s.link }

/-- The bits of a register, the least significant first, as a scan shifts them out. -/
def scanOut {w : Nat} (v : BitVec w) : List Bool := (List.range w).map v.getLsbD

/-- An instruction is scanned in, while the captured 0b00001 leaves on TDO; none while POR_N holds the TAP in Test-Logic-Reset. -/
def State.tapInstr (s : State) (i : TapInstr) : State :=
  if !s.pins.porN then s
  else
    let s := (s.emitOut (.tdo (scanOut (1 : BitVec 5)))).tapLoad i
    if i.takes then s.enterCustody else s

/-- EXTEST (R412). -/
def execExtest (s : State) : Host.Outcome State Fault Refusal := .next (s.tapInstr .extest)

/-- IDCODE (R413): the Device ID leaves on TDO. -/
def execIdcode (s : State) : Host.Outcome State Fault Refusal :=
  .next (if s.pins.porN then (s.tapInstr .idcode).emitOut (.tdo (scanOut tapIdcode)) else s)

/-- The 412 boundary cells that a scan leaves. -/
def boundaryCells (l : List Bool) : List Bool := (l ++ List.replicate 412 false).take 412

/-- What the boundary register captures of the pins: free bits, for the order of its cells is not given (notes/assumptions/123.md). -/
def State.captured (s : State) : List Bool := (List.range 412).map (fun i => Config.freeBool (s.free + i))

/-- SAMPLE/PRELOAD (R412): the boundary register captures the pins, which leaves on TDO, and is loaded; the pins stay with the system. -/
def execSamplePreload (preload : List Bool) (s : State) : Host.Outcome State Fault Refusal :=
  .next (if s.pins.porN then
      let t := (s.tapInstr .samplePreload).emitOut (.tdo s.captured)
      { t with tap := { t.tap with boundary := boundaryCells preload }, free := s.free + 412 }
    else s)

/-- CLAMP (R412). -/
def execClamp (s : State) : Host.Outcome State Fault Refusal := .next (s.tapInstr .clamp)

/-- HIGHZ (R412). -/
def execHighz (s : State) : Host.Outcome State Fault Refusal := .next (s.tapInstr .highz)

/-- EXTEST_PULSE (R412). -/
def execExtestPulse (s : State) : Host.Outcome State Fault Refusal := .next (s.tapInstr .extestPulse)

/-- EXTEST_TRAIN (R412). -/
def execExtestTrain (s : State) : Host.Outcome State Fault Refusal := .next (s.tapInstr .extestTrain)

/-- BYPASS (R412), and every opcode that the table does not have. -/
def execBypass (s : State) : Host.Outcome State Fault Refusal := .next (s.tapInstr .bypass)

/-- TAP_RESET (R412): TRST_N low, or POR_N low, forces Test-Logic-Reset, which selects IDCODE; custody stays until POR_N. -/
def execTapReset (_porLow : Bool) (s : State) : Host.Outcome State Fault Refusal := .next (s.tapLoad .idcode)

end Sys2Proof.Machine
end

