-- ==== Sys2Proof/Machine/Reads.lean ====
section
/-! DEFINITION. The registers whose read clears a field (00 R4, R5): what each holds, and which of its RC bits lie in which
half. A field that spans both halves clears only the bits that were read (notes/assumptions/22.md). -/

namespace Sys2Proof.Machine

/-! ### Frames and admission (07) -/

/-- SCH_MF_STATUS: SLEWS clears. -/
def State.mfStatusReg (s : State) : Reg :=
  let x := s.frames
  { rsv := [(63, 48), (7, 2)], val := pack [(x.slews, 32), (twos 24 x.phase, 8), (x.lock.code, 0)],
    hi := fun s => { s with frames := { s.frames with slews := 0 } } }

/-- SCH_MF_STATUS_READ (R4). -/
def execSchMfStatusRead (r : RdHalf) (s : State) : Host.Outcome State Fault Refusal := .next (s.readReg .pf0 0x20F08 r s.mfStatusReg)

/-- SCH_ADMIT_FAILS: COUNT clears. -/
def State.admitReg (s : State) : Reg :=
  let x := s.frames
  { rsv := [(63, 44), (39, 35)], val := pack [(x.lastPort.val, 40), (x.lastReason, 32), (x.admitFails, 0)],
    lo := fun s => { s with frames := { s.frames with admitFails := 0 } } }

/-- SCH_ADMIT_FAILS_READ (R4). -/
def execSchAdmitFailsRead (r : RdHalf) (s : State) : Host.Outcome State Fault Refusal := .next (s.readReg .pf0 0x20F20 r s.admitReg)

/-! ### Scheduler and trace (08) -/

/-- SCH_REDISPATCH: COUNT clears. -/
def State.redispatchReg (s : State) : Reg :=
  { rsv := [(63, 32)], val := BitVec.ofNat 64 s.sched.redispatch, lo := fun s => { s with sched := { s.sched with redispatch := 0 } } }

/-- SCH_REDISPATCH_READ (R4). -/
def execSchRedispatchRead (r : RdHalf) (s : State) : Host.Outcome State Fault Refusal := .next (s.readReg .pf0 0x20018 r s.redispatchReg)

/-- SCH_WHEEL: CARRIED clears. -/
def State.wheelReg (s : State) : Reg :=
  { rsv := [(63, 48)], val := pack [(Nat.min s.overflow 65535, 32), (s.sched.carried, 0)],
    lo := fun s => { s with sched := { s.sched with carried := 0 } } }

/-- SCH_WHEEL_READ (R4). -/
def execSchWheelRead (r : RdHalf) (s : State) : Host.Outcome State Fault Refusal := .next (s.readReg .pf0 0x20380 r s.wheelReg)

/-- TRC_STATUS: LOST clears. -/
def State.traceStatusReg (s : State) : Reg :=
  let x := s.trace
  { rsv := [(30, 13)], val := pack [(x.lost, 32), (b2n x.spilling, 31), (x.buf.length, 0)],
    hi := fun s => { s with trace := { s.trace with lost := 0 } } }

/-- TRC_STATUS_READ (R4). -/
def execTrcStatusRead (r : RdHalf) (s : State) : Host.Outcome State Fault Refusal := .next (s.readReg .pf0 0x21028 r s.traceStatusReg)

/-! ### Sluices and energy (09) -/

/-- SLC_COUNT[p]: MISSED and the low byte of TOO_LONG clear with the low half, the rest with the high half. -/
def State.countReg (s : State) (p : PortId) : Reg :=
  let q := vget s.sluice.ports p
  { val := pack [(q.overruns, 48), (q.tooLong, 24), (q.missed, 0)],
    lo := fun s => s.modSluice p (fun q => { q with missed := 0, tooLong := q.tooLong / 256 * 256 }),
    hi := fun s => s.modSluice p (fun q => { q with overruns := 0, tooLong := q.tooLong % 256 }) }

/-- SLC_COUNT_READ (R4). -/
def execSlcCountRead (p : PortId) (r : RdHalf) (s : State) : Host.Outcome State Fault Refusal :=
  .next (s.readReg .pf0 (0x30300 + 8 * p.val) r (s.countReg p))

/-- NRG_STATUS: the low sixteen bits of FORGIVEN clear with the low half, its others and MISSED with the high half. -/
def State.energyStatusReg (s : State) : Reg :=
  let e := s.energy
  { rsv := [(15, 3)],
    val := pack [(e.missed, 40), (e.forgiven, 16), (b2n e.enabled, 2), (b2n e.defWait, 1), (b2n e.stdWait, 0)],
    lo := fun s => { s with energy := { s.energy with forgiven := s.energy.forgiven / 65536 * 65536 } },
    hi := fun s => { s with energy := { s.energy with forgiven := s.energy.forgiven % 65536, missed := 0 } } }

/-- NRG_STATUS_READ (R4). -/
def execNrgStatusRead (r : RdHalf) (s : State) : Host.Outcome State Fault Refusal := .next (s.readReg .pf0 0x320C8 r s.energyStatusReg)

/-! ### Tirael (10) -/

/-- SEAL_FAILS: each half holds a count of its own. -/
def State.sealFailsReg (s : State) : Reg :=
  { val := pack [(s.seals.unitFails, 32), (s.seals.hsFails, 0)], lo := fun s => { s with seals := { s.seals with hsFails := 0 } },
    hi := fun s => { s with seals := { s.seals with unitFails := 0 } } }

/-- SEAL_FAILS_READ (R4). -/
def execSealFailsRead (r : RdHalf) (s : State) : Host.Outcome State Fault Refusal := .next (s.readReg .pf0 0x90008 r s.sealFailsReg)

/-! ### Tenants (11) -/

/-- TEN_STATE[t]: FLRS clears. -/
def State.tenStateReg (s : State) (t : TenantId) : Reg :=
  { rsv := [(55, 48), (31, 12), (7, 3)], val := s.tenStateView t, hi := fun s => s.modTenant t (fun x => { x with flrs := 0 }) }

/-- TEN_STATE_READ (R4). -/
def execTenStateRead (t : TenantId) (r : RdHalf) (s : State) : Host.Outcome State Fault Refusal :=
  .next (s.readReg .pf0 (0x10000 + 256 * t.val) r (s.tenStateReg t))

/-! ### Power (13) -/

/-- PWR_OPP_STATUS: W1C of FAULT. -/
def State.writeOppStatus (v : Word) (s : State) : State :=
  { s with power := { s.power with oppFault := s.power.oppFault && !v.getLsbD 4 } }

/-- PWR_OPP_STATUS: FAULTS clears. -/
def State.oppStatusReg (s : State) : Reg :=
  { kind := .side, rsv := [(63, 48), (31, 19), (15, 11), (7, 6)], val := s.oppStatusView, eff := State.writeOppStatus,
    hi := fun s => { s with power := { s.power with oppFaults := 0 } } }

/-- PWR_OPP_STATUS_READ (R4). -/
def execPwrOppStatusRead (r : RdHalf) (s : State) : Host.Outcome State Fault Refusal := .next (s.readReg .pf0 0x50028 r s.oppStatusReg)

/-- PWR_RET_STATUS: W1C of LOST. -/
def State.writeRetStatus (v : Word) (s : State) : State :=
  { s with power := { s.power with lost := s.power.lost &&& ~~~(v.extractLsb' 0 20) } }

/-- PWR_RET_STATUS: CORRECTED clears. -/
def State.retStatusReg (s : State) : Reg :=
  { kind := .side, rsv := [(63, 56), (31, 20)], val := pack [(s.power.corrected, 32), (s.power.lost.toNat, 0)],
    eff := State.writeRetStatus, hi := fun s => { s with power := { s.power with corrected := 0 } } }

/-- PWR_RET_STATUS_READ (R4). -/
def execPwrRetStatusRead (r : RdHalf) (s : State) : Host.Outcome State Fault Refusal := .next (s.readReg .pf0 0x50040 r s.retStatusReg)

/-! ### Peat (14) -/

/-- PEAT_STATS: DROPPED and TORN clear. -/
def State.peatStatsReg (s : State) : Reg :=
  { val := s.peat.statsView, hi := fun s => { s with peat := { s.peat with dropped := 0, torn := 0 } } }

/-- PEAT_STATS_READ (R4). -/
def execPeatStatsRead (r : RdHalf) (s : State) : Host.Outcome State Fault Refusal := .next (s.readReg .pf0 0x70040 r s.peatStatsReg)

/-! ### Faults (15) -/

/-- FLT_STATUS: DROPPED clears. -/
def State.fltStatusReg (s : State) : Reg :=
  { rsv := [(63, 40), (31, 12), (7, 7)], val := s.fltStatusView, hi := fun s => { s with faults := { s.faults with dropped := 0 } } }

/-- FLT_STATUS_READ (R4). -/
def execFltStatusRead (r : RdHalf) (s : State) : Host.Outcome State Fault Refusal := .next (s.readReg .pf0 0x80000 r s.fltStatusReg)

/-- FLT_CLASS_COUNT[n]: COUNT clears. -/
def State.classCountReg (s : State) (n : Fin 9) : Reg :=
  { rsv := [(63, 32)], val := BitVec.ofNat 64 (vget s.faults.counts n),
    lo := fun s => { s with faults := { s.faults with counts := vset s.faults.counts n 0 } } }

/-- FLT_CLASS_COUNT_READ (R4). -/
def execFltClassCountRead (n : Fin 9) (r : RdHalf) (s : State) : Host.Outcome State Fault Refusal :=
  .next (s.readReg .pf0 (0x80040 + 8 * n.val) r (s.classCountReg n))

/-- FLT_ECC[n]: the low 32 bits of CORRECTED clear with the low half, its others and UNCORRECTABLE with the high half. -/
def State.eccReg (s : State) (n : Fin 21) : Reg :=
  { val := pack [(vget s.faults.uncorrectable n, 48), (vget s.faults.corrected n, 0)],
    lo := fun s => { s with faults := { s.faults with corrected := vmod s.faults.corrected n (fun y => y / 2 ^ 32 * 2 ^ 32) } },
    hi := fun s => { s with faults := { s.faults with corrected := vmod s.faults.corrected n (fun y => y % 2 ^ 32),
                                                      uncorrectable := vset s.faults.uncorrectable n 0 } } }

/-- FLT_ECC_READ (R4). -/
def execFltEccRead (n : Fin 21) (r : RdHalf) (s : State) : Host.Outcome State Fault Refusal :=
  .next (s.readReg .pf0 (0x80100 + 8 * n.val) r (s.eccReg n))

/-! ### The service port (16) -/

/-- SVC_COUNT: its counts clear. -/
def State.svcCountReg (s : State) : Reg :=
  { val := s.svc.countView, lo := fun s => { s with svc := { s.svc with authFail := 0, lostResp := 0 } },
    hi := fun s => { s with svc := { s.svc with resets := 0, resetMid := 0 } } }

/-- SVC_COUNT_READ (R4). -/
def execSvcCountRead (r : RdHalf) (s : State) : Host.Outcome State Fault Refusal := .next (s.readReg .pf0 0xA0018 r s.svcCountReg)

/-! ### Keeper time (04) -/

/-- GBL_TIME_STATUS: STEPS and PTM_FAILS clear. -/
def State.timeStatusReg (s : State) : Reg :=
  { rsv := [(63, 24), (7, 6), (3, 2)], val := s.time.statusView,
    lo := fun s => { s with time := { s.time with ptmFails := 0, steps := 0 } } }

/-- GBL_TIME_STATUS_READ (R4). -/
def execGblTimeStatusRead (r : RdHalf) (s : State) : Host.Outcome State Fault Refusal := .next (s.readReg .pf0 0x110 r s.timeStatusReg)

end Sys2Proof.Machine
end

