-- ==== Sys2Proof/Machine/RegMap.lean ====
section
/-! DEFINITION. The register maps of PF0 BAR0 and of a VF's BAR0 (04 Tables 4.7 and 4.8; the register tables of every
chapter), and the writes that go through them. -/

namespace Sys2Proof.Machine

/-- A register of RO fields only. -/
def ro (rsv : List (Nat × Nat)) (val : Word) : Reg := { rsv := rsv, val := val }

/-- An array of registers: n of them from `base` on, `stride` bytes apart. -/
def regArray (off base stride n : Nat) (g : Fin n → Reg) : Option Reg :=
  if h : base ≤ off ∧ (off - base) % stride = 0 ∧ (off - base) / stride < n then some (g ⟨(off - base) / stride, h.2.2⟩) else none

/-- The first of a list of lookups that finds a register. -/
def firstReg (l : List (Option Reg)) : Option Reg := l.findSome? id

/-- Eight bytes of a list as a word, the lowest in [7:0]. -/
def listWord (l : List Byte) (k : Nat) : Word := BitVec.ofNat 64 (leNat ((l.drop (8 * k)).take 8))

/-- A write that a range refuses (ignored, ACCESS_ERR of PF0). -/
def State.writeIf (s : State) (ok : Bool) (t : State) : State := if ok then t else s.refuseWrite .pf0

/-! ### GBL_ (04) -/

def State.gblStatusView (s : State) : Word :=
  pack [(b2n (s.ringIdle .pf0), 8), (b2n s.tap.custody, 7), (b2n s.vfRefused, 6), (b2n s.gblAccessErr, 5), (s.img.active, 1), (b2n s.img.locked, 0)]

/-- GBL_STATUS: W1C of VF_REFUSED and ACCESS_ERR. -/
def State.writeGblStatus (v : Word) (s : State) : State :=
  { s with vfRefused := s.vfRefused && !v.getLsbD 6, gblAccessErr := s.gblAccessErr && !v.getLsbD 5 }

def State.gblReg (s : State) (off : Nat) : Option Reg :=
  let r := s.mgr
  [(0x000, ro [(63, 48)] 0x0000010102561E9D),
   (0x008, { kind := .side, rsv := [(63, 9), (4, 3)], val := s.gblStatusView, eff := State.writeGblStatus }),
   (0x010, { rsv := [(63, 1)], val := r.ctlView, eff := State.writeCtl .pf0 }),
   (0x100, ro [] s.timeView),
   (0x108, { rsv := [(63, 2)], val := s.time.ctlView, eff := State.writeTimeCtl }),
   (0x110, s.timeStatusReg),
   (0x118, { kind := .side, eff := State.writeTimeStep }),
   (0x120, ro [] (BitVec.ofInt 64 s.time.offset)),
   (0x128, ro [(63, 32)] (BitVec.ofNat 64 (twos 32 s.time.rate))),
   (0x200, { rsv := [(5, 0)], val := r.orderBase, eff := State.writeOrderBase .pf0 }),
   (0x208, { rsv := [(63, 4)], val := r.orderSizeView, eff := State.writeOrderSize .pf0 }),
   (0x210, { kind := .side, rsv := [(63, 12)], eff := State.writeOrderDb .pf0 }),
   (0x218, { rsv := [(4, 0)], val := r.eventBase, eff := State.writeEventBase .pf0 }),
   (0x220, { rsv := [(63, 5)], val := r.eventSizeView, eff := State.writeEventSize .pf0 }),
   (0x228, { kind := .side, rsv := [(63, 16)], val := r.ciView, eff := State.writeEventCi .pf0 }),
   (0x230, ro [(63, 16)] r.piView)].lookup off

/-! ### TEN_ (11) -/

/-- Workers whose slots hold an operation of the tenant. -/
def State.workersOf (s : State) (t : TenantId) : Nat :=
  ((allFin 32).filter (fun w => ((vget s.sched.workers w).cur.toList ++ (vget s.sched.workers w).next.toList).any
    (fun o => s.taskTenant o.task = some t))).length

def State.tenUseView (s : State) (t : TenantId) : Word :=
  pack [(s.workersOf t, 48), (s.reserved t, 32), (s.keyCtxs t, 16), (s.handles t, 0)]

/-- Word k of a share record that may be absent. -/
def shareWord (r : Option ShareRec) (k : Nat) : Word := match r with | some x => x.word k | none => 0

/-- The window of one tenant. -/
def State.tenReg (s : State) (t : TenantId) (off : Nat) : Option Reg :=
  firstReg [
    if off = 0 then some (s.tenStateReg t) else none,
    regArray off 0x08 8 6 (fun k => ro [] (shareWord (s.tenant t).share k.val)),
    regArray off 0x38 8 6 (fun k => ro [] (shareWord ((s.entry? t).map (fun e => e.min)) k.val)),
    regArray off 0x68 8 6 (fun k => ro [] (shareWord ((s.entry? t).map (fun e => e.max)) k.val)),
    if off = 0x98 then some (ro [(63, 54), (47, 43), (31, 27), (15, 11)] (s.tenUseView t)) else none,
    if off = 0xA0 then some (ro [(63, 15)] (BitVec.ofNat 64 s.pool)) else none]

/-! ### SCH_ and TRC_ (07, 08) -/

/-- SCH_TASK_SEL: a task above 16,895 is refused. -/
def State.writeTaskSel (v : Word) (s : State) : State :=
  s.writeIf (field v 0 15 ≤ 16895) { s with sched := { s.sched with taskSel := field v 0 15 } }

def Trace.ctlView (x : Trace) : Word :=
  pack [(x.kindEn.toNat, 32), (b2n x.internal, 3), (b2n x.manager, 2), (b2n x.wrap, 1), (b2n x.en, 0)]

def State.writeTrcCtl (v : Word) (s : State) : State :=
  { s with trace := { s.trace with kindEn := v.extractLsb' 32 11, internal := v.getLsbD 3, manager := v.getLsbD 2,
                                   wrap := v.getLsbD 1, en := v.getLsbD 0 } }

/-- TRC_TENANT[k]: bits 64k to 64k + 63 of the tenant mask. -/
def Trace.tenantWord (x : Trace) (k : Nat) : Word := x.tenants.extractLsb' (64 * k) 64

def State.writeTrcTenant (k : Fin 4) (v : Word) (s : State) : State :=
  let part := fun (i : Nat) => if i = k.val then v else s.trace.tenantWord i
  { s with trace := { s.trace with tenants := part 3 ++ part 2 ++ part 1 ++ part 0 } }

def State.writeTrcRdIdx (v : Word) (s : State) : State := { s with trace := { s.trace with rdIdx := field v 0 12 } }

/-- TRC_RD_DATA[i] of the record selected, counted from the oldest. -/
def Trace.readData (x : Trace) (i : Nat) : Word :=
  match x.buf[x.rdIdx]? with | some r => r.extractLsb' (64 * i) 64 | none => 0

/-- TRC_SPILL_CI follows R107 with the spill ring (R232). -/
def State.writeSpillCi (v : Word) (s : State) : State :=
  let size := 2 ^ s.trace.log2
  let n := field v 0 16
  s.writeIf (n < size && (n + size - s.trace.ci) % size ≤ (s.trace.pi + size - s.trace.ci) % size)
    { s with trace := { s.trace with ci := n } }

/-- The worst slot loads of a port's two sides. -/
def State.periodicLoadView (s : State) (p : PortId) : Word :=
  pack [(if p.val < 6 then worstLoad s.resvs p true false else 0, 32),
        (worstLoad s.resvs p false (s.frameSide { port := p, ss := false, path := [] }), 0)]

def State.schReg (s : State) (off : Nat) : Option Reg :=
  firstReg [
    [(0x0000, ro [(63, 8), (3, 3), (1, 1)] s.sched.modeView),
     (0x0008, ro [(31, 6)] s.schStatusView),
     (0x0010, ro [] (BitVec.ofNat 64 s.sched.decisions)),
     (0x0018, s.redispatchReg),
     (0x0300, { rsv := [(63, 15)], val := BitVec.ofNat 64 s.sched.taskSel, eff := State.writeTaskSel }),
     (0x0308, ro [(63, 16)] ((s.taskFlags s.sched.taskSel).setWidth 64)),
     (0x0310, ro [(55, 51), (34, 31), (23, 16)] (s.taskInfo s.sched.taskSel)),
     (0x0380, s.wheelReg),
     (0x0388, ro [(63, 13)] (BitVec.ofNat 64 s.cacheFree)),
     (0x0F00, ro [] (BitVec.ofNat 64 s.frames.f)),
     (0x0F08, s.mfStatusReg),
     (0x0F10, ro [] (BitVec.ofInt 64 s.frames.k)),
     (0x0F18, ro [(63, 20)] (BitVec.ofNat 64 (worstBytes s.resvs))),
     (0x0F20, s.admitReg),
     (0x1000, { rsv := [(63, 43), (31, 4)], val := s.trace.ctlView, eff := State.writeTrcCtl }),
     (0x1028, s.traceStatusReg),
     (0x1030, { rsv := [(63, 12)], val := BitVec.ofNat 64 s.trace.rdIdx, eff := State.writeTrcRdIdx }),
     (0x1048, ro [(63, 16)] (BitVec.ofNat 64 s.trace.pi)),
     (0x1050, { kind := .side, rsv := [(63, 16)], val := BitVec.ofNat 64 s.trace.ci, eff := State.writeSpillCi })].lookup off,
    regArray off 0x0040 8 8 (fun n => ro [(63, 15)] (BitVec.ofNat 64 (vget s.sched.ready n).length)),
    regArray off 0x0100 8 32 (fun w => ro [(63, 50), (39, 35), (31, 31), (15, 15)] (s.workerView w)),
    regArray off 0x0200 8 4 (fun c => ro [(63, 34), (15, 15)] (s.coreSlotView c)),
    regArray off 0x0F40 8 16 (fun p => ro [] (s.periodicLoadView p)),
    regArray off 0x1008 8 4 (fun k => { val := s.trace.tenantWord k.val, eff := State.writeTrcTenant k }),
    regArray off 0x1038 8 2 (fun i => ro [] (s.trace.readData i.val))]

/-! ### SLC_, POL_ and NRG_ (09) -/

/-- SLC_LEAD: 1,000 to 1,000,000 ns. -/
def State.writeSlcLead (v : Word) (s : State) : State :=
  let n := field v 0 20
  s.writeIf (1000 ≤ n && n ≤ 1000000) { s with sluice := { s.sluice with lead := n } }

def Sluice.capsView (q : Sluice) : Word :=
  pack ((b2n q.staging, 0) :: (allFin 16).map (fun p => (b2n (vget q.ports p).oper.isSome, 16 + p.val)))

/-- The entries of a port's operating list. -/
def SluicePort.operEntries (q : SluicePort) : List GateEntry := match q.oper with | some g => g.entries | none => []

def SluicePort.statusView (q : SluicePort) : Word :=
  pack [(q.overrunNs, 32), (q.state.code, 24), (q.operEntries.length, 16), (q.open8.toNat, 8), (q.admin.length, 0)]

def Sluice.selView (q : Sluice) : Word := pack [(q.selIndex, 16), (b2n q.selAdmin, 8), (q.selPort.val, 0)]

def State.writeListSel (v : Word) (s : State) : State :=
  { s with sluice := { s.sluice with selIndex := field v 16 7, selAdmin := v.getLsbD 8,
                                     selPort := ⟨field v 0 4, Nat.mod_lt _ (by decide)⟩ } }

/-- SLC_LIST_DATA, in the format of Table 3.12. -/
def Sluice.listData (q : Sluice) : Word :=
  let p := vget q.ports q.selPort
  match (if q.selAdmin then p.admin else p.operEntries)[q.selIndex]? with
  | some e => pack [(e.ns, 8), (e.mask.toNat, 0)]
  | none => 0

def State.writePolSel (v : Word) (s : State) : State :=
  { s with sluice := { s.sluice with polSel := ⟨field v 0 8, Nat.mod_lt _ (by decide)⟩ } }

/-- A write of an energy setting: into the shadow copy (01 R10). -/
def State.writeEnergy (s : State) (ok : Bool) (e : EnergySet) : State := s.writeIf ok { s with energy := { s.energy with set := e } }

def State.writeSustained (v : Word) (s : State) : State :=
  let n := field v 0 14
  s.writeEnergy (1 ≤ n && n ≤ 10000) { s.energy.set with sustained := n }

def State.writeBurst (v : Word) (s : State) : State :=
  let n := field v 0 27
  s.writeEnergy (1 ≤ n && n ≤ 100000000 && s.energy.set.high ≤ n) { s.energy.set with burst := n }

def State.writeWater (v : Word) (s : State) : State :=
  let lo := field v 0 32
  let hi := field v 32 32
  s.writeEnergy (lo ≤ hi && hi ≤ s.energy.set.burst) { s.energy.set with low := lo, high := hi }

def State.writeCost (k : Fin 5) (v : Word) (s : State) : State :=
  s.writeEnergy true { s.energy.set with baseNj := vset s.energy.set.baseNj k (field v 0 16),
                                         bytePj := vset s.energy.set.bytePj k (field v 16 16) }

def State.writeSealCost (v : Word) (s : State) : State := s.writeEnergy true { s.energy.set with sealPj := field v 0 16 }

def State.writeIsland (i : Fin 14) (v : Word) (s : State) : State :=
  s.writeEnergy true { s.energy.set with islandNj := vset s.energy.set.islandNj i (field v 0 16) }

/-- NRG_LEVEL: the level in whole uJ, rounded toward zero. -/
def Energy.levelView (e : Energy) : Word := BitVec.ofInt 64 (e.level.tdiv 1000000)

def Energy.thermalView (e : Energy) : Word :=
  pack ([(e.tCrit, 56), (e.tHard, 48), (e.tSoft, 40), (e.stage.code, 32)] ++
    (allFin 4).map (fun k => ((vget e.sensors k).toNat, 8 * k.val)))

def State.slcReg (s : State) (off : Nat) : Option Reg :=
  let q := s.sluice
  let e := s.energy
  let x := s.tenant q.polSel
  firstReg [
    [(0x0000, { rsv := [(63, 20)], val := BitVec.ofNat 64 q.lead, eff := State.writeSlcLead }),
     (0x0008, ro [(63, 32), (15, 1)] q.capsView),
     (0x0400, { rsv := [(63, 23), (15, 9), (7, 4)], val := q.selView, eff := State.writeListSel }),
     (0x0408, ro [] q.listData),
     (0x1000, ro [(63, 2)] (pack [(b2n q.startEmpty, 1), (b2n q.exempt, 0)])),
     (0x1008, { rsv := [(63, 8)], val := BitVec.ofNat 64 q.polSel.val, eff := State.writePolSel }),
     (0x1010, ro [] (pack [(x.tp / 1000, 32), (x.tc / 1000, 0)])),
     (0x1018, ro [] (pack [(x.yellow.toNat, 32), (x.red.toNat, 0)])),
     (0x2000, ro [] e.levelView),
     (0x2008, { rsv := [(63, 14)], val := BitVec.ofNat 64 e.set.sustained, eff := State.writeSustained }),
     (0x2010, { rsv := [(63, 27)], val := BitVec.ofNat 64 e.set.burst, eff := State.writeBurst }),
     (0x2018, { val := pack [(e.set.high, 32), (e.set.low, 0)], eff := State.writeWater }),
     (0x2048, { rsv := [(63, 16)], val := BitVec.ofNat 64 e.set.sealPj, eff := State.writeSealCost }),
     (0x20C0, ro [(39, 34)] e.thermalView),
     (0x20C8, s.energyStatusReg)].lookup off,
    regArray off 0x0100 8 16 (fun p => ro [(31, 26)] (vget q.ports p).statusView),
    regArray off 0x0180 8 16 (fun p => ro [] (match (vget q.ports p).oper with | some g => BitVec.ofNat 64 g.base | none => 0)),
    regArray off 0x0200 8 16 (fun p => ro [(63, 30)] (BitVec.ofNat 64 (cycleOf (vget q.ports p).operEntries))),
    regArray off 0x0280 8 16 (fun p => ro [] (BitVec.ofNat 64 (vget q.ports p).switchAt)),
    regArray off 0x0300 8 16 (fun p => s.countReg p),
    regArray off 0x2020 8 5 (fun k => { rsv := [(63, 32)], val := pack [(vget e.set.bytePj k, 16), (vget e.set.baseNj k, 0)],
                                        eff := State.writeCost k }),
    regArray off 0x2050 8 14 (fun i => { rsv := [(63, 16)], val := BitVec.ofNat 64 (vget e.set.islandNj i), eff := State.writeIsland i })]

/-! ### PRT_ (06) -/

/-- The device directly on a port, of the SuperSpeed side if there are two. -/
def State.rootDev (s : State) (p : PortId) : Option Dev :=
  (s.dev? { port := p, ss := true, path := [] }).orElse (fun _ => s.dev? { port := p, ss := false, path := [] })

/-- PRT_PORT_STATUS[p]. ENABLED is taken as: the port's device has an address and is not in reset (DEDUCED, notes/assumptions/59.md). -/
def State.portStatusView (s : State) (p : PortId) : Word :=
  let d := s.rootDev p
  let has := fun (f : Dev → Bool) => match d with | some x => b2n (f x) | none => 0
  pack [((s.devs.filter (fun x => x.id.port = p && x.addr ≠ 0)).length, 40), (Nat.min (s.ocOf p).retries 3, 18),
        (b2n (s.ocOf p).latched, 17), (b2n (vget s.ports p).ocActive, 16), (b2n (s.power.waiting.any (fun e => e.1 = p)), 15),
        (match d with | some x => x.speed.code | none => 0, 11), (has (fun x => x.suspended), 10),
        (has (fun x => decide (x.addr ≠ 0) && x.reset = .none), 9), (b2n d.isSome, 8), (b2n (s.powered p), 0)]

def State.gangView (s : State) (g : Fin 4) : Word :=
  pack [(Nat.min (vget s.gangs g).retries 3, 18), (b2n (vget s.gangs g).latched, 17), (b2n (s.gangActive g), 16),
        ((vget s.gangMask g).toNat, 0)]

def State.devPathView (s : State) (loc : Nat) : Word :=
  match s.devAt loc with
  | some d =>
    let hub := match s.ttOf d.id d.speed with
      | some (h, _) => (match s.dev? h with | some x => x.addr | none => 0)
      | none => 0
    pack ([(hub, 48), (d.id.path.length, 4), (d.id.port.val, 0)] ++
      (List.range 5).map (fun k => (d.id.path.getD k 0, 8 + 8 * k)))
  | none => 0

/-- PRT_OC_DEGLITCH: 10 to 1,000 us. -/
def State.writeDeglitch (v : Word) (s : State) : State :=
  let n := field v 0 10
  s.writeIf (10 ≤ n && n ≤ 1000) { s with deglitchUs := n }

/-- PRT_URGENT_RESERVE[p]: at most 25,000 ns, and not below the load admitted on the SuperSpeed side (R186). -/
def State.writeUrgent (p : PortId) (v : Word) (s : State) : State :=
  let n := field v 0 15
  s.writeIf (n ≤ 25000 && worstLoad s.resvs p true false ≤ slotCapacity true false n) (s.modPort p (fun q => { q with urgent := n }))

def State.writeDevSel (v : Word) (s : State) : State := { s with devSel := v.extractLsb' 0 11 }

def State.prtReg (s : State) (off : Nat) : Option Reg :=
  firstReg [
    [(0x120, { rsv := [(63, 10)], val := BitVec.ofNat 64 s.deglitchUs, eff := State.writeDeglitch }),
     (0x300, { rsv := [(63, 11)], val := s.devSel.setWidth 64, eff := State.writeDevSel }),
     (0x308, ro [(23, 23), (15, 15)] (s.devInfoView s.devSel.toNat)),
     (0x310, ro [(63, 56), (7, 7)] (s.devPathView s.devSel.toNat))].lookup off,
    regArray off 0x000 8 16 (fun p => ro [(63, 48), (39, 20), (14, 14), (7, 1)] (s.portStatusView p)),
    regArray off 0x080 8 16 (fun p => { kind := .side, rsv := [(63, 2)], val := s.portCtlView p, eff := State.writePortCtl p }),
    regArray off 0x100 8 4 (fun g => ro [(63, 20)] (s.gangView g)),
    regArray off 0x200 8 16 (fun p => { rsv := [(63, 15)], val := BitVec.ofNat 64 (vget s.ports p).urgent, eff := State.writeUrgent p })]

/-! ### PWR_ (13) -/

def Power.wakeView (p : Power) : Word :=
  pack [(p.wakePort.val, 20), (p.first, 16), (b2n p.replayed, 12), (p.causes.toNat, 0)]

/-- PWR_WAKE_CAUSE: W1C of REPLAYED and CAUSES. -/
def State.writeWakeCause (v : Word) (s : State) : State :=
  { s with power := { s.power with replayed := s.power.replayed && !v.getLsbD 12,
                                   causes := s.power.causes &&& ~~~(v.extractLsb' 0 12) } }

/-- PWR_ISLAND_GATED[i]: us gated or in retention, the present stay included; AON reads 0. -/
def State.gatedView (s : State) (i : Fin 14) : Word :=
  let x := vget s.power.islands i
  if i.val = 0 then 0
  else BitVec.ofNat 64 ((vget s.power.gatedNs i + (if x.active then 0 else s.power.clock - x.since)) / 1000)

def State.pwrReg (s : State) (off : Nat) : Option Reg :=
  firstReg [
    [(0x000, ro [(63, 20), (15, 10), (7, 6)] s.pwrStatusView),
     (0x008, { rsv := [(63, 32)], val := BitVec.ofNat 64 s.power.latFloor, eff := State.writeLatFloor }),
     (0x010, ro [(63, 41)] s.effTolView),
     (0x018, ro [] s.nextEventView),
     (0x020, { rsv := [(63, 2)], val := BitVec.ofNat 64 s.power.oppMode, eff := State.writeOppCtl }),
     (0x028, s.oppStatusReg),
     (0x030, { kind := .side, rsv := [(63, 1)], eff := State.writePadRelease }),
     (0x038, { kind := .side, rsv := [(63, 24), (15, 13)], val := s.power.wakeView, eff := State.writeWakeCause }),
     (0x040, s.retStatusReg),
     (0x048, ro [(63, 48)] (BitVec.ofNat 64 s.power.lastSleep))].lookup off,
    regArray off 0x100 8 4 (fun n => ro [] (s.resTimeView n)),
    regArray off 0x120 8 4 (fun n => ro [] (vget s.power.resEntries n)),
    regArray off 0x140 8 14 (fun i => ro [] (s.gatedView i))]

/-! ### IRQ_ (12) -/

def State.holdReg (s : State) (f : Fn) : Reg :=
  { rsv := [(63, 1)], val := BitVec.ofNat 64 (b2n (s.held (.fn f))), eff := State.setHold f }

/-- A claim register holds no value of its own: what a read would claim. -/
def State.claimReg (s : State) (f : Fn) : Reg := ro [(62, 24)] (s.claimValue (.fn f))

/-- An EOI register. Its RSV bits are part of R315: any value that names no source of the target is refused. -/
def eoiReg (f : Fn) : Reg := { kind := .side, eff := State.eoiWrite f }

def State.irqReg (s : State) (off : Nat) : Option Reg :=
  firstReg [
    [(0x600, s.holdReg .pf0), (0x608, s.claimReg .pf0), (0x610, eoiReg .pf0)].lookup off,
    regArray off 0x000 8 96 (fun n => { rsv := (Src.shared n).rsvFields, val := s.srcView (.shared n), eff := State.sharedWrite n }),
    regArray off 0x400 8 64 (fun n => { rsv := (Src.pf n).rsvFields, val := s.srcView (.pf n), eff := State.privateWrite .pf0 (.pf n) 64 }),
    regArray off 0x800 8 4 (fun c => ro [(63, 49), (31, 17)] (s.coreView c))]

/-! ### PEAT_ (14), FLT_ (15) -/

def State.peatReg (s : State) (off : Nat) : Option Reg :=
  [(0x00, ro [(63, 48), (39, 32), (23, 12), (3, 2)] s.peatStatusView),
   (0x08, ro [(63, 56), (15, 1)] s.peatGeometryView),
   (0x10, ro [] (BitVec.ofNat 64 s.peat.seq)),
   (0x18, ro [] (BitVec.ofNat 64 s.peat.horizon)),
   (0x20, ro [] (BitVec.ofNat 64 s.peat.ckpt)),
   (0x28, ro [] s.peat.wearView),
   (0x30, ro [] (BitVec.ofNat 64 s.peat.logFirst)),
   (0x38, ro [] (BitVec.ofNat 64 s.peat.logNext)),
   (0x40, s.peatStatsReg),
   (0x48, ro [(63, 42), (31, 28)] s.peatTablesView),
   (0x50, ro [(63, 32)] (BitVec.ofNat 64 s.peat.scanUs))].lookup off

/-- FLT_UNFENCE through the map: the outcomes of the checks are free. -/
def State.writeUnfenceFree (v : Word) (s : State) : State :=
  let (w, s) := s.drawBits 32
  let (c, s) := s.drawBits 4
  s.writeUnfence (BitVec.ofNat 32 w) (BitVec.ofNat 4 c) v

def State.fltReg (s : State) (off : Nat) : Option Reg :=
  firstReg [
    [(0x000, s.fltStatusReg),
     (0x028, { kind := .side, rsv := [(63, 1)], eff := State.writeFltPop }),
     (0x200, { kind := .side, rsv := [(63, 36)], eff := State.writeUnfenceFree })].lookup off,
    regArray off 0x008 8 4 (fun n => ro [] (s.fltHeadView n.val)),
    regArray off 0x040 8 9 (fun n => s.classCountReg n),
    regArray off 0x100 8 21 (fun n => s.eccReg n)]

/-! ### SEAL_ and ID_ (10) -/

def State.sealStatusView (s : State) : Word :=
  pack [((s.flows.filter (fun f => f.key.isSome)).length, 32), (Nat.min s.peat.quars.length 255, 24),
        (match s.sealSec with | some x => if s.img.locked then x.anchors.length else 0 | none => 0, 0)]

def State.tamperView (s : State) : Word :=
  pack [(s.peat.life.tampers, 32), (s.peat.tamperPend.toNat, 16), (b2n s.seals.zeroised, 2), (s.pins.tamper.toNat, 0)]

/-- SEAL_TAMPER: W1C of ZEROISED. -/
def State.writeTamper (v : Word) (s : State) : State :=
  { s with seals := { s.seals with zeroised := s.seals.zeroised && !v.getLsbD 2 } }

def State.idStatusView (s : State) : Word :=
  if s.img.fusesRead then
    pack [(unitChain.length, 32), (unitCertificate.length, 16), (b2n s.fuses.revoked, 1), (b2n Config.keyOk, 0)]
  else 0

/-- ID_CTL: W1S of REVOKE_ON_TAMPER. -/
def State.writeIdCtl (v : Word) (s : State) : State :=
  { s with seals := { s.seals with revokeOnTamper := s.seals.revokeOnTamper || v.getLsbD 0 } }

/-- A word of what start-up step 3 loads from OTP. -/
def State.otpWord (s : State) (l : List Byte) (k : Nat) : Word := if s.img.fusesRead then listWord l k else 0

def State.sealReg (s : State) (off : Nat) : Option Reg :=
  firstReg [
    [(0x0000, ro [(63, 47), (23, 5)] s.sealStatusView),
     (0x0008, s.sealFailsReg),
     (0x0010, ro [(63, 32), (15, 11)] (s.seals.lastFail.setWidth 64)),
     (0x0018, { kind := .side, rsv := [(15, 3)], val := s.tamperView, eff := State.writeTamper }),
     (0x1000, ro [(63, 48), (15, 2)] s.idStatusView),
     (0x1008, { kind := .side, rsv := [(63, 1)], val := BitVec.ofNat 64 (b2n s.seals.revokeOnTamper), eff := State.writeIdCtl })].lookup off,
    regArray off 0x1010 8 8 (fun k => ro [] (s.otpWord unitPublicKey k.val)),
    regArray off 0x2000 8 1024 (fun k => ro [] (s.otpWord (unitCertificate ++ unitChain) k.val))]

/-! ### SVC_ (16), IMG_ (03) -/

/-- SVC_STATUS: W1C of WAKE_COLLIDED. -/
def State.writeSvcStatus (v : Word) (s : State) : State :=
  { s with svc := { s.svc with wakeCollided := s.svc.wakeCollided && !v.getLsbD 9 } }

/-- SVC_CHANGE: W1C. -/
def State.writeSvcChange (v : Word) (s : State) : State :=
  { s with svc := { s.svc with change := s.svc.change &&& ~~~(v.extractLsb' 0 8) } }

def State.svcReg (s : State) (off : Nat) : Option Reg :=
  [(0x000, { rsv := [(63, 2)], val := s.svc.ctlView, eff := State.writeSvcCtl }),
   (0x008, { kind := .side, rsv := [(63, 23), (15, 10)], val := s.svcStatusView, eff := State.writeSvcStatus }),
   (0x010, { kind := .side, rsv := [(63, 8)], val := s.svc.change.setWidth 64, eff := State.writeSvcChange }),
   (0x018, s.svcCountReg),
   (0x020, ro [] (BitVec.ofNat 64 s.svc.cursor)),
   (0x100, { kind := .side, rsv := [(63, 2)], eff := State.writeSelfTest }),
   (0x108, ro [(63, 53), (31, 8), (3, 2)] s.self.statusView),
   (0x110, ro [(5, 0)] s.self.failView)].lookup off

def State.imgStatusView (s : State) : Word :=
  let i := s.img
  pack [(if i.fusesRead then s.fuses.svn else 0, 32), (match i.image with | some x => x.svn | none => 0, 24), (i.writeState, 16),
        (b2n i.fallback, 4), (b2n (i.fusesRead && decide (s.fuses.ownerHash ≠ 0)), 3), (b2n i.locked, 2), (i.active, 0)]

def SlotInfo.view (x : SlotInfo) : Word :=
  pack [(x.fieldOffset, 40), (x.sect.toNat, 32), (x.svn, 24), (x.reason.toNat, 0)]

/-- IMG_RESET_CAUSE: W1C. -/
def State.writeResetCause (v : Word) (s : State) : State := { s with img := { s.img with cause := s.img.cause &&& ~~~(v.extractLsb' 0 4) } }

def State.imgReg (s : State) (off : Nat) : Option Reg :=
  firstReg [
    [(0x00, ro [(63, 38), (31, 30), (23, 18), (15, 5)] s.imgStatusView),
     (0x08, ro [] (match s.img.image with | some x => x.version | none => 0)),
     (0x50, ro [(63, 32)] (BitVec.ofNat 64 s.img.startUs)),
     (0x58, { kind := .side, rsv := [(63, 4)], val := s.img.cause.setWidth 64, eff := State.writeResetCause }),
     (0x60, ro [(63, 24)] (if s.img.writeState = 1 then BitVec.ofNat 64 s.img.writeNext else 0))].lookup off,
    regArray off 0x10 8 2 (fun n => ro [(31, 30), (23, 8)] (vget s.img.slots n).view),
    regArray off 0x20 8 2 (fun n => ro [] (vget s.img.slots n).version),
    regArray off 0x30 8 4 (fun k => ro [] (if s.img.fusesRead then s.fuses.ownerHash.extractLsb' (64 * k.val) 64 else 0))]

/-! ### The two maps -/

/-- PF0 BAR0 (04 Table 4.7); none where no register lies. -/
def State.pfReg (s : State) (off : Nat) : Option Reg :=
  let k := off % 65536
  match off / 65536 with
  | 0 => s.gblReg k
  | 1 => s.tenReg ⟨k / 256 % 256, Nat.mod_lt _ (by decide)⟩ (k % 256)
  | 2 => s.schReg k
  | 3 => s.slcReg k
  | 4 => s.prtReg k
  | 5 => s.pwrReg k
  | 6 => s.irqReg k
  | 7 => s.peatReg k
  | 8 => s.fltReg k
  | 9 => s.sealReg k
  | 10 => s.svcReg k
  | 11 => s.imgReg k
  | b => if 16 ≤ b && b < 32 then some { kind := .window } else none

/-- T_STATUS. -/
def State.tStatusView (s : State) (t : TenantId) : Word :=
  let x := s.tenant t
  pack [(s.handles t, 32), (b2n x.rings.stopped, 7), (b2n (!x.rings.buf.isEmpty), 6), (b2n x.accessErr, 5), (b2n (s.ringIdle (.vf t)), 4),
        (x.st.code, 0)]

/-- T_STATUS: W1C of ACCESS_ERR. -/
def State.writeTStatus (t : TenantId) (v : Word) (s : State) : State :=
  s.modTenant t (fun x => { x with accessErr := x.accessErr && !v.getLsbD 5 })

/-- A register of a VP: silent while the VP holds no granted device (R136). -/
def Reg.ofVp (s : State) (t : TenantId) (i : Fin 64) (r : Reg) : Reg :=
  if (s.vpDev t (i.val + 1)).isNone then { r with kind := .silent } else r

/-- T_VP_CHANGE[vp]: W1C. -/
def State.writeVpChange (t : TenantId) (i : Fin 64) (v : Word) (s : State) : State :=
  s.modTenant t (fun x => { x with vpChange := vmod x.vpChange i (fun b => b &&& ~~~(v.extractLsb' 0 8)) })

/-- A VF's BAR0 (04 Table 4.8). -/
def State.vfReg (s : State) (t : TenantId) (off : Nat) : Option Reg :=
  let f : Fn := .vf t
  let r := (s.tenant t).rings
  firstReg [
    [(0x0000, ro [(63, 48)] (pack [(t.val, 40), (1, 32), (0x0257, 16), (0x1E9D, 0)])),
     (0x0008, { kind := .side, rsv := [(63, 43), (31, 8), (3, 3)], val := s.tStatusView t, eff := State.writeTStatus t }),
     (0x0010, { rsv := [(63, 1)], val := r.ctlView, eff := State.writeCtl f }),
     (0x0018, ro [] s.timeView),
     (0x0100, { rsv := [(5, 0)], val := r.orderBase, eff := State.writeOrderBase f }),
     (0x0108, { rsv := [(63, 4)], val := r.orderSizeView, eff := State.writeOrderSize f }),
     (0x0110, { kind := .side, rsv := [(63, 12)], eff := State.writeOrderDb f }),
     (0x0118, { rsv := [(4, 0)], val := r.eventBase, eff := State.writeEventBase f }),
     (0x0120, { rsv := [(63, 5)], val := r.eventSizeView, eff := State.writeEventSize f }),
     (0x0128, { kind := .side, rsv := [(63, 16)], val := r.ciView, eff := State.writeEventCi f }),
     (0x0130, ro [(63, 16)] r.piView),
     (0x0200, { rsv := [(63, 32)], val := BitVec.ofNat 64 (s.tenant t).latTol, eff := State.writeLatTol t }),
     (0x0208, ro [(63, 32), (23, 18), (15, 12), (7, 4)] (s.counterStatusView t)),
     (0x1100, s.holdReg f), (0x1108, s.claimReg f), (0x1110, eoiReg f)].lookup off,
    regArray off 0x1000 8 32 (fun n => { rsv := (Src.vf t n).rsvFields, val := s.srcView (.vf t n), eff := State.privateWrite f (.vf t n) 16 }),
    regArray off 0x2000 8 1024 (fun h => { kind := .side, rsv := [(63, 32)], eff := State.writeEpDb t h }),
    regArray off 0x4000 32 64 (fun i => Reg.ofVp s t i (ro [(63, 24), (15, 11)] (s.vpStatusView t (i.val + 1)))),
    regArray off 0x4008 32 64 (fun i => Reg.ofVp s t i (ro [(63, 56)] (s.vpIdView t (i.val + 1)))),
    regArray off 0x4010 32 64 (fun i => Reg.ofVp s t i
      { kind := .side, rsv := [(63, 8)], val := s.vpChangeView t (i.val + 1), eff := State.writeVpChange t i })]

/-- The register at an offset of a function's BAR0; an offset that no register occupies is as RSV (Table 4.6). -/
def State.regAt (s : State) (f : Fn) (off : Nat) : Reg :=
  (match f with | .pf0 => s.pfReg off | .vf t => s.vfReg t off).getD (ro [(63, 0)] 0)

/-- What a 64-bit read of a register returns, side effects and host-link outcomes aside. -/
def State.regValue (s : State) (f : Fn) (off : Nat) : Word := (s.regAt f off).val

/-- A write at an offset, which is a register's; an access that is not at one is misaligned. -/
def State.writeAt (s : State) (f : Fn) (off : Nat) (a : WrAcc) (v : Word) : State :=
  s.writeReg f (off / 8 * 8) (if off % 8 = 0 then a else .other) v (s.regAt f (off / 8 * 8))

/-- REGISTER_WRITE (R87, R88). -/
def execRegisterWrite (f : Fn) (off : Nat) (a : WrAcc) (v : Word) (s : State) : Host.Outcome State Fault Refusal :=
  .next (s.writeAt f off a v)

/-- PRT_URGENT_RESERVE_WRITE (R186). -/
def execPrtUrgentReserveWrite (p : PortId) (a : WrAcc) (v : Word) (s : State) : Host.Outcome State Fault Refusal :=
  .next (s.regWrite .pf0 (0x40200 + 8 * p.val) .plain (bits 63 15) (BitVec.ofNat 64 (vget s.ports p).urgent) a v (State.writeUrgent p))

/-- TRC_SPILL_CI (R232). -/
def execTrcSpillCi (a : WrAcc) (v : Word) (s : State) : Host.Outcome State Fault Refusal :=
  .next (s.regWrite .pf0 0x21050 .side (bits 63 16) (BitVec.ofNat 64 s.trace.ci) a v State.writeSpillCi)

end Sys2Proof.Machine
end

