-- ==== Sys2Proof/Machine/Culvert.lean ====
section
/-! DEFINITION. Register accesses of every size through the register maps, the endpoint table window, and the delivery of requests that
were held in front of an island (01 R16, R17, R19, R21; 04 R88 to R91, R94; 13 R332, R338). -/

namespace Sys2Proof.Machine

/-! ### Reads (04 Table 4.6) -/

/-- One register is read: Keeper time with its latch (R89), a claim register, or any other. -/
def State.readOne (s : State) (f : Fn) (off : Nat) (h : RdHalf) : State :=
  if off = timeOff f then s.timeRead f h
  else if off = claimOff f then s.claimRead f h
  else s.readReg f off h (s.regAt f off)

/-- The 32-bit words of a completion. -/
def Resp.dwords : Option Resp → List (BitVec 32)
  | some (.data v) => [v.extractLsb' 0 32, v.extractLsb' 32 32]
  | some (.half v) => [v]
  | some (.words l) => l
  | _ => []

/-- The halves of the register at `off` that a read of dwords a to b touches. -/
def halfOf (off a b : Nat) : RdHalf :=
  if a ≤ off / 4 && off / 4 < b then .full else if off / 4 < a then .high else .low

/-- A read that touches several registers: each in ascending order, with its own side effects (R88). -/
def State.readSpan (s : State) (f : Fn) (a b : Nat) : Nat → Nat → State × List (BitVec 32)
  | 0, _ => (s, [])
  | n + 1, off =>
    let t := s.readOne f off (halfOf off a b)
    let (u, l) := State.readSpan t f a b n (off + 8)
    (u, Resp.dwords t.resp ++ l)

/-- A word of an endpoint table entry: of a handle's context, of a key context, whose PRK shows in its wrapped form (10 R271), or of an
entry in no use. -/
def State.contextWord (s : State) (n k : Nat) : Word :=
  match s.flows.find? (fun f => f.entry = n), s.flows.findSome? (fun f => f.key.bind (fun x => if x.entry = n then some x else none)) with
  | some f, _ => Config.flowWord n f.h.val f.ringBase f.consumed k
  | none, some x => Config.keyWord n x.epoch x.seq x.wrapped k
  | none, none => Config.idleWord n k

/-- The endpoint table's word at an offset of its window: raw (notes/assumptions/107.md). Whether the
word has an uncorrectable error is free: then it reads all ones, and the error is handled (R94, 15 R380). -/
def State.eptRead (s : State) (off : Nat) : State × Word :=
  let n := off / 64 % 16384
  let (bad, s) := s.drawBool
  if bad then
    let b : Fin 21 := ⟨n / 2048 % 21, Nat.mod_lt _ (by decide)⟩
    let s : State := { s with faults := { s.faults with uncorrectable := vmod s.faults.uncorrectable b (fun k => satAdd k 1 65535) } }
    (s.memoryFault 0 b false (off % 131072), bits 63 0)
  else (s, s.contextWord n (off / 8 % 8))

/-- A read of the endpoint table window, word by word. -/
def State.eptSpan (s : State) (a b : Nat) : Nat → Nat → State × List (BitVec 32)
  | 0, _ => (s, [])
  | n + 1, off =>
    let (t, w) := s.eptRead off
    let r := readResp (halfOf off a b) w
    let (u, l) := State.eptSpan t a b n (off + 8)
    (u, Resp.dwords (some r) ++ l)

/-- The completion that carries so many 32-bit words from dword a on. -/
def completion (a : Nat) (l : List (BitVec 32)) : Resp :=
  match l with
  | [x] => .half x
  | [x, y] => if a % 2 = 0 then .data (y ++ x) else .words l
  | _ => .words l

/-- An offset of PF0's endpoint table window. -/
def inEpt (f : Fn) (off : Nat) : Bool := f = .pf0 && decide (0x100000 ≤ off) && decide (off < 0x200000)

/-- A read of so many bytes at an offset of a function's BAR0. -/
def State.readAt (s : State) (f : Fn) (off size : Nat) : State :=
  let a := off / 4
  let b := (off + size - 1) / 4
  let regs := b / 2 + 1 - a / 2
  if size = 0 then (s.dropLatch f).answer (.words [])
  else if inEpt f off then
    s.front (s.wayTo f off) (.access (.read f off size))
      (if s.unsupported f then s.answer .ur
       else
         let (t, l) := (s.dropLatch f).eptSpan a b regs (off / 8 * 8)
         t.answer (completion a l))
  else if regs = 1 then s.readOne f (off / 8 * 8) (halfOf (off / 8 * 8) a b)
  else s.front (((List.range regs).map (fun k => s.wayTo f (off / 8 * 8 + 8 * k))).flatten) (.access (.read f off size))
    (if s.unsupported f then s.answer .ur
     else
       let (t, l) := s.readSpan f a b regs (off / 8 * 8)
       t.answer (completion a l))

/-! ### Delivery (01 R16, R17) -/

/-- A request acts, or goes on to where its way is blocked next. -/
def State.act (s : State) (q : CulvertReq) : State :=
  match q with
  | .access (.write f off a v) => s.writeAt f off a v
  | .access (.read f off size) => s.readAt f off size
  | .config f r => s.cfgRequest f r
  | .tableWrite f off size v => s.tableWrite f off size v
  | .tableRead f off size => s.tableRead f off size
  | .slot u => (match s.opAt u with
      | some o => s.passOp u u.island (s.opWay u o) s
      | none => s)
  | .other _ => s

/-- A request that its answer leaves the block for: a read, or a configuration request. -/
def CulvertReq.answered : CulvertReq → Bool
  | .access (.read _ _ _) => true
  | .config _ _ => true
  | .tableRead _ _ _ => true
  | _ => false

/-- A held request is delivered; the completion of one that asks for it leaves now. -/
def State.deliver (s : State) (h : Held) : State :=
  let t := ({ s with resp := none } : State).act h.req
  match t.resp with
  | some r => if h.req.answered then t.emitOut (.cpl r) else t
  | none => t

/-- An island runs: the requests held in front of it are delivered in the order in which they were raised. -/
def State.islandUp (s : State) (i : Island) : State :=
  let l := (s.island i).held
  let s := (s.moveIsland i .running).modIsland i (fun x => { x with held := [] })
  l.foldl State.deliver s

/-- ISLAND_WAKE (01 R17): a request of another island reaches one: it acts where the island runs, else it is held and wakes it. -/
def execIslandWake (i : Island) (h : Held) (s : State) : Host.Outcome State Fault Refusal :=
  .next (if s.running i then s.act h.req else ({ s with resp := none } : State).hold i h)

/-- The hand-off of ports by the port watcher (R332, 01 R21): a resume that it has begun goes on at the island. -/
def State.handOff (s : State) (i : Island) : State :=
  { s with power := { s.power with watched := s.power.watched.filter (fun e => e.side ≠ i) } }

/-- The link is back in L0 once HOSTLINK is ready, where a request waits for it (13 Table 13.6 step 6). -/
def State.linkBack (s : State) : State :=
  if (s.island .hostlink).held.isEmpty || s.link = .down then s else { s with link := .l0 }

/-- ISLAND_READY (01 R17): held requests are delivered, ports, pads and link of the island go back to it (01 R21, 13 R338); MGMT samples
the levels again (12 R324). -/
def execIslandReady (i : Island) (s : State) : Host.Outcome State Fault Refusal :=
  .next (if (s.island i).state = .waking then
      let s := s.handOff i
      let s : State := if i = .nvm then { s with pins := { s.pins with xspiHeld := false } } else s
      let s := if i = .hostlink then s.linkBack else s
      let s := s.islandUp i
      if s.power.exiting then s.endExit else if i = .mgmt then s.resample else s
    else s)

/-- ISLAND_RESTART_DONE (15 R383): the island is ready and its held requests are delivered (01 R19). -/
def execIslandRestartDone (i : Island) (s : State) : Host.Outcome State Fault Refusal :=
  .next (if s.restarting i then
      let s := s.islandUp i
      let s := if i = .svc then s.loseResponse else if i = .mgmt then s.resample else s
      ({ s with faults := { s.faults with restarts := s.faults.restarts.map (fun r => { r with left := r.left.erase i }) } } : State).endRestarts
    else s)

end Sys2Proof.Machine
end

