-- ==== Sys2Proof/Machine/Dispatch.lean ====
section
/-! DEFINITION. The meaning of each command: one arm per row of the table. -/

namespace Sys2Proof.Machine

def exec (i : Instr) (s : State) : Host.Outcome State Fault Refusal :=
  match i with
  | .vddioNRise => Sys2Proof.Machine.execVddioNRise s
  | .fullReset src vbat => Sys2Proof.Machine.execFullReset src vbat s
  | .porNRelease peatSel testMode => Sys2Proof.Machine.execPorNRelease peatSel testMode s
  | .watchdogReset => Sys2Proof.Machine.execWatchdogReset s
  | .perstNAssert => Sys2Proof.Machine.execPerstNAssert s
  | .perstNDeassert => Sys2Proof.Machine.execPerstNDeassert s
  | .pf0Flr => Sys2Proof.Machine.execPf0Flr s
  | .vfFlr t => Sys2Proof.Machine.execVfFlr t s
  | .configRequest f r => Sys2Proof.Machine.execConfigRequest f r s
  | .vfEnableWrite on => Sys2Proof.Machine.execVfEnableWrite on s
  | .numvfsWrite n => Sys2Proof.Machine.execNumvfsWrite n s
  | .pmStateWrite f v => Sys2Proof.Machine.execPmStateWrite f v s
  | .msixControlWrite f c => Sys2Proof.Machine.execMsixControlWrite f c s
  | .msixTableWrite f off size v => Sys2Proof.Machine.execMsixTableWrite f off size v s
  | .hostLinkUp u => Sys2Proof.Machine.execHostLinkUp u s
  | .hostLinkError aer down => Sys2Proof.Machine.execHostLinkError aer down s
  | .dmaCompletionTimeout u => Sys2Proof.Machine.execDmaCompletionTimeout u s
  | .pwrfailNFall tpp starts => Sys2Proof.Machine.execPwrfailNFall tpp starts s
  | .pwrfailNRise => Sys2Proof.Machine.execPwrfailNRise s
  | .overCurrentTrip r => Sys2Proof.Machine.execOverCurrentTrip r s
  | .ocRetry r => Sys2Proof.Machine.execOcRetry r s
  | .ocRetryCountClear r => Sys2Proof.Machine.execOcRetryCountClear r s
  | .tamperAssert n => Sys2Proof.Machine.execTamperAssert n s
  | .tamperRelease n => Sys2Proof.Machine.execTamperRelease n s
  | .thermalSample r => Sys2Proof.Machine.execThermalSample r s
  | .ppsInEdge falling => Sys2Proof.Machine.execPpsInEdge falling s
  | .ptmDialogue => Sys2Proof.Machine.execPtmDialogue s
  | .ptmResponse master => Sys2Proof.Machine.execPtmResponse master s
  | .ptmDialogueFail => Sys2Proof.Machine.execPtmDialogueFail s
  | .disciplineHoldover => Sys2Proof.Machine.execDisciplineHoldover s
  | .ppsOutPulse => Sys2Proof.Machine.execPpsOutPulse s
  | .ppsOutPulseEnd => Sys2Proof.Machine.execPpsOutPulseEnd s
  | .gblCtlWrite a v => Sys2Proof.Machine.execGblCtlWrite a v s
  | .gblOrderBaseWrite a v => Sys2Proof.Machine.execGblOrderBaseWrite a v s
  | .gblOrderSizeWrite a v => Sys2Proof.Machine.execGblOrderSizeWrite a v s
  | .gblOrderDb a v => Sys2Proof.Machine.execGblOrderDb a v s
  | .gblEventBaseWrite a v => Sys2Proof.Machine.execGblEventBaseWrite a v s
  | .gblEventSizeWrite a v => Sys2Proof.Machine.execGblEventSizeWrite a v s
  | .gblEventCi a v => Sys2Proof.Machine.execGblEventCi a v s
  | .tCtlWrite t a v => Sys2Proof.Machine.execTCtlWrite t a v s
  | .tOrderBaseWrite t a v => Sys2Proof.Machine.execTOrderBaseWrite t a v s
  | .tOrderSizeWrite t a v => Sys2Proof.Machine.execTOrderSizeWrite t a v s
  | .tOrderDb t a v => Sys2Proof.Machine.execTOrderDb t a v s
  | .tEventBaseWrite t a v => Sys2Proof.Machine.execTEventBaseWrite t a v s
  | .tEventSizeWrite t a v => Sys2Proof.Machine.execTEventSizeWrite t a v s
  | .tEventCi t a v => Sys2Proof.Machine.execTEventCi t a v s
  | .tEpDb t h a v => Sys2Proof.Machine.execTEpDb t h a v s
  | .gblTimeLowRead r => Sys2Proof.Machine.execGblTimeLowRead r s
  | .gblTimeStep a v => Sys2Proof.Machine.execGblTimeStep a v s
  | .tIrqClaim t r => Sys2Proof.Machine.execTIrqClaim t r s
  | .irqPfClaim r => Sys2Proof.Machine.execIrqPfClaim r s
  | .tIrqEoi t a v => Sys2Proof.Machine.execTIrqEoi t a v s
  | .irqPfEoi a v => Sys2Proof.Machine.execIrqPfEoi a v s
  | .irqSharedWrite n a v => Sys2Proof.Machine.execIrqSharedWrite n a v s
  | .irqSourceWrite f n a v => Sys2Proof.Machine.execIrqSourceWrite f n a v s
  | .irqHoldWrite f a v => Sys2Proof.Machine.execIrqHoldWrite f a v s
  | .ocClear p a v => Sys2Proof.Machine.execOcClear p a v s
  | .powerOff p a v => Sys2Proof.Machine.execPowerOff p a v s
  | .prtUrgentReserveWrite p a v => Sys2Proof.Machine.execPrtUrgentReserveWrite p a v s
  | .trcSpillCi a v => Sys2Proof.Machine.execTrcSpillCi a v s
  | .pwrPadRelease a v => Sys2Proof.Machine.execPwrPadRelease a v s
  | .pwrOppCtlWrite a v => Sys2Proof.Machine.execPwrOppCtlWrite a v s
  | .tLatTolWrite t a v => Sys2Proof.Machine.execTLatTolWrite t a v s
  | .pwrLatFloorWrite a v => Sys2Proof.Machine.execPwrLatFloorWrite a v s
  | .fltPop a v => Sys2Proof.Machine.execFltPop a v s
  | .fltUnfenceWorkers a v pass => Sys2Proof.Machine.execFltUnfenceWorkers a v pass s
  | .fltUnfenceCores a v pass => Sys2Proof.Machine.execFltUnfenceCores a v pass s
  | .svcCtlWrite a v => Sys2Proof.Machine.execSvcCtlWrite a v s
  | .selftestMbistStart a v => Sys2Proof.Machine.execSelftestMbistStart a v s
  | .selftestLoopbackStart a v => Sys2Proof.Machine.execSelftestLoopbackStart a v s
  | .registerWrite f off a v => Sys2Proof.Machine.execRegisterWrite f off a v s
  | .gblTimeStatusRead r => Sys2Proof.Machine.execGblTimeStatusRead r s
  | .schMfStatusRead r => Sys2Proof.Machine.execSchMfStatusRead r s
  | .schAdmitFailsRead r => Sys2Proof.Machine.execSchAdmitFailsRead r s
  | .schRedispatchRead r => Sys2Proof.Machine.execSchRedispatchRead r s
  | .schWheelRead r => Sys2Proof.Machine.execSchWheelRead r s
  | .trcStatusRead r => Sys2Proof.Machine.execTrcStatusRead r s
  | .slcCountRead p r => Sys2Proof.Machine.execSlcCountRead p r s
  | .nrgStatusRead r => Sys2Proof.Machine.execNrgStatusRead r s
  | .sealFailsRead r => Sys2Proof.Machine.execSealFailsRead r s
  | .tenStateRead t r => Sys2Proof.Machine.execTenStateRead t r s
  | .pwrOppStatusRead r => Sys2Proof.Machine.execPwrOppStatusRead r s
  | .pwrRetStatusRead r => Sys2Proof.Machine.execPwrRetStatusRead r s
  | .peatStatsRead r => Sys2Proof.Machine.execPeatStatsRead r s
  | .fltStatusRead r => Sys2Proof.Machine.execFltStatusRead r s
  | .fltClassCountRead n r => Sys2Proof.Machine.execFltClassCountRead n r s
  | .fltEccRead n r => Sys2Proof.Machine.execFltEccRead n r s
  | .svcCountRead r => Sys2Proof.Machine.execSvcCountRead r s
  | .noop f k => Sys2Proof.Machine.execNoop f k s
  | .openEp t k cfg => Sys2Proof.Machine.execOpenEp t k cfg s
  | .closeEp t k => Sys2Proof.Machine.execCloseEp t k s
  | .resetEp t k => Sys2Proof.Machine.execResetEp t k s
  | .setDequeue t k => Sys2Proof.Machine.execSetDequeue t k s
  | .portReset t k => Sys2Proof.Machine.execPortReset t k s
  | .portSuspend t k => Sys2Proof.Machine.execPortSuspend t k s
  | .portResume t k => Sys2Proof.Machine.execPortResume t k s
  | .sealPipe t k => Sys2Proof.Machine.execSealPipe t k s
  | .unsealPipe t k => Sys2Proof.Machine.execUnsealPipe t k s
  | .nextCount t k => Sys2Proof.Machine.execNextCount t k s
  | .attest t k => Sys2Proof.Machine.execAttest t k s
  | .setGroup t k => Sys2Proof.Machine.execSetGroup t k s
  | .tenEnable k => Sys2Proof.Machine.execTenEnable k s
  | .tenQuiesce k => Sys2Proof.Machine.execTenQuiesce k s
  | .tenReset k => Sys2Proof.Machine.execTenReset k s
  | .tenRelease k => Sys2Proof.Machine.execTenRelease k s
  | .setShare k => Sys2Proof.Machine.execSetShare k s
  | .grant k => Sys2Proof.Machine.execGrant k s
  | .revoke k => Sys2Proof.Machine.execRevoke k s
  | .sluiceStage k buf => Sys2Proof.Machine.execSluiceStage k buf s
  | .sluiceCommit k => Sys2Proof.Machine.execSluiceCommit k s
  | .sluiceCancel k => Sys2Proof.Machine.execSluiceCancel k s
  | .imageWrite k data flash => Sys2Proof.Machine.execImageWrite k data flash s
  | .sealClearQuarantine k => Sys2Proof.Machine.execSealClearQuarantine k s
  | .peatExport k => Sys2Proof.Machine.execPeatExport k s
  | .provisionClaim k hash readBack => Sys2Proof.Machine.execProvisionClaim k hash readBack s
  | .traceStart k => Sys2Proof.Machine.execTraceStart k s
  | .traceStop k => Sys2Proof.Machine.execTraceStop k s
  | .traceClear k => Sys2Proof.Machine.execTraceClear k s
  | .dispatch => Sys2Proof.Machine.execDispatch s
  | .fetch u r => Sys2Proof.Machine.execFetch u r s
  | .check u => Sys2Proof.Machine.execCheck u s
  | .move u readOk => Sys2Proof.Machine.execMove u readOk s
  | .seal e => Sys2Proof.Machine.execSeal e s
  | .unseal u epoch seq cipher tag => Sys2Proof.Machine.execUnseal u epoch seq cipher tag s
  | .issue u o => Sys2Proof.Machine.execIssue u o s
  | .retire e => Sys2Proof.Machine.execRetire e s
  | .u1U2Enable d u1 u2 => Sys2Proof.Machine.execU1U2Enable d u1 u2 s
  | .notify u => Sys2Proof.Machine.execNotify u s
  | .release f => Sys2Proof.Machine.execRelease f s
  | .transferTimeout t h => Sys2Proof.Machine.execTransferTimeout t h s
  | .frameTrim u => Sys2Proof.Machine.execFrameTrim u s
  | .traceSpill u => Sys2Proof.Machine.execTraceSpill u s
  | .microframeBoundary => Sys2Proof.Machine.execMicroframeBoundary s
  | .wheelTick => Sys2Proof.Machine.execWheelTick s
  | .policingTick => Sys2Proof.Machine.execPolicingTick s
  | .energyTick => Sys2Proof.Machine.execEnergyTick s
  | .gateEdge p => Sys2Proof.Machine.execGateEdge p s
  | .sluiceSwitchover p => Sys2Proof.Machine.execSluiceSwitchover p s
  | .portPowerStep => Sys2Proof.Machine.execPortPowerStep s
  | .enumerateStart p found => Sys2Proof.Machine.execEnumerateStart p found s
  | .connect d sp => Sys2Proof.Machine.execConnect d sp s
  | .debounceEnd d => Sys2Proof.Machine.execDebounceEnd d s
  | .enumResetEnd e => Sys2Proof.Machine.execEnumResetEnd e s
  | .resetRecoveryEnd d => Sys2Proof.Machine.execResetRecoveryEnd d s
  | .enumRequestDone d r => Sys2Proof.Machine.execEnumRequestDone d r s
  | .hubPowerWaitEnd d connected => Sys2Proof.Machine.execHubPowerWaitEnd d connected s
  | .hubPoll d => Sys2Proof.Machine.execHubPoll d s
  | .hubPollDone d ch => Sys2Proof.Machine.execHubPollDone d ch s
  | .disconnect d => Sys2Proof.Machine.execDisconnect d s
  | .remoteWake d => Sys2Proof.Machine.execRemoteWake d s
  | .functionWake d => Sys2Proof.Machine.execFunctionWake d s
  | .resumeSignallingEnd d => Sys2Proof.Machine.execResumeSignallingEnd d s
  | .resumeRecoveryEnd e => Sys2Proof.Machine.execResumeRecoveryEnd e s
  | .portResetEnd d ok => Sys2Proof.Machine.execPortResetEnd d ok s
  | .clearTtBuffer t h r => Sys2Proof.Machine.execClearTtBuffer t h r s
  | .lpmEntry d idleUs => Sys2Proof.Machine.execLpmEntry d idleUs s
  | .rootPortSelectiveSuspend p => Sys2Proof.Machine.execRootPortSelectiveSuspend p s
  | .portPhyFault n => Sys2Proof.Machine.execPortPhyFault n s
  | .phyRestart n => Sys2Proof.Machine.execPhyRestart n s
  | .hello t h r m => Sys2Proof.Machine.execHello t h r m s
  | .keyShare t h r => Sys2Proof.Machine.execKeyShare t h r s
  | .confirm t h r message => Sys2Proof.Machine.execConfirm t h r message s
  | .finish t h r => Sys2Proof.Machine.execFinish t h r s
  | .teardown d r => Sys2Proof.Machine.execTeardown d r s
  | .rekey t h r => Sys2Proof.Machine.execRekey t h r s
  | .rekeyDeadline t h => Sys2Proof.Machine.execRekeyDeadline t h s
  | .sourceLevelRise x => Sys2Proof.Machine.execSourceLevelRise x s
  | .sourceLevelFall x => Sys2Proof.Machine.execSourceLevelFall x s
  | .coreClaim c => Sys2Proof.Machine.execCoreClaim c s
  | .coreEoi c => Sys2Proof.Machine.execCoreEoi c s
  | .lpEntry => Sys2Proof.Machine.execLpEntry s
  | .aspmL1Entry => Sys2Proof.Machine.execAspmL1Entry s
  | .keeperSave => Sys2Proof.Machine.execKeeperSave s
  | .wakeSource w p => Sys2Proof.Machine.execWakeSource w p s
  | .keeperRestore ticks => Sys2Proof.Machine.execKeeperRestore ticks s
  | .wakeTimer => Sys2Proof.Machine.execWakeTimer s
  | .retentionScrub b corrected lost => Sys2Proof.Machine.execRetentionScrub b corrected lost s
  | .islandClockGate n => Sys2Proof.Machine.execIslandClockGate n s
  | .islandRetention n => Sys2Proof.Machine.execIslandRetention n s
  | .islandWake n h => Sys2Proof.Machine.execIslandWake n h s
  | .islandReady n => Sys2Proof.Machine.execIslandReady n s
  | .oppAutoWindow windowUs => Sys2Proof.Machine.execOppAutoWindow windowUs s
  | .oppChange => Sys2Proof.Machine.execOppChange s
  | .vcorePgGood => Sys2Proof.Machine.execVcorePgGood s
  | .vcoreSettleEnd => Sys2Proof.Machine.execVcoreSettleEnd s
  | .pllRelock => Sys2Proof.Machine.execPllRelock s
  | .oppFault => Sys2Proof.Machine.execOppFault s
  | .recordCommit r => Sys2Proof.Machine.execRecordCommit r s
  | .checkpointTimer => Sys2Proof.Machine.execCheckpointTimer s
  | .logFlushTimer => Sys2Proof.Machine.execLogFlushTimer s
  | .flashNoAnswer => Sys2Proof.Machine.execFlashNoAnswer s
  | .peatFormat ok fuseOk => Sys2Proof.Machine.execPeatFormat ok fuseOk s
  | .quiesceDrainEnd t => Sys2Proof.Machine.execQuiesceDrainEnd t s
  | .fenceDrainEnd t => Sys2Proof.Machine.execFenceDrainEnd t s
  | .uncorrectableError b off => Sys2Proof.Machine.execUncorrectableError b off s
  | .memoryScrub b corrected => Sys2Proof.Machine.execMemoryScrub b corrected s
  | .workerHang w => Sys2Proof.Machine.execWorkerHang w s
  | .clockLoss n pll => Sys2Proof.Machine.execClockLoss n pll s
  | .islandRestartDone n => Sys2Proof.Machine.execIslandRestartDone n s
  | .lodeParityFail => Sys2Proof.Machine.execLodeParityFail s
  | .coreHang c => Sys2Proof.Machine.execCoreHang c s
  | .peatMount cs0 cs1 m scanUs => Sys2Proof.Machine.execPeatMount cs0 cs1 m scanUs s
  | .imageSelect r cut => Sys2Proof.Machine.execImageSelect r cut s
  | .tableBuild lockUs => Sys2Proof.Machine.execTableBuild lockUs s
  | .portPower => Sys2Proof.Machine.execPortPower s
  | .enumerate p => Sys2Proof.Machine.execEnumerate p s
  | .wake => Sys2Proof.Machine.execWake s
  | .leaseCommit t c => Sys2Proof.Machine.execLeaseCommit t c s
  | .logWrite => Sys2Proof.Machine.execLogWrite s
  | .compactStep => Sys2Proof.Machine.execCompactStep s
  | .faultRecover pass => Sys2Proof.Machine.execFaultRecover pass s
  | .sealArith a => Sys2Proof.Machine.execSealArith a s
  | .selfTestMbist fails => Sys2Proof.Machine.execSelfTestMbist fails s
  | .selfTestLoopback workers ports seals lodes => Sys2Proof.Machine.execSelfTestLoopback workers ports seals lodes s
  | .svcAttach highSpeed => Sys2Proof.Machine.execSvcAttach highSpeed s
  | .svcDetach => Sys2Proof.Machine.execSvcDetach s
  | .svcBusReset midXfer highSpeed => Sys2Proof.Machine.execSvcBusReset midXfer highSpeed s
  | .svcSuspend => Sys2Proof.Machine.execSvcSuspend s
  | .svcResume => Sys2Proof.Machine.execSvcResume s
  | .svcRemoteWake => Sys2Proof.Machine.execSvcRemoteWake s
  | .svcStandardRequest x => Sys2Proof.Machine.execSvcStandardRequest x s
  | .getIdentity x => Sys2Proof.Machine.execGetIdentity x s
  | .getAttestation x nonce => Sys2Proof.Machine.execGetAttestation x nonce s
  | .getResidency x => Sys2Proof.Machine.execGetResidency x s
  | .authChallenge x => Sys2Proof.Machine.execAuthChallenge x s
  | .authResponse x sig => Sys2Proof.Machine.execAuthResponse x sig s
  | .authVerifyDone => Sys2Proof.Machine.execAuthVerifyDone s
  | .authLockoutEnd => Sys2Proof.Machine.execAuthLockoutEnd s
  | .getLog x => Sys2Proof.Machine.execGetLog x s
  | .getTrace x => Sys2Proof.Machine.execGetTrace x s
  | .setLogCursor x index => Sys2Proof.Machine.execSetLogCursor x index s
  | .svcEp2InAck => Sys2Proof.Machine.execSvcEp2InAck s
  | .svcEp1Ack => Sys2Proof.Machine.execSvcEp1Ack s
  | .svcEp2OutData data => Sys2Proof.Machine.execSvcEp2OutData data s
  | .extest => Sys2Proof.Machine.execExtest s
  | .idcode => Sys2Proof.Machine.execIdcode s
  | .samplePreload preload => Sys2Proof.Machine.execSamplePreload preload s
  | .clamp => Sys2Proof.Machine.execClamp s
  | .highz => Sys2Proof.Machine.execHighz s
  | .extestPulse => Sys2Proof.Machine.execExtestPulse s
  | .extestTrain => Sys2Proof.Machine.execExtestTrain s
  | .bypass => Sys2Proof.Machine.execBypass s
  | .tapReset porLow => Sys2Proof.Machine.execTapReset porLow s
  | .svcVbusChange valid => Sys2Proof.Machine.execSvcVbusChange valid s
  | .pocNDeassert p => Sys2Proof.Machine.execPocNDeassert p s
  | .xtal32Running => Sys2Proof.Machine.execXtal32Running s
  | .l1PmSubstateEntry l12 => Sys2Proof.Machine.execL1PmSubstateEntry l12 s
  | .linkInactivityTimeout d u2 => Sys2Proof.Machine.execLinkInactivityTimeout d u2 s
  | .flashEraseDone ok => Sys2Proof.Machine.execFlashEraseDone ok s

end Sys2Proof.Machine
end

