-- ==== Sys2Proof/Machine/Idle.lean ====
section
/-! DEFINITION. What passes while no command waits: time (notes/assumptions/2.md). -/

namespace Sys2Proof.Machine

/-- One 4 ns tick of the Keeper timebase and of AON's clock (04 R97). Reset, and the sleep that saved Keeper time for LP3, stop
both; AON's count of the sleep is added when Keeper time is restored. AUTO counts the ticks of the workers' current slots (13 R337). -/
def State.idle (s : State) : State :=
  if s.pins.porN && s.power.saved.isNone then
    let up := s.sched.workers.toList.filter (fun w => !w.fenced)
    { s with time := s.time.tick,
             power := { s.power with clock := s.power.clock + 4, slots := s.power.slots + up.length,
                                     busy := s.power.busy + (up.filter (fun w => w.cur.isSome)).length } }
  else s

end Sys2Proof.Machine
end

