-- ==== Sys2Proof/Certificates/Slice0/Obligations.lean ====
section
/-! DEFINITION. The statements for the provers, and the helpers that they are made of. -/

namespace Sys2Proof.Machine

/-- Every island runs: no request is held in front of one (01 R17). -/
abbrev Awake (s : State) : Prop := ∀ i ∈ allIslands, s.running i = true

/-- Every island runs and the controller is in LP0, neither on its way into nor out of a low-power state (13 R325). -/
abbrev AtWork (s : State) : Prop := Awake s ∧ s.power.lp = .lp0 ∧ s.power.entering = false ∧ s.power.exiting = false

/-- A request through the function reaches its registers: no island holds it, it is not Unsupported Request, and the function is not a
FENCED tenant's VF (01 R17, 04 R90). -/
abbrev Reaches (f : Fn) (s : State) : Prop := Awake s ∧ s.unsupported f = false ∧ s.fencedFn f = false

/-- The unit's slot holds an operation of a graph's node that has started, and its report goes through (01 R9, R17, 08 R217). -/
abbrev Works (s : State) (u : UnitId) (o : Op) (n : Node) : Prop :=
  Awake s ∧ s.opAt u = some o ∧ o.node = n ∧ o.item = none ∧ o.kind = .graph ∧ o.stale = false

/-- The worker's next slot has moved up: its operation starts now, or finds that a flag of its mask has cleared (01 R9, 08 R217). -/
abbrev Promoted (s x : State) (w : WorkerId) : Prop :=
  (vget x.sched.workers w).next = none ∧
  (((vget s.sched.workers w).next = none ∧ (vget x.sched.workers w).cur = none) ∨
   ∃ o, (vget s.sched.workers w).next = some o ∧
    ((vget x.sched.workers w).cur = some { o with start := s.time.now } ∨
     (vget x.sched.workers w).cur = some { o with start := s.time.now, stale := true }))

/-- The node that waited on a delay is in a worker's slot and has started, and its report goes through (08 R226). -/
abbrev Due (s : State) (d : DelayFor) (w : WorkerId) (o : Op) : Prop :=
  Awake s ∧ s.delayUnit d = some (.worker w) ∧ o.node = .check ∧ o.item = none ∧ o.kind = .delay ∧ o.stale = false ∧
  (vget s.sched.workers w).cur = some o ∧ 16641 ≤ o.task ∧ ∀ g ∈ s.flows, g.entry < 16384

/-- The request of a device that a predicate picks has ended well on its bus (07 R200). -/
abbrev Answered (s : State) (d : DevId) (p : UsbReq → Bool) (q : Req) : Prop := s.reqOf d p = some q ∧ q.stage = 3 ∧ q.failed = false

/-- A request is given up. -/
def Without (s : State) (q : Req) : State := { s with sched := { s.sched with reqs := s.sched.reqs.erase q } }

/-- An island that is ready: it runs, nothing is held in front of it, and its ports, pads and link are its own again (01 R17, R21, 13 Table
13.6). -/
def Risen (s : State) (i : Island) : State :=
  let s := s.handOff i
  let s : State := if i = .nvm then { s with pins := { s.pins with xspiHeld := false } } else s
  let s := if i = .hostlink then s.linkBack else s
  (s.moveIsland i .running).modIsland i (fun x => { x with held := [] })

/-- A reset of a port. -/
def resetReq : UsbReq → Bool
  | .portReset _ => true
  | _ => false

/-- What an access leaves that changes nothing but ACCESS_ERR. -/
def Refused (f : Fn) (s : State) : State := ((s.dropLatch f).accessErr f).answer .ok

/-- An order of a code at a ring index has passed CHECK, and no earlier order that names the same object still runs (05 R130). -/
abbrev OrderReady (s : State) (f : Fn) (k code : Nat) (o : Order) : Prop :=
  s.order? f k = some o ∧ o.code = code ∧ o.stage = .acting ∧ s.orderFree f o = true ∧ o.ghost = false

/-- The order's action has ended: its RETIRE is ready, and its ORDER_DONE carries this STATUS, TARGET and DETAIL (05 R128). -/
def Ended (x : State) (f : Fn) (k : Nat) (o : Order) (st : Status) (target detail : Nat) : Prop :=
  x.order? f k = some { o with stage := .ended, ev := o.doneEv st target 0 detail }

/-- The order waits for what its row started. -/
def Waits (x : State) (f : Fn) (k : Nat) (o : Order) : Prop := x.order? f k = some { o with stage := .waiting }

/-- The ring, code and ring index of an order's row. -/
def orderRow : Instr → Option (Fn × Nat × Nat)
  | .noop f k => some (f, 0, k)
  | .openEp t k _ => some (.vf t, 1, k)
  | .closeEp t k => some (.vf t, 2, k)
  | .resetEp t k => some (.vf t, 3, k)
  | .setDequeue t k => some (.vf t, 4, k)
  | .portReset t k => some (.vf t, 5, k)
  | .portSuspend t k => some (.vf t, 6, k)
  | .portResume t k => some (.vf t, 7, k)
  | .sealPipe t k => some (.vf t, 8, k)
  | .unsealPipe t k => some (.vf t, 9, k)
  | .nextCount t k => some (.vf t, 10, k)
  | .attest t k => some (.vf t, 11, k)
  | .setGroup t k => some (.vf t, 12, k)
  | .tenEnable k => some (.pf0, 0x40, k)
  | .tenQuiesce k => some (.pf0, 0x41, k)
  | .tenReset k => some (.pf0, 0x42, k)
  | .tenRelease k => some (.pf0, 0x43, k)
  | .setShare k => some (.pf0, 0x44, k)
  | .grant k => some (.pf0, 0x45, k)
  | .revoke k => some (.pf0, 0x46, k)
  | .sluiceStage k _ => some (.pf0, 0x47, k)
  | .sluiceCommit k => some (.pf0, 0x48, k)
  | .sluiceCancel k => some (.pf0, 0x48, k)
  | .imageWrite k _ _ => some (.pf0, 0x49, k)
  | .sealClearQuarantine k => some (.pf0, 0x4A, k)
  | .peatExport k => some (.pf0, 0x4B, k)
  | .provisionClaim k _ _ => some (.pf0, 0x4C, k)
  | .traceStart k => some (.pf0, 0x4D, k)
  | .traceStop k => some (.pf0, 0x4D, k)
  | .traceClear k => some (.pf0, 0x4D, k)
  | _ => none

/-- The item that an item's row runs, with its operand number. -/
def itemRow : Instr → Option (ItemCode × Nat)
  | .peatMount .. => some (.peatMount, 0)
  | .imageSelect _ none => some (.imageSelect, 0)
  | .tableBuild _ => some (.tableBuild, 0)
  | .portPower => some (.portPower, 0)
  | .wake => some (.wake, 0)
  | .leaseCommit t c => some (.leaseCommit, 4 * t.val + c.val)
  | .logWrite => some (.logWrite, 0)
  | .compactStep => some (.compactStep, 0)
  | .faultRecover _ => some (.faultRecover, 0)
  | .sealArith a => some (.sealArith, a.arg)
  | .selfTestMbist _ => some (.selfTestMbist, 0)
  | .selfTestLoopback .. => some (.selfTestLoopback, 0)
  | _ => none

/-- The setup packet and bRequest of a vendor request's row (Table 16.2). -/
def svcRow : Instr → Option (Setup × Nat)
  | .getIdentity x => some (x, 1)
  | .getAttestation x _ => some (x, 2)
  | .getResidency x => some (x, 3)
  | .authChallenge x => some (x, 0x10)
  | .authResponse x _ => some (x, 0x11)
  | .getLog x => some (x, 0x20)
  | .getTrace x => some (x, 0x21)
  | .setLogCursor x _ => some (x, 0x22)
  | _ => none

/-- The TAP instruction of a row (Table 16.4). -/
def tapRow : Instr → Option TapInstr
  | .extest => some .extest
  | .idcode => some .idcode
  | .samplePreload _ => some .samplePreload
  | .clamp => some .clamp
  | .highz => some .highz
  | .extestPulse => some .extestPulse
  | .extestTrain => some .extestTrain
  | .bypass => some .bypass
  | _ => none

/-- A TAP instruction that takes the pins, in custody: the pins stay taken, and the host link stays down (16 R412, R414). -/
def InTest (s : State) (i : TapInstr) : State :=
  { s with
    tap := { s.tap with ir := i.code, pinsTaken := true, hiZ := decide (i = .highz) }, link := .down,
    out := .tdo (scanOut (1 : BitVec 5)) :: s.out }

/-- A TAP instruction that takes the pins has begun test custody: schedulers in mode ITEM, Peat ended, the service port detached, the
wrap key zeroised and, in a controller at work, every ENABLED tenant fenced (16 R414). -/
abbrev CustodyBegun (s : State) (i : TapInstr) (x : State) : Prop :=
  x.tap.custody = true ∧ x.tap.ir = i.code ∧ x.tap.pinsTaken = true ∧ x.tap.hiZ = decide (i = .highz) ∧
  x.tap.boundary = s.tap.boundary ∧ x.sched.data = .item ∧ x.sched.mgmt = .item ∧ x.peat.state = .absent ∧ x.peat.reason = .custody ∧
  x.svc.attached = false ∧ x.seals.wrapKey = 0 ∧ x.peat.sectors = s.peat.sectors ∧ x.fuses = s.fuses ∧
  (AtWork s → ∀ t, (s.tenant t).st = .active ∨ (s.tenant t).st = .standby ∨ (s.tenant t).st = .quiesced ∨ (s.tenant t).st = .quiescing →
    (x.tenant t).st = .fenced)

/-- Parts of the state that a frame names. -/
inductive Part where
  | fuses | tap | selfTest | image | time | frames | flows | devs
  deriving DecidableEq, Repr

/-- A part is the same in two states. -/
def Part.same (p : Part) (s x : State) : Prop :=
  match p with
  | .fuses => x.fuses = s.fuses
  | .tap => x.tap = s.tap
  | .selfTest => x.self = s.self
  | .image => x.img = s.img
  | .time => x.time = s.time
  | .frames => x.frames = s.frames
  | .flows => x.flows = s.flows
  | .devs => x.devs = s.devs

/-- The parts that a command may change: one-time fuses, TAP and custody, self-test, image and start-up, Keeper time, the frame calendar,
open endpoints with their transfers, and known devices. -/
def changedParts : Instr → List Part
  | .provisionClaim .. => [.fuses]
  | .tapReset .. => [.tap]
  | .selftestMbistStart .. | .selftestLoopbackStart .. | .selfTestLoopback .. => [.selfTest]
  | .imageWrite .. | .portPower => [.image]
  | .ptmDialogue | .ptmResponse .. | .ptmDialogueFail | .disciplineHoldover | .gblTimeStep .. | .gblTimeStatusRead .. => [.time]
  | .schMfStatusRead .. | .schAdmitFailsRead .. | .frameTrim .. => [.frames]
  | .vfFlr .. | .configRequest .. | .msixControlWrite .. | .dmaCompletionTimeout .. | .tEpDb .. | .resetEp .. | .setDequeue ..
    | .sealPipe .. | .unsealPipe .. | .setGroup .. | .tenReset .. | .dispatch | .fetch .. | .check .. | .move .. | .seal ..
    | .unseal .. | .transferTimeout .. | .sluiceSwitchover .. | .hello .. | .keyShare .. | .confirm .. | .finish .. | .rekey ..
    | .rekeyDeadline .. | .recordCommit .. | .flashNoAnswer | .fenceDrainEnd .. | .workerHang .. | .sealArith .. => [.flows]
  | .ocRetryCountClear .. | .portSuspend .. | .portResume .. | .grant .. | .u1U2Enable .. | .enumerateStart .. | .debounceEnd ..
    | .resetRecoveryEnd .. | .hubPowerWaitEnd .. | .resumeSignallingEnd .. | .rootPortSelectiveSuspend ..
    | .linkInactivityTimeout .. => [.devs]
  | .peatMount .. | .imageSelect .. => [.fuses, .image]
  | .peatFormat .. => [.fuses, .flows]
  | .perstNAssert | .pwrfailNFall .. | .overCurrentTrip .. | .ocRetry .. | .thermalSample .. | .ocClear .. | .powerOff ..
    | .pwrPadRelease .. | .tLatTolWrite .. | .pwrLatFloorWrite .. | .closeEp .. | .portReset .. | .tenQuiesce ..
    | .tenRelease .. | .revoke .. | .issue .. | .retire .. | .release .. | .connect .. | .enumResetEnd .. | .enumRequestDone ..
    | .hubPollDone .. | .disconnect .. | .remoteWake .. | .functionWake .. | .resumeRecoveryEnd .. | .portResetEnd ..
    | .portPhyFault .. | .lpEntry | .wakeSource .. | .wakeTimer | .retentionScrub .. | .uncorrectableError .. | .clockLoss ..
    | .lodeParityFail | .wake | .svcBusReset .. | .svcResume | .svcVbusChange .. => [.flows, .devs]
  | .tamperAssert .. => [.fuses, .flows, .devs]
  | .porNRelease .. => [.tap, .selfTest, .image]
  | .extest | .idcode | .samplePreload .. | .clamp | .highz | .extestPulse | .extestTrain | .bypass => [.tap, .flows, .devs]
  | .selfTestMbist .. => [.selfTest, .flows, .devs]
  | .tableBuild .. => [.image, .time, .frames]
  | .portPowerStep => [.image, .flows, .devs]
  | .microframeBoundary => [.time, .frames, .flows]
  | .ppsInEdge .. => [.time, .flows, .devs]
  | .openEp .. => [.frames, .flows, .devs]
  | .keeperRestore .. => [.time, .frames, .flows, .devs]
  | .registerWrite .. | .islandWake .. | .islandReady .. | .islandRestartDone .. => [.selfTest, .image, .time, .frames, .flows, .devs]
  | .fullReset .. | .watchdogReset => [.tap, .selfTest, .image, .time, .frames, .flows, .devs]
  | _ => []

/-- One fuse state can follow another: fuses are blown once (03 R66, R70; 14 R356). -/
abbrev FusesOnlyGrow (r f : Fuses) : Prop :=
  r.svn ≤ f.svn ∧ r.epoch ≤ f.epoch ∧ (r.revoked = true → f.revoked = true) ∧ (r.ownerHash ≠ 0 → f.ownerHash = r.ownerHash)

/-- The fuses follow an earlier state of theirs and stay in range, and the boundary register has its 412 cells. -/
abbrev Permanent (r : Fuses) (s : State) : Prop :=
  FusesOnlyGrow r s.fuses ∧ s.fuses.svn ≤ 63 ∧ s.fuses.epoch ≤ 255 ∧ s.tap.boundary.length = 412

/-- Offset and reset value of the PF0 registers that do not reset to 0; of an array its first and last register. -/
def pfResets : List (Nat × Nat) :=
  [(0xB0010, 0xD), (0xB0018, 0xD), (0xB0058, 0x1), (0x0, 0x10102561E9D), (0x8, 0x100), (0x208, 0x4), (0x220, 0x6), (0x40120, 0x64),
   (0x20000, 0x15), (0x20388, 0x1000), (0x30000, 0x2710), (0x30100, 0xFF00), (0x30178, 0xFF00), (0x31000, 0x1), (0x100A0, 0x4000),
   (0x1FFA0, 0x4000), (0x60608, 0xFFFF), (0x50000, 0x80000), (0x50008, 0xFFFFFFFF), (0x50010, 0x100FFFFFFFF),
   (0x50018, 0xFFFFFFFFFFFFFFFF), (0x50020, 0x3), (0x50028, 0x100), (0x50038, 0xF0000), (0x70000, 0x33), (0xA0000, 0x1)]

/-- The same of a VF. -/
def vfResets : List (Nat × Nat) :=
  [(0x8, 0x10), (0x108, 0x4), (0x120, 0x6), (0x1108, 0xFFFF), (0x208, 0x30000)]

/-- Offsets of the PF0 registers that reset to 0. -/
def pfZeros : List Nat :=
  [0xB0000, 0xB0008, 0xB0020, 0xB0028, 0xB0030, 0xB0048, 0xB0050, 0xB0060, 0x10, 0x200, 0x210, 0x218, 0x228, 0x230, 0x100, 0x108,
   0x110, 0x118, 0x120, 0x128, 0x40000, 0x40078, 0x40080, 0x400F8, 0x40100, 0x40118, 0x40200, 0x40278, 0x40300, 0x40308, 0x40310,
   0x20F00, 0x20F08, 0x20F10, 0x20F18, 0x20F20, 0x20F40, 0x20FB8, 0x20008, 0x20010, 0x20018, 0x20040, 0x20078, 0x20200, 0x20218,
   0x20300, 0x20308, 0x20310, 0x20380, 0x21000, 0x21008, 0x21020, 0x21028, 0x21030, 0x21038, 0x21040, 0x21048, 0x21050, 0x30008,
   0x30180, 0x301F8, 0x30200, 0x30278, 0x30280, 0x302F8, 0x30300, 0x30378, 0x30400, 0x30408, 0x31008, 0x31010, 0x31018, 0x32000,
   0x32008, 0x32010, 0x32018, 0x32020, 0x32040, 0x32048, 0x32050, 0x320B8, 0x320C0, 0x320C8, 0x90000, 0x90008, 0x90010, 0x90018,
   0x91000, 0x91008, 0x91010, 0x91048, 0x92000, 0x93FF8, 0x10000, 0x1FF00, 0x10008, 0x10508, 0x10038, 0x10538, 0x10068, 0x10568,
   0x10098, 0x1FF98, 0x60000, 0x602F8, 0x60400, 0x605F8, 0x60600, 0x60610, 0x60800, 0x60818, 0x50030, 0x50040, 0x50048, 0x50100,
   0x50118, 0x50120, 0x50138, 0x50140, 0x501A8, 0x70008, 0x70010, 0x70018, 0x70020, 0x70028, 0x70030, 0x70038, 0x70040, 0x70048,
   0x70050, 0x80000, 0x80008, 0x80020, 0x80028, 0x80040, 0x80080, 0x80100, 0x801A0, 0x80200, 0xA0008, 0xA0010, 0xA0018, 0xA0020,
   0xA0100, 0xA0108, 0xA0110]

/-- The same of a VF. -/
def vfZeros : List Nat :=
  [0x18, 0x10, 0x100, 0x110, 0x118, 0x128, 0x130, 0x2000, 0x3FF8, 0x4000, 0x47E0, 0x4008, 0x47E8, 0x4010, 0x47F0, 0x1000, 0x10F8,
   0x1100, 0x1110, 0x200]

end Sys2Proof.Machine

open Sys2Proof Sys2Proof.Machine

/-- The command at the front of the queue acts with the queue's rest. -/
def Obligations.StepRunsFrontCommand : Prop :=
  ∀ (c : Instr) (l : List Instr) (s : State), s.pending = c :: l → step s = exec c { s with pending := l }

/-- On an empty queue 4 ns pass, in Keeper time, in AON's clock and in the counts of AUTO's window, unless reset or the sleep
that saved Keeper time stop the clocks (log 2). -/
def Obligations.EmptyQueueLetsTimePass : Prop :=
  ∀ s : State, s.pending = [] →
    (s.pins.porN = true → s.power.saved = none → ∃ x, step s = .next x ∧ x.time = s.time.tick ∧
      x.power = { s.power with clock := s.power.clock + 4, slots := x.power.slots, busy := x.power.busy } ∧
      s.power.slots ≤ x.power.slots ∧ x.power.busy - s.power.busy ≤ x.power.slots - s.power.slots ∧
      x.sched = s.sched ∧ x.flows = s.flows ∧ x.devs = s.devs ∧ x.pending = []) ∧
    (s.pins.porN = false → step s = .next s) ∧ (s.power.saved ≠ none → step s = .next s)

/-- R88, R91, R136: what a register write does, by size and alignment, kind of register and RSV bits; one whose way is blocked
by an island that does not run is held there, and does nothing yet. -/
def Obligations.RegisterWriteOutcomes : Prop :=
  ∀ (f : Fn) (off : Nat) (v : Word) (s : State),
    let r := s.regAt f (off / 8 * 8)
    let done := (s.dropLatch f).answer .ok
    (Reaches f s →
      (r.kind = .silent → ∀ a, exec (.registerWrite f off a v) s = .next done) ∧
      (r.kind ≠ .silent → exec (.registerWrite f off .other v) s = .next (Refused f s)) ∧
      (r.kind ≠ .silent → off % 8 ≠ 0 → ∀ a, exec (.registerWrite f off a v) s = .next (Refused f s)) ∧
      (r.kind = .side → exec (.registerWrite f off .low v) s = .next (Refused f s) ∧
        exec (.registerWrite f off .high v) s = .next (Refused f s)) ∧
      (r.kind = .window → ∀ a, exec (.registerWrite f off a v) s = .next (Refused f s)) ∧
      (off % 8 = 0 → r.kind = .plain ∨ r.kind = .side → v &&& masks r.rsv = 0 →
        exec (.registerWrite f off .full v) s = .next ((r.eff v (s.dropLatch f)).answer .ok)) ∧
      (off % 8 = 0 → r.kind = .plain ∨ r.kind = .side → v &&& masks r.rsv ≠ 0 →
        exec (.registerWrite f off .full v) s = .next (((r.eff v (s.dropLatch f)).accessErr f).answer .ok)) ∧
      (off % 8 = 0 → r.kind = .plain → mergeHalf .low r.val v &&& masks r.rsv = 0 →
        exec (.registerWrite f off .low v) s = .next ((r.eff (mergeHalf .low r.val v) (s.dropLatch f)).answer .ok))) ∧
    (Awake s → s.unsupported f = true → ∀ a, exec (.registerWrite f off a v) s = .next (s.answer .ur)) ∧
    (Awake s → s.unsupported f = false → s.fencedFn f = true → ∀ a, exec (.registerWrite f off a v) s = .next done) ∧
    (∀ src i a, off % 8 = 0 → s.blocked .hostlink (s.wayTo f off) = some (src, i) → ∃ x,
      exec (.registerWrite f off a v) s = .next x ∧ (x.island i).held = (s.island i).held ++ [{ src := src, req := .access (.write f off a v) }] ∧
      x.resp = none ∧ x.tenants = s.tenants ∧ x.mgr = s.mgr ∧ x.flows = s.flows ∧ x.img = s.img)

/-- R95, R104: RING_EN takes bit 0, and what a ring holds beside its waiting events stays. -/
def Obligations.RingEnableWrites : Prop :=
  ∀ (v : Word) (s : State), v &&& bits 63 1 = 0 →
    (Reaches .pf0 s → ∃ r : Rings, exec (.gblCtlWrite .full v) s =
        .next ({ s.dropLatch .pf0 with mgr := r }.answer .ok) ∧ r.en = v.getLsbD 0 ∧
        r.orders = s.mgr.orders ∧ r.orderBase = s.mgr.orderBase ∧ r.orderLog2 = s.mgr.orderLog2 ∧ r.prod = s.mgr.prod ∧
        r.cons = s.mgr.cons ∧ r.eventBase = s.mgr.eventBase ∧ r.eventLog2 = s.mgr.eventLog2 ∧ r.pi = s.mgr.pi ∧ r.ci = s.mgr.ci) ∧
    (∀ t, Reaches (.vf t) s → ∃ r : Rings, exec (.tCtlWrite t .full v) s =
        .next (((s.dropLatch (.vf t)).modRings (.vf t) (fun _ => r)).answer .ok) ∧ r.en = v.getLsbD 0 ∧
        (let q := (s.tenant t).rings
         r.orders = q.orders ∧ r.orderBase = q.orderBase ∧ r.orderLog2 = q.orderLog2 ∧ r.prod = q.prod ∧
         r.cons = q.cons ∧ r.eventBase = q.eventBase ∧ r.eventLog2 = q.eventLog2 ∧ r.pi = q.pi ∧ r.ci = q.ci))

/-- R95, R96: base and size of a manager ring change only while RING_IDLE, and empty the ring. R104: the same for a tenant's
rings. -/
def Obligations.RingGeometryWrites : Prop :=
  (∀ (v : Word) (s : State), Reaches .pf0 s →
    let put := fun (r : Rings) => { s.dropLatch .pf0 with mgr := r }.answer .ok
    (s.ringIdle .pf0 = true →
      (v &&& bits 5 0 = 0 → exec (.gblOrderBaseWrite .full v) s = .next (put { s.mgr with orderBase := v, cons := 0, prod := 0 })) ∧
      (v &&& bits 4 0 = 0 → exec (.gblEventBaseWrite .full v) s = .next (put { s.mgr.restartEvents with eventBase := v })) ∧
      (4 ≤ v.toNat → v.toNat ≤ 12 →
        exec (.gblOrderSizeWrite .full v) s = .next (put { s.mgr with orderLog2 := v.toNat, cons := 0, prod := 0 })) ∧
      (6 ≤ v.toNat → v.toNat ≤ 16 →
        exec (.gblEventSizeWrite .full v) s = .next (put { s.mgr.restartEvents with eventLog2 := v.toNat }))) ∧
    (s.ringIdle .pf0 = false → exec (.gblOrderBaseWrite .full v) s = .next (Refused .pf0 s) ∧
      exec (.gblEventBaseWrite .full v) s = .next (Refused .pf0 s) ∧
      exec (.gblOrderSizeWrite .full v) s = .next (Refused .pf0 s) ∧
      exec (.gblEventSizeWrite .full v) s = .next (Refused .pf0 s)) ∧
    (¬(4 ≤ v.toNat ∧ v.toNat ≤ 12) → v.toNat < 16 → exec (.gblOrderSizeWrite .full v) s = .next (Refused .pf0 s))) ∧
  (∀ (t : TenantId) (v : Word) (s : State), Reaches (.vf t) s →
    let q := (s.tenant t).rings
    let put := fun (r : Rings) => ((s.dropLatch (.vf t)).modRings (.vf t) (fun _ => r)).answer .ok
    (s.ringIdle (.vf t) = true →
      (v &&& bits 5 0 = 0 → exec (.tOrderBaseWrite t .full v) s = .next (put { q with orderBase := v, cons := 0, prod := 0 })) ∧
      (v &&& bits 4 0 = 0 → exec (.tEventBaseWrite t .full v) s = .next (put { q.restartEvents with eventBase := v })) ∧
      (4 ≤ v.toNat → v.toNat ≤ 12 →
        exec (.tOrderSizeWrite t .full v) s = .next (put { q with orderLog2 := v.toNat, cons := 0, prod := 0 })) ∧
      (6 ≤ v.toNat → v.toNat ≤ 16 →
        exec (.tEventSizeWrite t .full v) s = .next (put { q.restartEvents with eventLog2 := v.toNat }))) ∧
    (s.ringIdle (.vf t) = false → exec (.tOrderBaseWrite t .full v) s = .next (Refused (.vf t) s) ∧
      exec (.tEventBaseWrite t .full v) s = .next (Refused (.vf t) s) ∧
      exec (.tOrderSizeWrite t .full v) s = .next (Refused (.vf t) s) ∧
      exec (.tEventSizeWrite t .full v) s = .next (Refused (.vf t) s)))

/-- R96, R107, R111: what a doorbell and a consumer index accept, of the manager's rings and of a tenant's. An order doorbell
takes a producer index below the ring's size; a consumer index advances as far as PI; a refused value leaves ACCESS_ERR. R111:
an endpoint doorbell announces slots up to the ring's size; LAST itself and older values change nothing; what lies beyond the
ring is refused. -/
def Obligations.Doorbells : Prop :=
  (∀ (v : Word) (s : State),
    (Reaches .pf0 s →
      let put := fun (r : Rings) => { s.dropLatch .pf0 with mgr := r }.answer .ok
      (v.toNat < 4096 →
        (v.toNat < s.mgr.orderSize → exec (.gblOrderDb .full v) s = .next (put { s.mgr with prod := v.toNat })) ∧
        (s.mgr.orderSize ≤ v.toNat → exec (.gblOrderDb .full v) s = .next (Refused .pf0 s))) ∧
      (v.toNat < 65536 →
        (s.mgr.ciOk v.toNat = true → ∃ r : Rings, exec (.gblEventCi .full v) s = .next (put r) ∧ r.ci = v.toNat ∧ r.pi = s.mgr.pi ∧
          r.orders = s.mgr.orders ∧ r.prod = s.mgr.prod ∧ r.cons = s.mgr.cons ∧ r.en = s.mgr.en) ∧
        (s.mgr.ciOk v.toNat = false → exec (.gblEventCi .full v) s = .next (Refused .pf0 s)))) ∧
    (∀ t, Reaches (.vf t) s →
      let q := (s.tenant t).rings
      let put := fun (r : Rings) => ((s.dropLatch (.vf t)).modRings (.vf t) (fun _ => r)).answer .ok
      (v.toNat < 4096 →
        (v.toNat < q.orderSize → exec (.tOrderDb t .full v) s = .next (put { q with prod := v.toNat })) ∧
        (q.orderSize ≤ v.toNat → exec (.tOrderDb t .full v) s = .next (Refused (.vf t) s))) ∧
      (v.toNat < 65536 →
        (q.ciOk v.toNat = true → ∃ r : Rings, exec (.tEventCi t .full v) s = .next (put r) ∧ r.ci = v.toNat ∧ r.pi = q.pi ∧
          r.orders = q.orders ∧ r.prod = q.prod ∧ r.cons = q.cons ∧ r.en = q.en) ∧
        (q.ciOk v.toNat = false → exec (.tEventCi t .full v) s = .next (Refused (.vf t) s))))) ∧
  (∀ (t : TenantId) (h : Fin 1024) (v : Word) (s : State), Reaches (.vf t) s → v.toNat < 2 ^ 32 →
    (s.flow? t h = none → exec (.tEpDb t h .full v) s = .next (Refused (.vf t) s)) ∧
    (∀ g, s.flow? t h = some g → g.st = .detached ∨ g.st = .lost →
      exec (.tEpDb t h .full v) s = .next ((s.dropLatch (.vf t)).answer .ok)) ∧
    (∀ g, s.flow? t h = some g → g.st = .running ∨ g.st = .halted →
      let n : BitVec 32 := v.extractLsb' 0 32
      (n = g.last ∨ (g.last - n).toNat ≤ g.ringEntries →
        exec (.tEpDb t h .full v) s = .next ((s.dropLatch (.vf t)).answer .ok)) ∧
      (n ≠ g.last → g.ringEntries < (g.last - n).toNat → (n - g.consumed).toNat ≤ g.ringEntries → n ≠ g.consumed →
        ∃ x, exec (.tEpDb t h .full v) s = .next x ∧
          x.flows = s.flows.map (fun y => if y.t = t ∧ y.h = h then { y with last := n, announced := if y.st = .running then
            y.announced ++ [((s.tenant t).seqNo, (n - y.last).toNat)] else y.announced } else y) ∧
          (x.tenant t).seqNo = (s.tenant t).seqNo + 1 ∧ x.devs = s.devs ∧ x.sched = s.sched) ∧
      (n ≠ g.last → g.ringEntries < (g.last - n).toNat → g.ringEntries < (n - g.consumed).toNat →
        exec (.tEpDb t h .full v) s = .next (Refused (.vf t) s))))

/-- R89, R102, R4: the time registers. A low-half read latches the high half of the same moment, the high half returns what is
latched and spends it; a step is taken only in FREE or HOLDOVER; a read of GBL_TIME_STATUS returns STEPS and PTM_FAILS and
clears them. -/
def Obligations.TimeRegisters : Prop :=
  ∀ (s : State),
    (∀ f, Reaches f s →
      let fresh := s.timeView.extractLsb' 32 32
      exec (.gblTimeLowRead ⟨f, .low⟩) s = .next
        ((s.modFn f (fun p => { p with timeLatch := some fresh })).answer (.half (s.timeView.extractLsb' 0 32))) ∧
      exec (.gblTimeLowRead ⟨f, .high⟩) s = .next ((s.dropLatch f).answer (.half ((s.fn f).timeLatch.getD fresh))) ∧
      exec (.gblTimeLowRead ⟨f, .full⟩) s = .next ((s.dropLatch f).answer (.data s.timeView))) ∧
    (Reaches .pf0 s → ∀ v : Word,
      (s.time.state = .free ∨ s.time.state = .holdover → exec (.gblTimeStep .full v) s =
        .next ({ s.dropLatch .pf0 with time := { s.time with pending := some v.toInt } }.answer .ok)) ∧
      (s.time.state = .acquiring ∨ s.time.state = .locked → exec (.gblTimeStep .full v) s = .next (Refused .pf0 s)) ∧
      exec (.gblTimeStep .low v) s = .next (Refused .pf0 s)) ∧
    (Reaches .pf0 s → exec (.gblTimeStatusRead .full) s =
        .next ({ s.dropLatch .pf0 with time := { s.time with ptmFails := 0, steps := 0 } }.answer (.data s.time.statusView)) ∧
      exec (.gblTimeStatusRead .high) s = .next ((s.dropLatch .pf0).answer (.half (s.time.statusView.extractLsb' 32 32))))

/-- R314, R315: a claim read returns the highest-priority pending source, clears its COUNT and puts it in service; with none
pending it returns 0xFFFF and changes nothing. EOI of a source in service ends it. For PF0 and for every VF. R311, R320, R322:
what a write of a source register sets. A vector or a route the target does not have is ignored in whole, with ACCESS_ERR; a
shared source in service keeps its route until its EOI. -/
def Obligations.InterruptRegisters : Prop :=
  (∀ (s : State),
    let claimed := fun (f : Fn) (x : Src) => ((s.dropLatch f).modSrc x (fun y => { y with count := 0, inService := true })).answer
      (.data (pack [(1, 63), ((s.irqSrc x).count, 16), (x.number, 0)]))
    (Reaches .pf0 s →
      (s.claimable (.fn .pf0) = none → exec (.irqPfClaim .full) s = .next ((s.dropLatch .pf0).answer (.data 0xFFFF))) ∧
      (∀ x, s.claimable (.fn .pf0) = some x → exec (.irqPfClaim .full) s = .next (claimed .pf0 x)) ∧
      (∀ x ∈ s.sources (.fn .pf0),
        ((s.irqSrc x).inService = false → exec (.irqPfEoi .full (BitVec.ofNat 64 x.number)) s = .next ((s.dropLatch .pf0).answer .ok)) ∧
        ((s.irqSrc x).inService = true → ∃ y, exec (.irqPfEoi .full (BitVec.ofNat 64 x.number)) s = .next y ∧
          (y.irqSrc x).inService = false ∧ y.flows = s.flows ∧ y.devs = s.devs)) ∧
      (∀ v : Word, 65536 ≤ v.toNat → exec (.irqPfEoi .full v) s = .next (Refused .pf0 s))) ∧
    (∀ t, Reaches (.vf t) s →
      (s.claimable (.fn (.vf t)) = none → exec (.tIrqClaim t .full) s = .next ((s.dropLatch (.vf t)).answer (.data 0xFFFF))) ∧
      (∀ x, s.claimable (.fn (.vf t)) = some x → exec (.tIrqClaim t .full) s = .next (claimed (.vf t) x)) ∧
      (∀ n : Fin 32, n.val < 6 →
        ((s.irqSrc (.vf t n)).inService = false →
          exec (.tIrqEoi t .full (BitVec.ofNat 64 n.val)) s = .next ((s.dropLatch (.vf t)).answer .ok)) ∧
        ((s.irqSrc (.vf t n)).inService = true → ∃ y, exec (.tIrqEoi t .full (BitVec.ofNat 64 n.val)) s = .next y ∧
          (y.irqSrc (.vf t n)).inService = false ∧ y.flows = s.flows ∧ y.devs = s.devs)) ∧
      (∀ v : Word, 6 ≤ v.toNat → exec (.tIrqEoi t .full v) s = .next (Refused (.vf t) s))) ∧
    (∀ f x, s.claimable (.fn f) = some x → s.pendingSrc x = true ∧ x ∈ s.sources (.fn f) ∧
      ∀ y ∈ s.sources (.fn f), s.pendingSrc y = true → (s.irqSrc y).prio.toNat ≤ (s.irqSrc x).prio.toNat)) ∧
  (∀ (v : Word) (s : State),
    (∀ (f : Fn) (n : Fin 64) (x : Src), srcOf f n = some x → x.listed = true → Reaches f s → v &&& x.rsv = 0 →
      (vectorsOf f ≤ field v 16 8 → exec (.irqSourceWrite f n .full v) s = .next (Refused f s)) ∧
      (field v 16 8 < vectorsOf f → ∃ y, exec (.irqSourceWrite f n .full v) s = .next y ∧
        (y.irqSrc x).en = v.getLsbD 0 ∧ (y.irqSrc x).prio = v.extractLsb' 12 3 ∧ (y.irqSrc x).vector = v.extractLsb' 16 8 ∧
        (y.irqSrc x).inService = (s.irqSrc x).inService ∧ y.flows = s.flows ∧ y.devs = s.devs)) ∧
    (∀ n : Fin 96, n.val < 33 → Reaches .pf0 s → v &&& (Src.shared n).rsv = 0 →
      let tg := v.extractLsb' 24 8
      let ve := v.extractLsb' 16 8
      (4 < tg.toNat ∨ (tg = 0 ∧ 63 < ve.toNat) ∨ (tg ≠ 0 ∧ ve ≠ 0) → exec (.irqSharedWrite n .full v) s = .next (Refused .pf0 s)) ∧
      (¬(4 < tg.toNat ∨ (tg = 0 ∧ 63 < ve.toNat) ∨ (tg ≠ 0 ∧ ve ≠ 0)) → ∃ y, exec (.irqSharedWrite n .full v) s = .next y ∧
        (vget y.shared n).en = v.getLsbD 0 ∧ (vget y.shared n).prio = v.extractLsb' 12 3 ∧
        ((vget s.shared n).inService = false → (vget y.shared n).target = tg ∧ (vget y.shared n).vector = ve) ∧
        ((vget s.shared n).inService = true → (vget y.shared n).target = (vget s.shared n).target ∧
          (vget y.shared n).vector = (vget s.shared n).vector ∧
          (tg ≠ (vget s.shared n).target → (vget y.shared n).heldRoute = some (tg, ve))))) ∧
    (∀ f, Reaches f s → v &&& bits 63 1 = 0 → ∃ y, exec (.irqHoldWrite f .full v) s = .next y ∧
      y.held (.fn f) = v.getLsbD 0 ∧ y.shared = s.shared ∧ y.flows = s.flows))

/-- R168, R170, R186: port power, the latch and the urgent reserve. R327, R329, R336, R339, R232: tolerances, after which the
power state is selected again, operating-point mode, pad release and the spill ring's consumer. -/
def Obligations.PortAndPowerRegisters : Prop :=
  (∀ (p : PortId) (s : State), Reaches .pf0 s →
    (s.power.padsHeld = false → (vget s.ports p).powerOff = false → ∃ x, exec (.powerOff p .full 1) s = .next x ∧
      (vget x.ports p).powerOff = true ∧ x.powered p = false ∧ (∀ q, q ≠ p → x.powered q = s.powered q)) ∧
    (exec (.powerOff p .low 1) s = .next (Refused .pf0 s)) ∧
    ((s.ocOf p).latched = true → (vget s.ports p).powerOff = false → s.gangOf p = none →
      (∀ d ∈ s.devs, d.hubOc = []) → ∃ x, exec (.ocClear p .full 2) s = .next x ∧ (x.ocOf p).latched = false ∧ (x.ocOf p).retries = 0) ∧
    (∀ v : Word, v.toNat < 32768 →
      let fits := v.toNat ≤ 25000 ∧ worstLoad s.resvs p true false ≤ slotCapacity true false v.toNat
      (fits → exec (.prtUrgentReserveWrite p .full v) s =
        .next (((s.dropLatch .pf0).modPort p (fun q => { q with urgent := v.toNat })).answer .ok)) ∧
      (¬fits → exec (.prtUrgentReserveWrite p .full v) s = .next (Refused .pf0 s)))) ∧
  (∀ (v : Word) (s : State),
    (∀ t, Reaches (.vf t) s → v.toNat < 2 ^ 32 → exec (.tLatTolWrite t .full v) s =
      .next (((s.dropLatch (.vf t)).modTenant t (fun x => { x with latTol := v.toNat })).selectState.answer .ok)) ∧
    (Reaches .pf0 s → v.toNat < 2 ^ 32 → exec (.pwrLatFloorWrite .full v) s =
      .next ((({ s.dropLatch .pf0 with power := { s.power with latFloor := v.toNat } } : State).selectState).answer .ok)) ∧
    (Reaches .pf0 s → v.toNat < 4 →
      (v.toNat = 3 ∨ s.power.permit.getLsbD v.toNat = true → exec (.pwrOppCtlWrite .full v) s =
        .next ({ s.dropLatch .pf0 with power := { s.power with oppMode := v.toNat } }.answer .ok)) ∧
      (v.toNat ≠ 3 → s.power.permit.getLsbD v.toNat = false → exec (.pwrOppCtlWrite .full v) s = .next (Refused .pf0 s))) ∧
    (Reaches .pf0 s → (s.power.padsHeld = true → ∃ x, exec (.pwrPadRelease .full 1) s = .next x ∧
        x.power.padsHeld = false ∧ x.power.waiting = [] ∧ x.pins.gpioHeld = none) ∧
      (s.power.padsHeld = false → exec (.pwrPadRelease .full 1) s = .next ((s.dropLatch .pf0).answer .ok))) ∧
    (Reaches .pf0 s → v.toNat < 65536 →
      let size := 2 ^ s.trace.log2
      let ok := v.toNat < size ∧ (v.toNat + size - s.trace.ci) % size ≤ (s.trace.pi + size - s.trace.ci) % size
      (ok → exec (.trcSpillCi .full v) s = .next ({ s.dropLatch .pf0 with trace := { s.trace with ci := v.toNat } }.answer .ok)) ∧
      (¬ok → exec (.trcSpillCi .full v) s = .next (Refused .pf0 s))))

/-- R394, R382, R386: the oldest fault record is removed by FLT_POP; an unfenced worker or core is one whose bit was written and
whose check passed, and no other is touched. R395, R415: the service port's control, and what starts a self-test: MBIST only in
test custody, one item at a time. -/
def Obligations.FaultAndServiceRegisters : Prop :=
  (∀ (s : State), Reaches .pf0 s →
    exec (.fltPop .full 1) s = .next ({ s.dropLatch .pf0 with faults := { s.faults with records := s.faults.records.drop 1 } }.answer .ok) ∧
    exec (.fltPop .full 0) s = .next ((s.dropLatch .pf0).answer .ok) ∧
    (∀ (sel pass : BitVec 32), (∀ j ∈ s.faults.jobs, j.worker = none) → ∃ x,
      exec (.fltUnfenceWorkers .full (sel.setWidth 64) pass) s = .next x ∧
      (∀ w : WorkerId, (vget x.sched.workers w).fenced =
        ((vget s.sched.workers w).fenced && !(sel.getLsbD w.val && pass.getLsbD w.val))) ∧
      x.sched.cores = s.sched.cores ∧ x.faults = s.faults) ∧
    (∀ (sel pass : BitVec 4), ∃ x, exec (.fltUnfenceCores .full (sel.setWidth 64 <<< 32) pass) s = .next x ∧
      (∀ c : CoreId, (vget x.sched.cores c).fenced =
        ((vget s.sched.cores c).fenced && !(sel.getLsbD c.val && pass.getLsbD c.val))) ∧
      x.sched.workers = s.sched.workers ∧ x.faults = s.faults)) ∧
  (∀ (s : State), Reaches .pf0 s →
    (∀ v : Word, v.toNat < 4 → v.getLsbD 0 = true → exec (.svcCtlWrite .full v) s =
      .next ({ s.dropLatch .pf0 with svc := { s.svc with attach := true, traceOk := v.getLsbD 1 } }.answer .ok)) ∧
    (∃ x, exec (.svcCtlWrite .full 0) s = .next x ∧ x.svc.attach = false ∧ x.svc.attached = false ∧ x.svc.testMode = 0) ∧
    (s.self.busy = false → s.tap.custody = true → ∃ x, exec (.selftestMbistStart .full 1) s = .next x ∧
      x.self.mbistBusy = true ∧ x.hasItem .selfTestMbist = true) ∧
    (s.self.busy = false → s.tap.custody = false → ∃ x, exec (.selftestMbistStart .full 1) s = .next x ∧
      x.self.mbist = 3 ∧ x.self.mbistBusy = false ∧ x.sched = s.sched) ∧
    (s.self.busy = false → ∃ x, exec (.selftestLoopbackStart .full 2) s = .next x ∧
      x.self.loopBusy = true ∧ x.hasItem .selfTestLoopback = true ∧ x.sched.data = .item) ∧
    (s.self.busy = true → exec (.selftestMbistStart .full 1) s = .next (Refused .pf0 s) ∧
      exec (.selftestLoopbackStart .full 2) s = .next (Refused .pf0 s)))

/-- R4, R5: a 64-bit read of a register with RC fields returns it and clears them; nothing else changes. R5 over the registers
whose RC fields span the halves: a 32-bit read clears the bits of the half it returns, a 64-bit read all of them (the split of a
spanning field is the model's choice, log 22). -/
def Obligations.ReadsThatClearTheirCounts : Prop :=
  (∀ (s : State), Reaches .pf0 s →
    let u := s.dropLatch .pf0
    exec (.schMfStatusRead .full) s = .next ({ u with frames := { s.frames with slews := 0 } }.answer
      (.data (pack [(s.frames.slews, 32), (twos 24 s.frames.phase, 8), (s.frames.lock.code, 0)]))) ∧
    exec (.schAdmitFailsRead .full) s = .next ({ u with frames := { s.frames with admitFails := 0 } }.answer
      (.data (pack [(s.frames.lastPort.val, 40), (s.frames.lastReason, 32), (s.frames.admitFails, 0)]))) ∧
    exec (.schRedispatchRead .full) s = .next ({ u with sched := { s.sched with redispatch := 0 } }.answer
      (.data (BitVec.ofNat 64 s.sched.redispatch))) ∧
    exec (.schWheelRead .full) s = .next ({ u with sched := { s.sched with carried := 0 } }.answer (.data s.wheelReg.val)) ∧
    exec (.trcStatusRead .full) s = .next ({ u with trace := { s.trace with lost := 0 } }.answer
      (.data (pack [(s.trace.lost, 32), (b2n s.trace.spilling, 31), (s.trace.buf.length, 0)]))) ∧
    exec (.sealFailsRead .full) s = .next ({ u with seals := { s.seals with hsFails := 0, unitFails := 0 } }.answer
      (.data (pack [(s.seals.unitFails, 32), (s.seals.hsFails, 0)]))) ∧
    (∀ t, exec (.tenStateRead t .full) s = .next ((u.modTenant t (fun x => { x with flrs := 0 })).answer (.data (s.tenStateView t)))) ∧
    exec (.pwrOppStatusRead .full) s = .next ({ u with power := { s.power with oppFaults := 0 } }.answer (.data s.oppStatusView)) ∧
    exec (.pwrRetStatusRead .full) s = .next ({ u with power := { s.power with corrected := 0 } }.answer
      (.data (pack [(s.power.corrected, 32), (s.power.lost.toNat, 0)]))) ∧
    exec (.peatStatsRead .full) s = .next ({ u with peat := { s.peat with dropped := 0, torn := 0 } }.answer
      (.data (pack [(s.peat.dropped, 48), (s.peat.torn, 32), (s.peat.life.mounts, 0)]))) ∧
    exec (.fltStatusRead .full) s = .next ({ u with faults := { s.faults with dropped := 0 } }.answer (.data s.fltStatusView)) ∧
    (∀ n : Fin 9, exec (.fltClassCountRead n .full) s = .next ({ u with faults := { s.faults with
      counts := vset s.faults.counts n 0 } }.answer (.data (BitVec.ofNat 64 (vget s.faults.counts n))))) ∧
    exec (.svcCountRead .full) s = .next ({ u with svc := { s.svc with authFail := 0, lostResp := 0, resets := 0, resetMid := 0 } }.answer
      (.data (pack [(s.svc.resets, 48), (s.svc.resetMid, 32), (s.svc.authFail, 16), (s.svc.lostResp, 0)])))) ∧
  (∀ (s : State), Reaches .pf0 s →
    (∀ p : PortId, ∃ x y z, exec (.slcCountRead p .low) s = .next x ∧ exec (.slcCountRead p .high) s = .next y ∧
      exec (.slcCountRead p .full) s = .next z ∧
      (vget x.sluice.ports p).missed = 0 ∧ (vget x.sluice.ports p).overruns = (vget s.sluice.ports p).overruns ∧
      (vget y.sluice.ports p).missed = (vget s.sluice.ports p).missed ∧ (vget y.sluice.ports p).overruns = 0 ∧
      (vget z.sluice.ports p).missed = 0 ∧ (vget z.sluice.ports p).tooLong = 0 ∧ (vget z.sluice.ports p).overruns = 0 ∧
      (∀ q, q ≠ p → vget z.sluice.ports q = vget s.sluice.ports q) ∧
      z.resp = some (.data (s.countReg p).val)) ∧
    (∃ x y z, exec (.nrgStatusRead .low) s = .next x ∧ exec (.nrgStatusRead .high) s = .next y ∧ exec (.nrgStatusRead .full) s = .next z ∧
      x.energy.missed = s.energy.missed ∧ y.energy.missed = 0 ∧ z.energy.missed = 0 ∧ z.energy.forgiven = 0 ∧
      z.energy.level = s.energy.level ∧ z.resp = some (.data s.energyStatusReg.val)) ∧
    (∀ n : Fin 21, ∃ x y z, exec (.fltEccRead n .low) s = .next x ∧ exec (.fltEccRead n .high) s = .next y ∧
      exec (.fltEccRead n .full) s = .next z ∧
      vget x.faults.uncorrectable n = vget s.faults.uncorrectable n ∧ vget y.faults.uncorrectable n = 0 ∧
      vget x.faults.corrected n % 2 ^ 32 = 0 ∧ vget y.faults.corrected n < 2 ^ 32 ∧
      vget z.faults.corrected n = 0 ∧ vget z.faults.uncorrectable n = 0 ∧ z.faults.records = s.faults.records ∧
      z.resp = some (.data (s.eccReg n).val)))

/-- R29, R31, R53, R49: power-up and the two resets that run start-up. A full reset leaves every table empty and keeps flash,
fuses and, with VAON or VBAT, the horizon; start-up follows at POR_N release, or at once after a watchdog reset, which keeps the
causes not yet cleared. -/
def Obligations.ResetsAndStartUp : Prop :=
  ∀ (s : State),
    (s.pins.vddioN = false → exec .vddioNRise s = .next { s with pins := { s.pins with vddioN := true, vsel := 1 } }) ∧
    (∀ vbat, ∃ x, exec (.fullReset .vaonLow vbat) s = .next x ∧ x.img.cause.getLsbD 1 = true ∧ x.img.locked = false ∧
      x.pins.porN = false ∧ x.flows = [] ∧ x.devs = [] ∧ x.tenants = State.reset.tenants ∧ x.mgr = {} ∧ x.sched = {} ∧
      x.fuses = s.fuses ∧ x.img.flash = s.img.flash ∧ x.peat.sectors = s.peat.sectors ∧ x.peat.copies = s.peat.copies ∧
      (vbat = true → x.peat.horizon = s.peat.horizon ∧ x.peat.tamperPend = s.peat.tamperPend)) ∧
    (∀ vbat n, n < 7000 → exec (.fullReset (.por n) vbat) s = .next s) ∧
    (∀ vbat n, 9000 ≤ n → ∃ x, exec (.fullReset (.por n) vbat) s = .next x ∧ x.img.cause.getLsbD 0 = true ∧
      x.flows = [] ∧ x.devs = [] ∧ x.tenants = State.reset.tenants ∧ x.fuses = s.fuses ∧ x.peat.horizon = s.peat.horizon) ∧
    (s.pins.porN = false → s.tap.custody = false → ∀ peatSel, ∃ x, exec (.porNRelease peatSel false) s = .next x ∧
      x.pins.porN = true ∧ x.pins.peatSel = peatSel ∧ x.img.step = 3 ∧ x.img.fusesRead = true ∧ x.hasItem .peatMount = true ∧
      x.img.locked = s.img.locked ∧ x.seals.wrapKey = Config.random s.free) ∧
    (s.pins.porN = false → ∀ peatSel, ∃ x, exec (.porNRelease peatSel true) s = .next x ∧ x.tap.custody = true ∧
      x.img.locked = true ∧ x.sched.data = .item ∧ x.sched.mgmt = .item ∧ x.self.mbistBusy = true) ∧
    (s.watched = true → ∃ x, exec .watchdogReset s = .next x ∧ x.img.cause = s.img.cause ||| 4 ∧ x.img.step = 3 ∧ x.flows = [] ∧ x.devs = [] ∧
      x.tenants = State.reset.tenants ∧ x.fuses = s.fuses ∧ x.img.flash = s.img.flash ∧ x.peat.horizon = s.peat.horizon ∧
      x.pins.peatSel = s.pins.peatSel)

/-- R50, R84, R303: what the host's resets and the VF controls do: PERST_N and an FLR of PF0 reset the manager rings and end
every VF, an FLR of a VF fences a working tenant and clears an idle one. -/
def Obligations.HostResets : Prop :=
  ∀ (s : State),
    (AtWork s → s.pins.perstN = true → ∃ x, exec .perstNAssert s = .next x ∧ x.pins.perstN = false ∧ x.link = .down ∧ x.pf.cfg = [] ∧
      (∀ t, (x.tenant t).vf = false) ∧ x.gblAccessErr = false ∧ x.vfRefused = false ∧ x.mgr.en = false ∧ x.devs = s.devs ∧
      x.fuses = s.fuses ∧ x.img = s.img) ∧
    (exec .perstNDeassert s = .next { s with pins := { s.pins with perstN := true } }) ∧
    (Awake s → s.img.locked = true → ∃ x, exec .pf0Flr s = .next x ∧ x.link = s.link ∧ x.pf.cfg = [] ∧ (∀ t, (x.tenant t).vf = false) ∧
      x.mgr.en = false ∧ x.gblAccessErr = false ∧ x.img = s.img ∧ x.resp = some .ok) ∧
    (∀ t, Awake s → s.img.locked = true → (s.tenant t).vf = true →
      ((s.tenant t).st = .active ∨ (s.tenant t).st = .quiescing → ∃ x, exec (.vfFlr t) s = .next x ∧ (x.tenant t).st = .fenced ∧
        (x.tenant t).flrs = Nat.min ((s.tenant t).flrs + 1) 65535 ∧ (x.tenant t).rings.orders = [] ∧ (x.tenant t).rings.notify = []) ∧
      ((s.tenant t).st = .standby ∨ (s.tenant t).st = .quiesced → ∃ x, exec (.vfFlr t) s = .next x ∧ (x.tenant t).st = .standby ∧
        (x.tenant t).rings.en = false ∧ (x.tenant t).share = none ∧ (x.tenant t).latTol = 0 ∧ (∀ g ∈ x.flows, g.t ≠ t))) ∧
    (Awake s → s.img.locked = true → s.pf.bit 0x168 4 = true → s.img.image ≠ none → ∃ x, exec (.vfEnableWrite true) s = .next x ∧
      (∀ t, (x.tenant t).vf = decide (t.val < s.numVfs))) ∧
    (Awake s → s.img.locked = true → s.pf.bit 0x168 4 = false → exec (.vfEnableWrite true) s = .next ({ s with vfRefused := true }.answer .ok)) ∧
    (Awake s → s.img.locked = true → ∃ x, exec (.vfEnableWrite false) s = .next x ∧ (∀ t, (x.tenant t).vf = false)) ∧
    (Awake s → s.img.locked = true → ∀ n : BitVec 16, ∃ x, exec (.numvfsWrite n) s = .next x ∧ x.numVfs = Nat.min n.toNat 256)

/-- R54, R85, R86, R318, R319, R417: configuration requests before and after the image lock, MSI-X and the link. -/
def Obligations.ConfigurationAndMessages : Prop :=
  ∀ (s : State),
    (∀ f r, Awake s → s.img.locked = false → exec (.configRequest f r) s = .next (s.answer .crs)) ∧
    (∀ f off, Awake s → s.img.locked = true → s.fnPresent f = true →
      exec (.configRequest f (.read off)) s = .next (s.answer (.half (s.cfgRead f off)))) ∧
    (∀ f, Awake s → s.img.locked = true → s.fnPresent f = true → ∀ v : BitVec 2, v = 0 ∨ v = 3 → ∃ x, exec (.pmStateWrite f v) s = .next x ∧
      (x.fn f).dword 0x44 &&& 3 = v.setWidth 32) ∧
    (∀ f (v : BitVec 2), Awake s → s.img.locked = true → s.fnPresent f = true → v = 1 ∨ v = 2 →
      exec (.pmStateWrite f v) s = .next (s.answer .ok)) ∧
    (∀ f on, Awake s → s.img.locked = true → s.fnPresent f = true → ∃ x, exec (.msixControlWrite f (.enable on)) s = .next x ∧
      (x.fn f).msixEn = on ∧ (x.fn f).fnMask = (s.fn f).fnMask) ∧
    (∀ f on, Awake s → s.img.locked = true → s.fnPresent f = true → ∃ x, exec (.msixControlWrite f (.functionMask on)) s = .next x ∧
      (x.fn f).fnMask = on ∧ (x.fn f).msixEn = (s.fn f).msixEn) ∧
    (∀ f (n : Fin 64) on, Awake s → s.unsupported f = false → n.val < vectorsOf f → ∃ x, exec (.msixControlWrite f (.entryMask n on)) s = .next x ∧
      (vget (x.fn f).msix n).mask = on ∧ (vget (x.fn f).msix n).addr = (vget (s.fn f).msix n).addr) ∧
    (∀ f (n : Fin 64) (v : Word), Awake s → s.unsupported f = false → n.val < vectorsOf f → ∃ x,
      exec (.msixTableWrite f (16 * n.val) 8 v) s = .next x ∧ (vget (x.fn f).msix n).addr = v ∧
      (vget (x.fn f).msix n).data = (vget (s.fn f).msix n).data) ∧
    (∀ f off size (v : Word), Awake s → s.unsupported f = false → off < vectorsOf f * 16 → size ≠ 4 → size ≠ 8 →
      exec (.msixTableWrite f off size v) s = .next ((s.accessErr f).answer .ok)) ∧
    (s.link = .down → s.pins.perstN = true → s.pins.porN = true → s.tap.pinsTaken = false → s.power.perstDue = false → ∃ x, exec (.hostLinkUp .link) s = .next x ∧ x.link = .l0 ∧
      (s.pf.busMaster = true → x.pf.held = [])) ∧
    (∀ f, Awake s → s.img.locked = true → s.fnPresent f = true → ∃ x, exec (.hostLinkUp (.busMaster f)) s = .next x ∧
      (x.fn f).busMaster = true ∧ (s.link ≠ .down → (x.fn f).held = [])) ∧
    (∀ aer, ∃ x, exec (.hostLinkError aer true) s = .next x ∧ x.link = .down ∧
      vget x.faults.counts 5 = Nat.min (vget s.faults.counts 5 + 1) (2 ^ 32 - 1)) ∧
    (∀ u o, Awake s → s.timeoutOff = false → s.opAt u = some o → o.node = .fetch → o.item = none → o.kind = .graph →
      o.stale = false → o.task = 16640 → o.arg ≠ 0 → (∀ g ∈ s.flows, g.entry < 16384) →
      s.canSend .pf0 = true → ∃ x, exec (.dmaCompletionTimeout u) s = .next x ∧
      x.mgr.orders.length = s.mgr.orders.length + o.arg ∧
      (∀ y ∈ x.mgr.orders.drop s.mgr.orders.length, y.stage = .ended ∧ y.ev.status = some .dmaFault) ∧ x.pf.bit 0x104 14 = true)

/-- R169, R288, R259, R360: the pins. Over-current, tamper, temperature and the power-fail warning. R98 to R103: measurements of
the reference and pulses. The offset of a PTM response is Keeper time minus master time, that of a PPS_IN edge its distance from
the nearest whole second; what a dialogue's failure counts and when holdover starts. -/
def Obligations.PinsAndReference : Prop :=
  (∀ (s : State),
    (∀ p, AtWork s → s.gangOf p = none → s.powered p = true → ∃ x, exec (.overCurrentTrip (.root p)) s = .next x ∧ x.powered p = false ∧
      (vget x.ports p).ocActive = true ∧ (x.ocOf p).latched = decide (3 ≤ (s.ocOf p).retries) ∧
      (x.ocOf p).waiting = (if 3 ≤ (s.ocOf p).retries then none else some (s.time.now + 500000000)) ∧
      (∀ d ∈ x.devs, d.id.port ≠ p)) ∧
    (∀ p w o, s.gangOf p = none → Due s (.ocRetry (.root p)) w o → (s.ocOf p).waiting ≠ none → ∃ x,
      exec (.ocRetry (.root p)) s = .next x ∧
      (x.ocOf p).retries = (s.ocOf p).retries + 1 ∧ (x.ocOf p).waiting = none) ∧
    (∀ p w o, s.gangOf p = none → Due s (.ocQuiet (.root p)) w o → (s.ocOf p).retries ≠ 0 → (s.ocOf p).waiting = none → (s.ocOf p).latched = false → ∃ x,
      exec (.ocRetryCountClear (.root p)) s = .next x ∧ (x.ocOf p).retries = 0) ∧
    (∀ p, exec (.pocNDeassert p) s = .next { s.modPort p (fun q => { q with ocActive := false }) with
      pins := { s.pins with pocN := s.pins.pocN ||| (1#16 <<< p.val) } }) ∧
    (∀ i : Fin 2, AtWork s → s.pins.porN = true → s.pins.vaon = true → s.pins.tamper.getLsbD i.val = false → ∃ x, exec (.tamperAssert i) s = .next x ∧
      x.pins.tamper.getLsbD i.val = true ∧ x.seals.zeroised = true ∧ x.seals.wrapKey = 0 ∧ (∀ t h f, x.flow? t h = some f → f.key = none) ∧ x.seals.hs = [] ∧
      x.peat.tamperPend.toNat = Nat.min (s.peat.tamperPend.toNat + 1) 65535 ∧
      x.fuses = { s.fuses with revoked := s.fuses.revoked || s.seals.revokeOnTamper }) ∧
    (∀ i : Fin 2, s.pins.tamper.getLsbD i.val = true → exec (.tamperAssert i) s = .next s) ∧
    (∀ i : Fin 2, s.pins.porN = false → s.pins.vbat = true → s.pins.tamper.getLsbD i.val = false → ∃ x,
      exec (.tamperAssert i) s = .next x ∧ x.peat.tamperPend.toNat = Nat.min (s.peat.tamperPend.toNat + 1) 65535 ∧
      x.fuses = s.fuses ∧ x.seals = s.seals ∧ x.svc = s.svc ∧ x.flows = s.flows) ∧
    (∀ i : Fin 2, exec (.tamperRelease i) s = .next { s with pins := { s.pins with tamper := s.pins.tamper &&& ~~~(1#2 <<< i.val) } }) ∧
    (∀ a b c d : BitVec 8, ∃ x, exec (.thermalSample [a, b, c, d]) s = .next x ∧
      vget x.energy.sensors 0 = a ∧ vget x.energy.sensors 3 = d ∧
      x.energy.stage = s.energy.stageAt (max (max a.toInt b.toInt) (max c.toInt d.toInt)) ∧
      x.pins.thermN = (s.pins.porN && decide (x.energy.stage = .crit))) ∧
    (AtWork s → s.pins.pwrfailN = true → ∀ tpp starts, ∃ x, exec (.pwrfailNFall tpp starts) s = .next x ∧ x.pins.pwrfailN = false ∧
      x.peat.powerFail = true ∧ x.flows = s.flows ∧ x.devs = s.devs) ∧
    (s.pins.pwrfailN = false → ∃ x, exec .pwrfailNRise s = .next x ∧ x.pins.pwrfailN = true ∧ x.peat.powerFail = false)) ∧
  (∀ (s : State),
    (∀ falling, AtWork s → s.power.saved = none → s.img.locked = true → s.ppsInUse = true → falling = s.timeSec.falling →
      (∀ l, s.time.lastPps = some l → l + 900000000 ≤ s.time.now) → ∃ x, exec (.ppsInEdge falling) s = .next x ∧
        x.time.offset = secondOffset s.time.now ∧ x.time.source = .pps ∧ x.time.lastPps = some s.time.now ∧ x.time.now = s.time.now) ∧
    (∀ falling, AtWork s → falling ≠ s.timeSec.falling → exec (.ppsInEdge falling) s = .next s) ∧
    (s.img.locked = true → s.timeSec.usesPtm = true → s.time.dialogue = false → s.ptmEnabled = true → exec .ptmDialogue s =
      .next (({ s with time := { s.time with dialogue := true, nextPtm := some (s.time.now + s.timeSec.intervalMs * 1000000) } } : State).emitOut .ptm)) ∧
    (∀ m : Word, s.time.dialogue = true → s.ptmEnabled = true → ∃ x, exec (.ptmResponse m) s = .next x ∧
      x.time.offset = (s.time.now : Int) - m.toNat ∧ x.time.dialogue = false ∧ x.time.failRun = 0 ∧ x.time.source = .ptm) ∧
    (s.time.dialogue = true → ∃ x, exec .ptmDialogueFail s = .next x ∧ x.time.dialogue = false ∧
      x.time.failRun = s.time.failRun + 1 ∧ x.time.ptmFails = Nat.min (s.time.ptmFails + 1) 255) ∧
    (s.time.state = .acquiring ∨ s.time.state = .locked → exec .disciplineHoldover s =
      .next { s with time := { s.time with state := .holdover, slew := 0, good := 0 } }) ∧
    (s.time.ppsOutEn = true → s.power.padsHeld = false → exec .ppsOutPulse s = .next { s with pins := { s.pins with ppsOut := true } }) ∧
    (s.power.padsHeld = false → exec .ppsOutPulseEnd s = .next { s with pins := { s.pins with ppsOut := false } }) ∧
    (s.power.padsHeld = true → exec .ppsOutPulse s = .next s ∧ exec .ppsOutPulseEnd s = .next s))

/-- R129, R130: an order's action ends by marking the first order at its ring index, and touches nothing else. NOOP ends at once
with SUCCESS; a row whose order is not ready changes nothing (the model's choice, log 23). -/
def Obligations.OrderCompletions : Prop :=
  ∀ (s : State),
    (∀ f k o st tg b d, s.order? f k = some o → o.ghost = false → (o.stage = .acting ∨ o.stage = .waiting) →
      s.endOrder f k st tg b d = s.modRings f (fun r => { r with orders := (mapFirst k
        (fun o => { o with stage := .ended, ev := o.doneEv st tg b d }) r.orders) }) ∧
      (s.endOrder f k st tg b d).order? f k = some { o with stage := .ended, ev := o.doneEv st tg b d } ∧
      (∀ j, j ≠ k → (s.endOrder f k st tg b d).order? f j = s.order? f j)) ∧
    (∀ f k o, OrderReady s f k 0 o → ∃ x, exec (.noop f k) s = .next x ∧ Ended x f k o .success 0 0 ∧
      x.flows = s.flows ∧ x.devs = s.devs) ∧
    (∀ c f code k, orderRow c = some (f, code, k) → (∀ o, ¬ (s.order? f k = some o ∧ o.code = code ∧ o.stage = .acting ∧
      s.orderFree f o = true)) → exec c s = .next s)

/-- R132: the checks of OPEN_EP in their order, and the handle that a passing one opens. The default pipe and endpoints of a
current alternate setting of the configuration read now can be opened. -/
def Obligations.OpenEndpointChecks : Prop :=
  ∀ (t : TenantId) (k : Nat) (cfg : List AltSetting) (s : State) (o : Order), OrderReady s (.vf t) k 1 o →
    let ends := fun (st : Status) (d : Nat) =>
      exec (.openEp t k cfg) s = .next (s.endOrder (.vf t) k st o.handle.val 0 d)
    (o.openOk = false → ends .badDescriptor 0) ∧
    (o.openOk = true → (s.flow? t o.handle).isSome = true → ends .notPermitted 1) ∧
    (o.openOk = true → s.flow? t o.handle = none →
      (o.gone = true → ends .detached 0) ∧
      (o.gone = false → s.vpDev t o.openVp = none → ends .notPermitted 3) ∧
      (∀ d, o.gone = false → s.vpDev t o.openVp = some d → d.reset = .none → d.resume = .none →
        (d.endpoint cfg o.epAddr = none → ends .notPermitted 4) ∧
        (∀ e, d.endpoint cfg o.epAddr = some e →
          ((s.share t).epQuota ≤ s.use t → ends .overQuota 0) ∧
          (s.use t < (s.share t).epQuota →
            (∀ s1, s.admitEp t d e = (none, s1) → exec (.openEp t k cfg) s = .next (s1.endOrder (.vf t) k .noBandwidth o.handle.val 0 0)) ∧
            (∀ r s1 n, s.admitEp t d e = (some r, s1) → s1.freeEntry (s1.share t).bank = some n → ∃ x g,
              exec (.openEp t k cfg) s = .next x ∧ x.flow? t o.handle = some g ∧ g.st = .running ∧ g.entry = n ∧ g.vp = o.openVp ∧
              g.dev = d.id ∧ g.ep = e ∧ g.resv = r ∧ g.ringBase = o.p 1 ∧ g.deq = o.p 1 ∧ g.consumed = 0 ∧ g.last = 0 ∧ g.key = none ∧
              x.devs = s.devs ∧ (∀ u h, (u, h) ≠ (t, o.handle) → x.flow? u h = s.flow? u h)))))) ∧
    (∀ d : Dev, d.endpoint cfg 0 = some { addr := 0, kind := .control, mps := d.mps0, burst := 1, bInterval := 0 })

/-- R124, R125, R119: CLOSE_EP waits for the transaction in progress; it ends every transfer of the handle, which is freed once
what ended has been released. -/
def Obligations.CloseEndpoint : Prop :=
  ∀ (t : TenantId) (k : Nat) (s : State) (o : Order), OrderReady s (.vf t) k 2 o →
    (s.flow? t o.handle = none → exec (.closeEp t k) s = .next (s.endOrder (.vf t) k .notPermitted o.handle.val 0 2)) ∧
    (∀ f, s.flow? t o.handle = some f → s.inTransaction f.entry = true → exec (.closeEp t k) s = .next s) ∧
    (∀ f, s.flow? t o.handle = some f → s.inTransaction f.entry = false →
      (f.xs = [] → f.done = [] → ∃ x, exec (.closeEp t k) s = .next x ∧ x.flow? t o.handle = none ∧
        Ended x (.vf t) k o .success o.handle.val (if f.st = .lost then 2 ^ 32 - 1 else f.consumed.toNat)) ∧
      (f.xs ≠ [] ∨ f.done ≠ [] → ∃ x g, exec (.closeEp t k) s = .next x ∧ x.flow? t o.handle = some g ∧ g.closing = some k ∧
        g.xs = [] ∧ g.resv = none ∧ g.key = none ∧ g.announced = [] ∧ g.done.length = f.done.length + f.xs.length ∧
        (∀ e ∈ (g.done.drop f.done.length).filterMap Done.ev, e.status = some .aborted) ∧ Waits x (.vf t) k o))

/-- R133, R419: RESET_EP clears the controller's halt and no more; SET_DEQUEUE sets the dequeue pointer, CONSUMED and LAST. Both
check NOT_PERMITTED 2, 6, then 5, and the data toggle stays. R134, R419: SET_GROUP waits until no TD of the handle is in flight,
then moves it; a group holds at most 16 flows. -/
def Obligations.HandleOrders : Prop :=
  (∀ (t : TenantId) (k : Nat) (s : State) (o : Order),
    (OrderReady s (.vf t) k 3 o →
      (∀ d, s.haltedChecks t o.handle = some d → exec (.resetEp t k) s = .next (s.endOrder (.vf t) k .notPermitted o.handle.val 0 d)) ∧
      (∀ f, s.flow? t o.handle = some f → f.st = .halted → ∃ x g, exec (.resetEp t k) s = .next x ∧ x.flow? t o.handle = some g ∧
        g.st = .running ∧ g.toggle = f.toggle ∧ g.consumed = f.consumed ∧ g.last = f.last ∧ g.deq = f.deq ∧ g.tds = f.tds ∧
        g.done = f.done ∧ Ended x (.vf t) k o .success o.handle.val 0 ∧ x.devs = s.devs)) ∧
    (OrderReady s (.vf t) k 4 o →
      (field (o.p 1) 0 6 ≠ 0 → exec (.setDequeue t k) s = .next (s.endOrder (.vf t) k .badDescriptor o.handle.val 0 0)) ∧
      (field (o.p 1) 0 6 = 0 → ∀ d, s.haltedChecks t o.handle = some d →
        exec (.setDequeue t k) s = .next (s.endOrder (.vf t) k .notPermitted o.handle.val 0 d)) ∧
      (field (o.p 1) 0 6 = 0 → ∀ f, s.flow? t o.handle = some f → f.st = .halted → ∃ x g, exec (.setDequeue t k) s = .next x ∧
        x.flow? t o.handle = some g ∧ g.st = .halted ∧ g.deq = o.p 1 ∧ g.consumed = (o.p 2).extractLsb' 0 32 ∧
        g.last = (o.p 2).extractLsb' 0 32 ∧ g.toggle = f.toggle ∧ g.done = f.done ∧
        Ended x (.vf t) k o .success o.handle.val 0 ∧ x.devs = s.devs)) ∧
    (∀ h, s.haltedChecks t h = (match s.flow? t h with
      | none => some 2
      | some f => if f.st = .detached ∨ f.st = .lost then some 6 else if f.st = .halted then none else some 5))) ∧
  (∀ (t : TenantId) (k : Nat) (s : State) (o : Order), OrderReady s (.vf t) k 12 o →
    let ends := fun (st : Status) (d : Nat) => exec (.setGroup t k) s = .next (s.endOrder (.vf t) k st o.handle.val 0 d)
    (64 < o.group → ends .badDescriptor 0) ∧
    (o.group ≤ 64 → s.flow? t o.handle = none → ends .notPermitted 2) ∧
    (∀ f, o.group ≤ 64 → s.flow? t o.handle = some f →
      let mates := (s.flows.filter (fun g => g.t = t && g.group = o.group)).length
      (o.group ≠ 0 → f.group ≠ o.group → 16 ≤ mates → ends .notPermitted 13) ∧
      (f.group = o.group ∨ o.group = 0 ∨ mates < 16 →
        (f.tds ≠ [] → exec (.setGroup t k) s = .next s) ∧
        (f.tds = [] → f.done = [] → ∃ x g, exec (.setGroup t k) s = .next x ∧ x.flow? t o.handle = some g ∧ g.group = o.group ∧
          g.last = f.last ∧ g.consumed = f.consumed ∧ g.st = f.st ∧ Ended x (.vf t) k o .success o.handle.val 0 ∧
          x.devs = s.devs))))

/-- R163 to R165, R419: the checks of the port orders, and what PORT_RESET, PORT_SUSPEND and PORT_RESUME start on the device of
a VP. -/
def Obligations.DevicePortOrders : Prop :=
  ∀ (t : TenantId) (k : Nat) (s : State) (o : Order),
    let row := fun (code : Nat) => if code = 5 then Instr.portReset t k else if code = 6 then .portSuspend t k else .portResume t k
    (∀ code, code = 5 ∨ code = 6 ∨ code = 7 → OrderReady s (.vf t) k code o →
      (o.vp = 0 ∨ 64 < o.vp → exec (row code) s = .next (s.endOrder (.vf t) k .badDescriptor o.vp 0 0)) ∧
      (1 ≤ o.vp → o.vp ≤ 64 → o.gone = true → exec (row code) s = .next (s.endOrder (.vf t) k .detached o.vp 0 0)) ∧
      (1 ≤ o.vp → o.vp ≤ 64 → o.gone = false → s.vpDev t o.vp = none →
        exec (row code) s = .next (s.endOrder (.vf t) k .notPermitted o.vp 0 3))) ∧
    (∀ d, 1 ≤ o.vp → o.vp ≤ 64 → o.gone = false → s.vpDev t o.vp = some d → s.dev? d.id = some d → d.reset = .none →
      d.suspendWait = none →
      (OrderReady s (.vf t) k 5 o → d.resume = .none → s.handshaking d.id = false → s.devBusy d.id = false → ∃ x y,
        exec (.portReset t k) s = .next x ∧ x.dev? d.id = some y ∧ y.reset = .order t k ∧ y.suspended = false ∧ y.l1 = false ∧
        (∀ g ∈ x.flows, g.t = t → g.vp = o.vp → g.xs = [] ∨ g.st = .halted ∨ g.st = .detached ∨ g.st = .lost)) ∧
      (OrderReady s (.vf t) k 6 o → d.resume = .none → d.suspended = true →
        exec (.portSuspend t k) s = .next (s.endOrder (.vf t) k .success d.vp 0 0)) ∧
      (OrderReady s (.vf t) k 6 o → d.resume = .none → d.suspended = false → s.devBusy d.id = true → ∃ x y,
        exec (.portSuspend t k) s = .next x ∧ x.dev? d.id = some y ∧ y.suspendWait = some k ∧ y.suspended = false ∧
        Waits x (.vf t) k o) ∧
      (OrderReady s (.vf t) k 6 o → d.resume = .none → d.suspended = false → s.devBusy d.id = false → ∃ x y,
        exec (.portSuspend t k) s = .next x ∧ x.dev? d.id = some y ∧ y.suspended = true ∧ Ended x (.vf t) k o .success d.vp 0) ∧
      (OrderReady s (.vf t) k 7 o → d.resume = .none → d.suspended = false →
        exec (.portResume t k) s = .next (s.endOrder (.vf t) k .success d.vp 0 0)) ∧
      (OrderReady s (.vf t) k 7 o → d.resume = .none → d.suspended = true → ∃ x y, exec (.portResume t k) s = .next x ∧
        x.dev? d.id = some y ∧ y.resumeOrder = some k ∧ (y.resume = .signalling ∨ y.resume = .waiting) ∧ Waits x (.vf t) k o))

/-- R264, R280, R287, R358, R419: SEAL_PIPE and UNSEAL_PIPE act once no TD is in flight; NEXT_COUNT hands out consecutive values
within the lease; ATTEST is signed by a SEAL_ARITH item. -/
def Obligations.SealingAndCountOrders : Prop :=
  ∀ (t : TenantId) (k : Nat) (s : State) (o : Order),
    (OrderReady s (.vf t) k 8 o →
      (∀ d, s.sealChecks t o.handle = some d → exec (.sealPipe t k) s = .next (s.endOrder (.vf t) k .notPermitted o.handle.val 0 d)) ∧
      (∀ f, s.flow? t o.handle = some f → s.sealChecks t o.handle = none → f.tds ≠ [] → exec (.sealPipe t k) s = .next s) ∧
      (∀ f, s.flow? t o.handle = some f → s.sealChecks t o.handle = none → f.tds = [] → s.sealStep1 t false = none → ∃ x,
        exec (.sealPipe t k) s = .next x ∧ Waits x (.vf t) k o ∧ x.flows = s.flows ∧
        (∃ y ∈ x.seals.hs, y.t = t ∧ y.h = o.handle ∧ y.rekey = false ∧ (y.step = .pipe ∨ y.step = .hello)))) ∧
    (OrderReady s (.vf t) k 9 o → ∀ f, s.flow? t o.handle = some f → f.st = .running ∨ f.st = .halted →
      (f.key = none → exec (.unsealPipe t k) s = .next (s.endOrder (.vf t) k .notPermitted o.handle.val 0 10)) ∧
      (∀ c, f.key = some c →
        (s.sealPolicy (s.classOf f) = 1 → exec (.unsealPipe t k) s = .next (s.endOrder (.vf t) k .notPermitted o.handle.val 0 8)) ∧
        (s.sealPolicy (s.classOf f) ≠ 1 → f.tds ≠ [] → exec (.unsealPipe t k) s = .next s) ∧
        (s.sealPolicy (s.classOf f) ≠ 1 → f.tds = [] → ∃ x g, exec (.unsealPipe t k) s = .next x ∧
          x.flow? t o.handle = some g ∧ g.key = none ∧ g.st = f.st ∧ Ended x (.vf t) k o .success o.handle.val 0))) ∧
    (OrderReady s (.vf t) k 10 o →
      (∀ st d, s.countChecks t o = some (st, d) → exec (.nextCount t k) s = .next (s.endOrder (.vf t) k st 0 0 d)) ∧
      (s.countChecks t o = none → s.peat.powerFail = true → exec (.nextCount t k) s = .next (s.waitOrder (.vf t) k)) ∧
      (let i := o.counterIdx t
       s.countChecks t o = none → s.peat.powerFail = false → (s.counter i).next + o.count ≤ (s.counter i).limit → ∃ x,
        exec (.nextCount t k) s = .next x ∧ (x.counter i).next = (s.counter i).next + o.count ∧
        (x.counter i).limit = (s.counter i).limit ∧
        (let ev := countEv (field (o.p 0) 0 2) (s.withEpoch (s.counter i).next) o.count (o.w 1)
         x.order? (.vf t) k = some { o with stage := .ended, ev := ev }) ∧
        (∀ j, j < 1024 → j ≠ i → x.counter j = s.counter j))) ∧
    (OrderReady s (.vf t) k 11 o →
      (field (o.p 0) 0 3 ≠ 0 → exec (.attest t k) s = .next (s.endOrder (.vf t) k .badDescriptor 0 0 0)) ∧
      (field (o.p 0) 0 3 = 0 → s.fuses.revoked = true → exec (.attest t k) s = .next (s.endOrder (.vf t) k .notPermitted 0 0 12)) ∧
      (field (o.p 0) 0 3 = 0 → s.fuses.revoked = false → ∃ x, exec (.attest t k) s = .next x ∧ Waits x (.vf t) k o ∧
        x.hasItem .sealArith (attestArg t k) = true ∧ x.flows = s.flows)) ∧
    (∀ u, s.order? (.vf t) k = some o → o.code = 11 → o.stage = .waiting → o.ghost = false →
      s.itemCore .sealArith (attestArg t k) = some u → ∃ x, exec (.sealArith (.attest t k)) s = .next x ∧
      (vget x.sched.cores u).op = none ∧ x.flows = s.flows ∧
      (s.canSend (.vf t) = true → x.order? (.vf t) k = some { o with stage := .ended, ev := o.doneEv .success 0 192 0 }) ∧
      (s.canSend (.vf t) = false → x.order? (.vf t) k = some { o with stage := .ended, ev := o.doneEv .dmaFault 0 0 0 }))

/-- R292, R295, R300, R302: the tenancy orders. -/
def Obligations.TenancyOrders : Prop :=
  ∀ (k : Nat) (s : State) (o : Order),
    (OrderReady s .pf0 k 0x40 o → ∀ e, s.entry? o.tenant = some e →
      ((s.tenant o.tenant).st = .quiesced → ∃ x, exec (.tenEnable k) s = .next x ∧ (x.tenant o.tenant).st = .active ∧
        (x.tenant o.tenant).lastEnable = 0 ∧ Ended x .pf0 k o .success o.tenant.val 0) ∧
      ((s.tenant o.tenant).st = .standby → s.missing o.tenant e.init.epQuota = 0 → ∃ x, exec (.tenEnable k) s = .next x ∧
        (x.tenant o.tenant).st = .standby ∧ (x.tenant o.tenant).swap = some e.init ∧ Waits x .pf0 k o) ∧
      ((s.tenant o.tenant).st = .standby → s.missing o.tenant e.init.epQuota ≠ 0 → ∃ x, exec (.tenEnable k) s = .next x ∧
        (x.tenant o.tenant).lastEnable = 0x10 ∧ x.flows = s.flows ∧
        Ended x .pf0 k o .overQuota o.tenant.val (s.missing o.tenant e.init.epQuota))) ∧
    (OrderReady s .pf0 k 0x40 o → s.entry? o.tenant = none → ∃ x, exec (.tenEnable k) s = .next x ∧
      Ended x .pf0 k o .outOfEnvelope o.tenant.val 0xFF) ∧
    (OrderReady s .pf0 k 0x41 o → (s.entry? o.tenant).isSome = true →
      ((s.tenant o.tenant).st = .quiesced → exec (.tenQuiesce k) s = .next (s.endOrder .pf0 k .success o.tenant.val 0 0)) ∧
      ((s.tenant o.tenant).st = .quiescing → exec (.tenQuiesce k) s = .next (s.endOrder .pf0 k .notPermitted o.tenant.val 0 1)) ∧
      ((s.tenant o.tenant).st = .active → ∃ x, exec (.tenQuiesce k) s = .next x ∧ (x.tenant o.tenant).st = .quiescing ∧
        Waits x .pf0 k o) ∧
      ((s.tenant o.tenant).st = .standby → exec (.tenQuiesce k) s = .next (s.endOrder .pf0 k .notPermitted o.tenant.val 0 1))) ∧
    (OrderReady s .pf0 k 0x42 o → (s.entry? o.tenant).isSome = true → (s.tenant o.tenant).st = .quiesced → (s.tenant o.tenant).vf = true →
      ∃ x, exec (.tenReset k) s = .next x ∧ (x.tenant o.tenant).st = .standby ∧ (x.tenant o.tenant).share = none ∧
        (∀ g ∈ x.flows, g.t ≠ o.tenant) ∧ x.devs = s.devs ∧ Ended x .pf0 k o .success o.tenant.val (s.handles o.tenant)) ∧
    (OrderReady s .pf0 k 0x42 o → (s.entry? o.tenant).isSome = true → (s.tenant o.tenant).st ≠ .quiesced →
      exec (.tenReset k) s = .next (s.endOrder .pf0 k .notPermitted o.tenant.val 0 1)) ∧
    (OrderReady s .pf0 k 0x43 o → (s.entry? o.tenant).isSome = true → (s.tenant o.tenant).st = .quiesced → (s.tenant o.tenant).vf = true →
      s.devs = [] → ∃ x, exec (.tenRelease k) s = .next x ∧ (x.tenant o.tenant).st = .standby ∧
        (∀ g ∈ x.flows, g.t ≠ o.tenant) ∧ Ended x .pf0 k o .success o.tenant.val (s.handles o.tenant)) ∧
    (OrderReady s .pf0 k 0x44 o → ∀ t : TenantId, t.val = field (o.p 5) 8 8 →
      (s.shareOk o t = false → exec (.setShare k) s = .next (s.endOrder .pf0 k .badDescriptor t.val 0 0)) ∧
      (∀ e, s.shareOk o t = true → s.entry? t = some e → (s.tenant t).st = .active ∨ (s.tenant t).st = .quiesced →
        o.shareMask ≠ 0 → s.missing t (o.newShare t (s.share t)).epQuota = 0 →
        (∀ i, o.outside t e = some i → exec (.setShare k) s = .next (s.endOrder .pf0 k .outOfEnvelope t.val 0 i)) ∧
        (o.outside t e = none → ∃ x, exec (.setShare k) s = .next x ∧ (x.tenant t).swap = some (o.newShare t (s.share t)) ∧
          (x.tenant t).share = (s.tenant t).share ∧ (x.tenant t).st = (s.tenant t).st ∧ Waits x .pf0 k o)))

/-- R156, R157: GRANT gives an UNMATCHED device to a tenant; REVOKE ends a grant and resets the device. -/
def Obligations.GrantOrders : Prop :=
  ∀ (k : Nat) (s : State) (o : Order),
    (OrderReady s .pf0 k 0x45 o → o.grantVpField ≤ 64 →
      (s.devAt o.device = none → exec (.grant k) s = .next (s.endOrder .pf0 k .notPermitted o.grantVpField 0 1)) ∧
      (∀ d, s.devAt o.device = some d → s.dev? d.id = some d → d.reset = .none → d.resetWait = .none → d.resume = .none →
        (d.st ≠ .unmatched → exec (.grant k) s = .next (s.endOrder .pf0 k .notPermitted o.grantVpField 0 1)) ∧
        (d.st = .unmatched → s.entry? o.grantTenant = none →
          exec (.grant k) s = .next (s.endOrder .pf0 k .notPermitted o.grantVpField 0 2)) ∧
        (d.st = .unmatched → (s.entry? o.grantTenant).isSome = true → s.grantVp o.grantTenant o.grantVpField = none →
          exec (.grant k) s = .next (s.endOrder .pf0 k .notPermitted o.grantVpField 0 3)) ∧
        (∀ v, d.st = .unmatched → (s.entry? o.grantTenant).isSome = true → s.grantVp o.grantTenant o.grantVpField = some v →
          s.pathAsleep d = false → ∃ x y, exec (.grant k) s = .next x ∧ x.dev? d.id = some y ∧ y.st = .granted ∧
            y.tenant = some o.grantTenant ∧ y.vp = v ∧ y.addr = d.addr ∧ Ended x .pf0 k o .success v v))) ∧
    (OrderReady s .pf0 k 0x46 o →
      (s.devAt o.device = none → exec (.revoke k) s = .next (s.endOrder .pf0 k .notPermitted 0 0 4)) ∧
      (∀ d, s.devAt o.device = some d → d.st ≠ .granted → exec (.revoke k) s = .next (s.endOrder .pf0 k .notPermitted 0 0 4)) ∧
      (∀ d t, s.devAt o.device = some d → s.dev? d.id = some d → d.st = .granted → d.tenant = some t → d.reset = .none → d.resume = .none →
        d.suspendWait = none → s.pathAsleep d = false → ∃ x y, exec (.revoke k) s = .next x ∧ x.dev? d.id = some y ∧
          y.st = .unmatched ∧ y.tenant = none ∧ y.vp = 0 ∧ y.reset = .revoke k d.vp ∧ Waits x .pf0 k o))

/-- R251 to R253: staging, committing and cancelling a port's gate list. -/
def Obligations.SluiceOrders : Prop :=
  ∀ (k : Nat) (s : State) (o : Order),
    let p := o.sluicePort
    let q := vget s.sluice.ports p
    let n := field (o.p 0) 8 8
    (OrderReady s .pf0 k 0x47 o → ∀ l : List Word,
      (n = 0 ∨ 128 < n → exec (.sluiceStage k (some l)) s = .next (s.endOrder .pf0 k .badDescriptor 0 0 0)) ∧
      (1 ≤ n → n ≤ 128 →
        (s.sluice.staging = false → exec (.sluiceStage k (some l)) s = .next (s.endOrder .pf0 k .notPermitted 0 0 1)) ∧
        (s.sluice.staging = true → q.state = .pending → exec (.sluiceStage k (some l)) s = .next (s.endOrder .pf0 k .notPermitted 0 0 2)) ∧
        (s.sluice.staging = true → q.state ≠ .pending → s.canSend .pf0 = true → l.length = n →
          (∀ i, l.findIdx? (fun w => !(gateWordOk w)) = some i →
            exec (.sluiceStage k (some l)) s =
              .next ((s.sendRead .pf0 (o.p 1) (8 * n)).endOrder .pf0 k .badDescriptor 0 0 (0x100 + i))) ∧
          ((∀ w ∈ l, gateWordOk w = true) → cycleOf (l.map gateEntry) ≤ 1000000000 → ∃ x, exec (.sluiceStage k (some l)) s = .next x ∧
            vget x.sluice.ports p = { q with admin := l.map gateEntry, state := .staged } ∧ Ended x .pf0 k o .success 0 0 ∧
            (∀ r, r ≠ p → vget x.sluice.ports r = vget s.sluice.ports r))))) ∧
    (OrderReady s .pf0 k 0x48 o → o.cancel = false →
      (s.sluice.staging = false → exec (.sluiceCommit k) s = .next (s.endOrder .pf0 k .notPermitted 0 0 1)) ∧
      (s.sluice.staging = true → q.state = .empty → exec (.sluiceCommit k) s = .next (s.endOrder .pf0 k .notPermitted 0 0 3)) ∧
      (s.sluice.staging = true → q.state ≠ .empty →
        let bad := s.gateConflicts p q.admin (o.p 1).toNat
        (bad ≠ [] → o.force = false → ∃ e, exec (.sluiceCommit k) s = .next (s.endOrder .pf0 k .gateConflict 0 0 e) ∧
          ∀ f ∈ bad, e ≤ f.entry) ∧
        (bad = [] ∨ o.force = true → ∃ x, exec (.sluiceCommit k) s = .next x ∧ Ended x .pf0 k o .success 0 bad.length ∧
          (let at_ := switchTime (o.p 1).toNat (cycleOf q.admin) (s.time.now + s.sluice.lead)
           vget x.sluice.ports p = { q with state := .pending, adminBase := (o.p 1).toNat, switchAt := at_ })))) ∧
    (OrderReady s .pf0 k 0x48 o → o.cancel = true →
      (o.p 1 ≠ 0 → exec (.sluiceCancel k) s = .next (s.endOrder .pf0 k .badDescriptor 0 0 0)) ∧
      (o.p 1 = 0 → s.sluice.staging = true → ∃ x, exec (.sluiceCancel k) s = .next x ∧ Ended x .pf0 k o .success 0 0 ∧
        vget x.sluice.ports p = { q with state := .empty, admin := [], switchAt := 0 })) ∧
    (∀ base cycle soonest, 0 < cycle → soonest ≤ switchTime base cycle soonest ∧ base ≤ switchTime base cycle soonest ∧
      (switchTime base cycle soonest - base) % cycle = 0)

/-- R70, R72, R282, R375: the manager orders that write an image, claim the unit, clear a quarantine and export the log. R233:
TRACE_CTL starts, stops and clears. -/
def Obligations.ImagePeatAndTraceOrders : Prop :=
  (∀ (k : Nat) (s : State) (o : Order),
    (OrderReady s .pf0 k 0x49 o →
      let len := field (o.p 1) 0 32
      let off := field (o.p 1) 32 24
      let slot : Fin 2 := if (o.p 2).getLsbD 1 then 1 else 0
      ∀ d fl, (len = 0 ∨ len % 8 ≠ 0 ∨ 65536 < len ∨ 2 ^ 23 < off + len →
          exec (.imageWrite k d fl) s = .next (s.endOrder .pf0 k .badDescriptor 0 0 0)) ∧
        (len ≠ 0 → len % 8 = 0 → len ≤ 65536 → off + len ≤ 2 ^ 23 → s.img.active = slot.val + 1 →
          exec (.imageWrite k d fl) s = .next (s.endOrder .pf0 k .notPermitted 0 0 1)) ∧
        (len ≠ 0 → len % 8 = 0 → len ≤ 65536 → off = 0 → s.img.active ≠ slot.val + 1 → s.peat.powerFail = false →
          s.canSend .pf0 = true → (o.p 2).getLsbD 0 = false → ∀ b : List Byte, ∃ x, exec (.imageWrite k (some b) .ok) s = .next x ∧
            x.img.writeState = 1 ∧ x.img.writeSlot = slot ∧ x.img.stream = rdBytes b 0 len ∧ x.img.active = s.img.active ∧
            Ended x .pf0 k o .success 0 0)) ∧
    (OrderReady s .pf0 k 0x4C o →
      (s.fuses.ownerHash ≠ 0 → ∀ h r, exec (.provisionClaim k h r) s = .next (s.endOrder .pf0 k .notPermitted 0 0 1)) ∧
      (s.fuses.ownerHash = 0 → (o.p 0).getLsbD 0 = true → s.canSend .pf0 = true → ∀ h r : BitVec 256, ∃ x,
        exec (.provisionClaim k (some h) r) s = .next x ∧ x.fuses = { s.fuses with ownerHash := r } ∧
        (r = h → Ended x .pf0 k o .success 0 0) ∧ (r ≠ h → Ended x .pf0 k o .notPermitted 0 3))) ∧
    (OrderReady s .pf0 k 0x4A o →
      ((o.p 0).getLsbD 16 = true → field (o.p 0) 0 11 ≠ 0 →
        exec (.sealClearQuarantine k) s = .next (s.endOrder .pf0 k .badDescriptor 0 0 0)) ∧
      (s.peatUp = false → (o.p 0).getLsbD 16 = false → exec (.sealClearQuarantine k) s = .next (s.endOrder .pf0 k .peatUnavailable 0 0 0)) ∧
      (s.peatUp = true → (o.p 0).getLsbD 16 = true → field (o.p 0) 0 11 = 0 → s.peat.quars = [] →
        exec (.sealClearQuarantine k) s = .next (s.endOrder .pf0 k .notPermitted 0 0 1)) ∧
      (s.peatUp = true → (o.p 0).getLsbD 16 = true → field (o.p 0) 0 11 = 0 → s.peat.quars ≠ [] → ∃ x y,
        exec (.sealClearQuarantine k) s = .next x ∧ x.order? .pf0 k = some y ∧ y.stage = .waiting ∧ x.flows = s.flows)) ∧
    (OrderReady s .pf0 k 0x4B o →
      let max := field (o.p 1) 0 16
      (max = 0 ∨ 1024 < max → exec (.peatExport k) s = .next (s.endOrder .pf0 k .badDescriptor 0 0 0)) ∧
      (1 ≤ max → max ≤ 1024 → s.peat.state = .absent → exec (.peatExport k) s = .next (s.endOrder .pf0 k .peatUnavailable 0 0 0)) ∧
      (1 ≤ max → max ≤ 1024 → s.peat.state ≠ .absent →
        let l := (s.retained.filter (fun e => (o.p 2).toNat ≤ e.index)).take max
        (s.canSend .pf0 = true ∨ l = [] → ∃ x, exec (.peatExport k) s = .next x ∧ x.flows = s.flows ∧ x.peat = s.peat ∧
        (let lost := Nat.min (s.peat.logFirst - (o.p 2).toNat) (2 ^ 32 - 1)
         x.order? .pf0 k = some { o with stage := .ended, ev := o.doneEv .success 0 (64 * l.length) lost })) ∧
        (s.canSend .pf0 = false → l ≠ [] → exec (.peatExport k) s = .next (s.endOrder .pf0 k .dmaFault 0 0 0))))) ∧
  (∀ (k : Nat) (s : State) (o : Order), OrderReady s .pf0 k 0x4D o →
    let action := field (o.p 0) 0 2
    let log2 := field (o.p 2) 0 5
    (action = 1 → 8 ≤ log2 → log2 ≤ 16 →
      (s.trace.spilling = false → ∃ x, exec (.traceStart k) s = .next x ∧ Ended x .pf0 k o .success 0 0 ∧
        x.trace = { s.trace with spilling := true, pi := 0, ci := 0, base := o.p 1, log2 := log2 }) ∧
      (s.trace.spilling = true → exec (.traceStart k) s = .next (s.endOrder .pf0 k .notPermitted 0 0 1))) ∧
    (action = 0 → o.p 1 = 0 → log2 = 0 →
      (s.trace.spilling = false → exec (.traceStop k) s = .next (s.endOrder .pf0 k .success 0 0 0)) ∧
      (s.trace.spilling = true → ∃ x y, exec (.traceStop k) s = .next x ∧ x.trace = { s.trace with spilling := false } ∧
        x.order? .pf0 k = some y ∧ (y.stage = .waiting ∨ y.stage = .ended))) ∧
    (action = 2 → o.p 1 = 0 → log2 = 0 → ∃ x, exec (.traceClear k) s = .next x ∧ Ended x .pf0 k o .success 0 0 ∧
      x.trace = { s.trace with buf := [], lost := 0 }) ∧
    (action = 3 → ∀ c, c = Instr.traceStart k ∨ c = .traceStop k ∨ c = .traceClear k →
      exec c s = .next (s.endOrder .pf0 k .badDescriptor 0 0 0)))

/-- R211 to R217, R228: one SCHED cycle places at most one operation, in an empty slot of a unit that is not fenced, and ITEM
mode of the DATA area keeps workers as they are; what is in a slot stays there. An endpoint that sent NRDY may be ready again
(the model's free draw, log 8). While SCHED sleeps or restarts nothing is placed, and a task that can be listed wakes it. -/
def Obligations.DispatchPlacement : Prop :=
  ∀ (s : State),
    (s.running .sched = false → exec .dispatch s = .next s ∨ exec .dispatch s = .next (s.rouse .sched)) ∧
    (s.restarting .sched = true → exec .dispatch s = .next s) ∧
    (s.running .sched = true → ∃ x, exec .dispatch s = .next x ∧
      (x.sched.decisions = s.sched.decisions ∨ x.sched.decisions = (s.sched.decisions + 1) % 2 ^ 64) ∧
      (∀ w o, (vget s.sched.workers w).cur = some o → (vget x.sched.workers w).cur = some o) ∧
      (∀ w o, (vget s.sched.workers w).next = some o → (vget x.sched.workers w).next = some o) ∧
      (∀ c o, (vget s.sched.cores c).op = some o → (vget x.sched.cores c).op = some o) ∧
      (∀ w, (vget s.sched.workers w).fenced = true → vget x.sched.workers w = vget s.sched.workers w) ∧
      (∀ c, (vget s.sched.cores c).fenced = true → vget x.sched.cores c = vget s.sched.cores c) ∧
      (s.sched.data = .item → x.sched.workers = s.sched.workers) ∧
      x.flows.map (fun g => { g with nrdy := false }) = s.flows.map (fun g => { g with nrdy := false }) ∧
      ((∀ g ∈ s.flows, g.nrdy = false) → x.flows = s.flows) ∧ x.devs = s.devs ∧ x.time = s.time ∧ x.fuses = s.fuses)

/-- R112, R115, R130: a FETCH of the manager's order flow takes the entries that its read returned, and one of an endpoint flow
the next TD slot, or follows a valid LINK. -/
def Obligations.FetchTakesEntries : Prop :=
  ∀ (w : WorkerId) (o : Op) (s : State), Works s (.worker w) o .fetch → o.arg ≠ 0 →
    (o.task = 16640 → (∀ g ∈ s.flows, g.entry < 16384) → s.canSend .pf0 = true → ∀ l : List (List Word), ∃ x,
      let got := l.take o.arg
      exec (.fetch (.worker w) (some l)) s = .next x ∧ Promoted s x w ∧
      x.mgr.cons = (s.mgr.cons + got.length) % s.mgr.orderSize ∧ x.mgr.orders.map (fun y => y.words) =
        s.mgr.orders.map (fun y => y.words) ++ got ∧ x.flows = s.flows) ∧
    (∀ f, s.flows.find? (fun g => g.entry = o.task) = some f → s.flow? f.t f.h = some f → (s.tenant f.t).st = .active →
      f.st = .running → f.slots = o.ref → f.fetchFault = false → f.ending = none → s.canSend (.vf f.t) = true → o.task < 16384 →
      ∀ td : List Word, ∃ x g, exec (.fetch (.worker w) (some [td])) s = .next x ∧ x.flow? f.t f.h = some g ∧
        Promoted s x w ∧ g.consumed = f.consumed + 1 ∧ g.slots = f.slots + 1 ∧
        (f.linkOk td = true → g.deq = td.getD 1 0 ∧ g.tds.length = f.tds.length) ∧
        (f.linkOk td = false → g.deq = f.deq + 64 ∧ g.tds.length = f.tds.length + 1))

/-- R68, R129, R130: CHECK of an order refuses it on an imageless controller, then for its code and reserved bits, and else
starts its action. R114, R115: CHECK of a TD passes it or ends its transfer, BAD_DESCRIPTOR for an invalid one. -/
def Obligations.CheckJudges : Prop :=
  ∀ (s : State) (o : Op), (∀ g ∈ s.flows, g.entry < 16384) →
    (∀ (c : CoreId) r, Works s (.core c) o .check → o.task = 16640 → s.order? .pf0 o.ref = some r → r.stage = .fetched → ∃ x y,
      let ok := codeAccepted .pf0 r.code
      let image := r.code = 0x49 ∨ r.code = 0x4B ∨ r.code = 0x4C ∨ r.code = 0x4D ∨ s.img.image ≠ none
      exec (.check (.core c)) s = .next x ∧ x.order? .pf0 o.ref = some y ∧ y.words = r.words ∧ y.inSlot = false ∧
      (vget x.sched.cores c).op = none ∧
      (ok = true → ¬ image → y.stage = .ended ∧ y.ev = r.doneEv .notPermitted r.target 0 255) ∧
      (ok = true → image → r.reservedOk = true → y.stage = .acting) ∧
      (ok = true → image → r.reservedOk = false → y.stage = .ended ∧ y.ev.status = some .badDescriptor ∧ y.ev.detail = 0) ∧
      (ok = false → y.stage = .ended ∧ y.ev.status = some .badDescriptor ∧ y.ev.detail = 0)) ∧
    (∀ (w : WorkerId) f d y, Works s (.worker w) o .check → o.task < 16384 →
      s.flows.find? (fun g => g.entry = o.task) = some f → s.flow? f.t f.h = some f → (s.tenant f.t).st = .active →
      f.fetchFault = false → f.ending = none → f.checkNext = some d → d.slot = o.ref → f.xfer? d.x = some y → ∃ x g e,
        exec (.check (.worker w)) s = .next x ∧ x.flow? f.t f.h = some g ∧ g.tds.find? (fun e => e.slot = d.slot) = some e ∧
        e.stage = .checked ∧ g.consumed = f.consumed ∧ g.deq = f.deq ∧ (f.tdOk y d = false → ∃ z, g.xfer? y.id = some z ∧
          z.status = some (.badDescriptor, 0) ∧ z.stop = some d.slot))

/-- R218, R272 to R278: MOVE carries one piece, SEAL one unit of what is sent, UNSEAL one of what was received, which a wrong
header or tag rejects. -/
def Obligations.DataNodes : Prop :=
  ∀ (w : WorkerId) (o : Op) (f : Flow) (s : State), o.task < 16384 →
    s.flows.find? (fun g => g.entry = o.task) = some f → s.flow? f.t f.h = some f → (s.tenant f.t).st = .active → f.fetchFault = false →
    f.ending = none →
    (Works s (.worker w) o .move → ∀ p y d readOk, f.movePiece = some p → f.xfer? p.x = some y → f.tds.find? (fun e => e.slot = p.slot) = some d →
      p.slot = o.ref → s.canSend (.vf f.t) = true → (f.xIn y = true ∨ readOk = true) → ∃ x g z,
        exec (.move (.worker w) readOk) s = .next x ∧ x.flow? f.t f.h = some g ∧ g.xfer? y.id = some z ∧ z.moved = y.moved + p.bytes ∧
        g.tds.length = f.tds.length ∧ x.devs = s.devs) ∧
    (Works s (.worker w) o .seal → ∀ id n k y, f.sealNext = some (id, n) → f.key = some k → f.xfer? id = some y →
      (match s.nodeTd f .seal with | some d => d.slot | none => 0) = o.ref → ∀ text : List Byte, text.length = n → ∃ x g z,
        exec (.seal ⟨.worker w, text⟩) s = .next x ∧ x.flow? f.t f.h = some g ∧ g.xfer? id = some z ∧ z.units = y.units + 1 ∧
        z.plain = y.plain + n ∧ z.buf.length = y.buf.length + n + 24 ∧ g.key ≠ none) ∧
    (Works s (.worker w) o .unseal → ∀ id n k y, f.unsealNext = some (id, n) → f.key = some k → f.xfer? id = some y →
      (match s.nodeTd f .unseal with | some d => d.slot | none => 0) = o.ref → ∀ (epoch : Byte) (seq cipher tag : List Byte),
        let unit := epoch :: (seq ++ cipher ++ tag)
        unit.length = n →
        let good := headerOk k f.iso (unitEpoch unit) (unitSeq unit) ≠ none ∧ unitTagOk (digestBytes k.prk) f.isIn f.ep.addr unit = true
        ∃ x, exec (.unseal (.worker w) epoch seq cipher tag) s = .next x ∧
          (good → y.plain + (n - 24) ≤ f.known y → ∃ g z c, x.flow? f.t f.h = some g ∧ g.xfer? id = some z ∧
            z.units = y.units + 1 ∧ z.plain = y.plain + (n - 24) ∧ z.used = y.used + (n - 24) + 24 ∧ g.key = some c ∧
            c.seq = unitSeq unit + 1) ∧
          (¬good → x.seals.unitFails = Nat.min (s.seals.unitFails + 1) (2 ^ 32 - 1))) ∧
    (∀ k : KeyCtx, ∀ iso, headerOk k iso k.epoch k.seq = (if 2 ^ 32 ≤ k.seq ∨ 256 ≤ k.epoch then none else some false))

/-- R196, R200: what the outcome of a bus transaction does to its transfer: STALL and the third error in a row end it, a NAK is
counted and clears the strikes, a transaction that did not start changes nothing; the device leaves its low-power link state. -/
def Obligations.TransactionOutcomes : Prop :=
  ∀ (w : WorkerId) (o : Op) (f : Flow) (id : Nat) (tx : Tx) (y : Xfer) (s : State), Works s (.worker w) o .issue →
    o.task < 16384 → s.flows.find? (fun g => g.entry = o.task) = some f →
    s.flow? f.t f.h = some f → (s.tenant f.t).st = .active → f.fetchFault = false → f.ending = none → o.tx = some (id, tx) → f.xfer? id = some y →
    y.status = none → y.expires = none → f.iso = false → f.key ≠ none ∨ y.unit = 0 →
    let done := fun (out : BusOutcome) (p : State → Flow → Xfer → Prop) => ∃ x g z, exec (.issue (.worker w) out) s = .next x ∧
      x.flow? f.t f.h = some g ∧ g.xfer? id = some z ∧ Promoted s x w ∧ p x g z
    done .stall (fun _ _ z => z.status = some (.stall, 0)) ∧
    done .babble (fun _ _ z => z.status = some (.babble, 0)) ∧
    (∀ out, out = .error ∨ out = .noResponse →
      (2 ≤ f.strikes → done out (fun _ _ z => z.status = some (.busError, 0) ∧ z.errs = y.errs + 1)) ∧
      (f.strikes < 2 → done out (fun _ g z => g.strikes = f.strikes + 1 ∧ z.errs = y.errs + 1))) ∧
    done .nak (fun _ g z => g.strikes = 0 ∧ z.naks = y.naks + 1 ∧ z.wire = y.wire) ∧
    done .notStarted (fun _ g z => g.strikes = f.strikes ∧ z.wire = y.wire ∧ z.naks = y.naks ∧ z.errs = y.errs) ∧
    done .stall (fun x _ _ => ∀ d, x.dev? f.dev = some d → d.l1 = false ∧ d.linkU = 0)

/-- R106, R218, R222, R223: RETIRE settles a TD or an order, RELEASE frees what has retired in order and gives its event an
index, NOTIFY writes the event at its index. -/
def Obligations.RetireReleaseNotify : Prop :=
  ∀ (s : State),
    (∀ (w : WorkerId) o,
      (Works s (.worker w) o .retire → o.task = 16640 → (∀ g ∈ s.flows, g.entry < 16384) → ∀ r, s.order? .pf0 o.ref = some r → r.stage = .ended →
        ∀ caps, ∃ x, exec (.retire ⟨.worker w, caps⟩) s = .next x ∧ x.order? .pf0 o.ref = some { r with stage := .retired, inSlot := false }) ∧
      (Works s (.worker w) o .retire → o.task < 16384 → ∀ f d y, s.flows.find? (fun g => g.entry = o.task) = some f → s.flow? f.t f.h = some f →
        (s.tenant f.t).st = .active → f.fetchFault = false → f.ending = none → f.retireNext = some d → d.slot = o.ref → f.xfer? d.x = some y →
        d.isEnd = true → ∀ caps, ∃ x g, exec (.retire ⟨.worker w, caps⟩) s = .next x ∧ x.flow? f.t f.h = some g ∧
          g.done.length = f.done.length + 1 ∧ g.xfer? y.id = none) ∧
      (Works s (.worker w) o .notify → o.task = 16640 → (∀ g ∈ s.flows, g.entry < 16384) → s.canSend .pf0 = true → s.pf.held = [] →
        ∀ n, s.mgr.notify.find? (fun n => n.idx = o.ref && n.placed && !n.reported) = some n → ∃ x,
          let at_ := s.mgr.eventBase + BitVec.ofNat 64 (n.idx * 32)
          exec (.notify (.worker w)) s = .next x ∧ x.flows = s.flows ∧
          x.out = .post .pf0 (.event n.idx at_ (s.eventWords .pf0 n o.time)) :: s.out)) ∧
    (∀ f o, s.runs f = true → (s.rings f).orders = [o] → o.ghost = false → o.stage = .retired → (s.rings f).buf = [] →
      (s.rings f).again = [] → (s.rings f).en = true → (s.rings f).hasFree = true → (∀ g ∈ s.flows, g.done = [] ∧ g.closing = none) → ∃ x,
        exec (.release f) s = .next x ∧ (x.rings f).orders = [] ∧ x.flows = s.flows ∧
        (let r := s.rings f
         (x.rings f).notify = r.notify ++ [{ idx := r.alloc, cycle := r.cycle, ev := o.ev }])) ∧
    (∀ t f d, s.runs (.vf t) = true → s.flows = [f] → f.t = t → f.closing = none → f.done = [d] → s.dueDone f = some d → ∃ x g,
      exec (.release (.vf t)) s = .next x ∧ x.flow? t f.h = some g ∧ g.done = [] ∧ g.st = f.st)

/-- R203, R206, R175, R176, R232: a transfer's TIMEOUT at a boundary, U1 and U2, the frame trim, and the spill of a trace
record. -/
def Obligations.TimeoutsAndInternalOps : Prop :=
  ∀ (s : State),
    (∀ t h f y l e, s.flow? t h = some f → f.xs = y :: l → s.inTransaction f.entry = false → y.status = none → f.busDone y = false →
      f.fetchFault = false → f.ending = none → y.expires = some e → e ≤ s.time.now → ∃ x g z, exec (.transferTimeout t h) s = .next x ∧
        x.flow? t h = some g ∧ g.xfer? y.id = some z ∧ z.status = some (.timeout, 0)) ∧
    (∀ d y b u1 u2, s.dev? d = some y → y.uWait = true → y.bos = some b → b.u2Exit ≤ 2000 →
      s.reqOver d (fun r => r = .setU1) (u1 = .ok) = true → s.reqOver d (fun r => r = .setU2) (u2 = .ok) = true → ∃ x z,
      exec (.u1U2Enable d u1 u2) s = .next x ∧ x.dev? d = some z ∧ z.uWait = false ∧ z.u1 = decide (u1 = .ok) ∧
      z.u2 = decide (u2 = .ok) ∧ x.reqOf d (fun r => r = .setU1) = none ∧ x.reqOf d (fun r => r = .setU2) = none ∧ x.flows = s.flows) ∧
    (∀ d y, s.dev? d = some y → y.uWait = false → ∀ u1 u2, exec (.u1U2Enable d u1 u2) s = .next s) ∧
    (∀ (w : WorkerId) o, Awake s → (vget s.sched.workers w).cur = some o → o.item = none → o.kind = .internal → o.stale = false →
      (∀ g ∈ s.flows, g.entry < 16384) →
      (o.task = 16657 → o.node = .issue → ∃ x, exec (.frameTrim (.worker w)) s = .next x ∧ x.frames = s.frames.trim ∧
        Promoted s x w ∧ x.flows = s.flows) ∧
      (o.task = 16662 → o.node = .move → s.canSpill = true → s.canSend .pf0 = true → s.pf.held = [] → ∀ r l, s.trace.buf = r :: l →
        ∃ x, let at_ := s.trace.base + BitVec.ofNat 64 (s.spillIndex * 16)
          exec (.traceSpill (.worker w)) s = .next x ∧ x.trace.buf = l ∧ x.trace.pi = (s.spillIndex + 1) % 2 ^ s.trace.log2 ∧
          x.out = .post .pf0 (.spill s.spillIndex at_ [r.extractLsb' 0 64, r.extractLsb' 64 64]) :: s.out)) ∧
    (∀ x : Frames, x.lock = .slewing → (x.phase.natAbs ≤ 16 → x.trim.lock = .locked ∧ x.trim.phase = x.phase) ∧
      (16 < x.phase → x.trim.phase = x.phase - 25) ∧ (x.phase < -16 → x.trim.phase = x.phase + 25))

/-- R174, R226, R234, R255, R10, R102: microframe boundaries with the policy swap and a pending step, the delay wheel, the
policing and energy ticks. -/
def Obligations.PeriodicTicks : Prop :=
  ∀ (s : State),
    (s.pins.porN = true → s.power.saved = none → ∃ x, exec .microframeBoundary s = .next x ∧ x.frames.f = s.frames.f + 1 ∧
      (s.time.pending = none → x.time = s.time) ∧
      (∀ d, s.time.pending = some d → x.time.pending = none ∧ x.time.now = addNs s.time.now d ∧
        x.time.steps = Nat.min (s.time.steps + 1) 255) ∧
      (s.shadowBusy = false → x.energy.active = s.energy.set ∧
        (∀ t r, (s.tenant t).swap = some r → (s.tenant t).st = .standby → (x.tenant t).st = .active ∧ (x.tenant t).share = some r ∧
          (x.tenant t).swap = none ∧ (x.tenant t).lastEnable = 0) ∧
        (∀ t r, (s.tenant t).swap = some r → (s.tenant t).st = .active → (x.tenant t).st = .active ∧ (x.tenant t).share = some r ∧
          (x.tenant t).swap = none)) ∧
      (∀ t, (s.tenant t).swap = none → (x.tenant t).share = (s.tenant t).share ∧ (x.tenant t).st = (s.tenant t).st) ∧
      (∀ g ∈ x.flows, g.parked = false)) ∧
    (s.pins.porN = false ∨ s.power.saved.isSome = true → exec .microframeBoundary s = .next s) ∧
    (s.power.saved = none → ∃ x, let start := s.time.now / 1000 * 1000
      exec .wheelTick s = .next x ∧ x.sched.wheel = s.sched.wheel.filter (fun d => start < d.due) ∧
      x.sched.due.length = s.sched.due.length + (s.sched.wheel.filter (fun d => d.due ≤ start && d.why ≠ .failures)).length ∧
      (∀ d ∈ x.sched.due.drop s.sched.due.length, d.late = false) ∧
      x.sched.carried = Nat.min (s.sched.carried + s.sched.due.length) (2 ^ 32 - 1)) ∧
    (s.power.saved = none → ∃ x, exec .policingTick s = .next x ∧ (∀ t r, (s.tenant t).share = some r →
      (x.tenant t).tc = Nat.min ((s.tenant t).tc + r.cir) (r.cbs * 1000) ∧
      (x.tenant t).tp = Nat.min ((s.tenant t).tp + r.pir) (r.pbs * 1000) ∧ (x.tenant t).share = some r) ∧
      x.flows = s.flows ∧ x.sched = s.sched) ∧
    (s.power.saved.isSome = true → exec .wheelTick s = .next s ∧ exec .policingTick s = .next s) ∧
    (s.energy.enabled = true → s.power.lp = .lp0 ∨ s.power.lp = .lp1 → ∃ e, exec .energyTick s = .next { s with energy := e } ∧
      e.level = max (-(s.energy.active.burst * 1000000 : Int)) (min (s.energy.active.burst * 1000000 : Int)
        (s.energy.level + ((s.energy.refill : Int) - (s.overhead : Int)))) ∧
      (s.energy.stage ≠ .hard → s.energy.stage ≠ .crit → e.stdWait = decide (e.level < s.energy.active.low * 1000000) ∧
        e.defWait = decide (e.level < s.energy.active.high * 1000000))) ∧
    (s.energy.enabled = false ∨ s.power.lp = .lp2 ∨ s.power.lp = .lp3 → exec .energyTick s = .next s)

/-- R243, R252, R57: a gate edge shows the operating mask of the moment; the switchover makes the admin list the operating list
of its port and no other; a step of the power-up sequence raises the next enabled port. -/
def Obligations.GatesAndPortPowerSteps : Prop :=
  ∀ (p : PortId) (s : State),
    let q := vget s.sluice.ports p
    (exec (.gateEdge p) s = .next (s.modSluice p (fun q => { q with open8 := q.maskAt s.time.now }))) ∧
    (q.state = .pending → q.switchAt ≤ s.time.now → ∃ x, exec (.sluiceSwitchover p) s = .next x ∧
      (vget x.sluice.ports p).oper = some { base := q.adminBase, entries := q.admin } ∧ (vget x.sluice.ports p).state = .empty ∧
      (vget x.sluice.ports p).admin = [] ∧ (∀ r, r ≠ p → vget x.sluice.ports r = vget s.sluice.ports r) ∧ x.devs = s.devs) ∧
    (q.state ≠ .pending ∨ s.time.now < q.switchAt → exec (.sluiceSwitchover p) s = .next s) ∧
    (s.img.portSeq = [] → exec .portPowerStep s = .next s) ∧
    (∀ l, s.img.portSeq = p :: l → s.power.padsHeld = false →
      let s1 : State := { s with img := { s.img with portSeq := l } }
      (s1.mayPower p = true → s.powered p = false → exec .portPowerStep s = .next (s1.setPower p true)) ∧
      (s1.mayPower p = false → exec .portPowerStep s = .next s1))

/-- R138, R141 to R144: a connect is debounced for 100 ms; the default address goes to one device of a bus at a time; steps 4 to
7 of enumeration, the lowest free address, and what a failed step does. R57, R144, R228: enumeration starts on a powered root
port 100 ms after its power rose, as a node of the port's TOPO task. -/
def Obligations.EnumerationStartsAndSteps : Prop :=
  (∀ (s : State),
    (∀ d sp, AtWork s → s.canAttach d sp = true → exec (.connect d sp) s =
      .next (({ s with devs := s.devs ++ [{ id := d, speed := sp }] } : State).setDelay (topoTask d.port) (s.time.now + 100000000)
        (.debounce d))) ∧
    (∀ d sp, AtWork s → s.canAttach d sp = false → exec (.connect d sp) s = .next s) ∧
    (∀ d y w o, Due s (.debounce d) w o → s.dev? d = some y → y.step = .debounce →
      ((vget s.ports d.port).defOwner = none → d.ss = false → ∃ x z, exec (.debounceEnd d) s = .next x ∧ x.dev? d = some z ∧
        z.step = .reset ∧ (vget x.ports d.port).defOwner = some d ∧ z.addr = y.addr ∧ x.reqOf d resetReq ≠ none) ∧
      (∀ e, (vget s.ports d.port).defOwner = some e → e ≠ d → ∃ x z, exec (.debounceEnd d) s = .next x ∧ x.dev? d = some z ∧
        z.step = .waitDefault ∧ (vget x.ports d.port).defOwner = some e ∧
        (vget x.ports d.port).defQueue = (vget s.ports d.port).defQueue ++ [d])) ∧
    (∀ d, s.delayUnit (.debounce d) = none → exec (.debounceEnd d) s = .next s) ∧
    (∀ d y q, s.dev? d = some y → y.id = d → y.step = .reset → y.reset = .none →
      (Answered s d resetReq q → ∃ x z, exec (.enumResetEnd ⟨d, true⟩) s = .next x ∧ x.dev? d = some z ∧ z.step = .recovery ∧
        x.hasDelay (.resetRecovery d) = true) ∧
      (s.reqOf d resetReq = some q → y.attempts < 2 → ∃ x z, exec (.enumResetEnd ⟨d, false⟩) s = .next x ∧ x.dev? d = some z ∧
        z.attempts = y.attempts + 1 ∧ z.addr = 0)) ∧
    (∀ d y w o, Due s (.resetRecovery d) w o → s.dev? d = some y → y.step = .recovery → ∃ x z,
      exec (.resetRecoveryEnd d) s = .next x ∧ x.dev? d = some z ∧ z.step = .desc8 ∧ x.reqOf d (fun r => r = .getDevice8) ≠ none) ∧
    (∀ d y q n a, s.dev? d = some y → y.id = d → Answered s d y.awaits q → y.step = .desc8 → s.ttOf d y.speed = none → d.ss = false →
      s.freeAddr d.port = some a → ∃ x z, exec (.enumRequestDone d (.maxPacket0 n)) s = .next x ∧ x.dev? d = some z ∧
      z.step = .setAddress ∧ z.newAddr = a ∧ z.mps0 = n) ∧
    (∀ d y q, s.dev? d = some y → y.id = d → Answered s d y.awaits q → y.step = .setAddress → ∃ x z,
      exec (.enumRequestDone d .ack) s = .next x ∧ x.dev? d = some z ∧ z.addr = y.newAddr ∧ z.newAddr = 0 ∧ z.step = .descriptors) ∧
    (∀ d y q, s.dev? d = some y → y.id = d → s.reqOf d y.awaits = some q →
      (y.attempts < 2 → ∃ x z, exec (.enumRequestDone d .failed) s = .next x ∧ x.dev? d = some z ∧ z.attempts = y.attempts + 1 ∧
        z.desc = none ∧ z.configs = []) ∧
      (2 ≤ y.attempts → ∃ x z, exec (.enumRequestDone d .failed) s = .next x ∧ x.dev? d = some z ∧ z.st = .failed ∧
        z.portOff = true ∧ z.addr = 0)) ∧
    (∀ p a, s.freeAddr p = some a → 1 ≤ a ∧ a ≤ 127 ∧ (∀ d ∈ s.devs, d.id.port = p → d.addr ≠ a) ∧
      ∀ b, 1 ≤ b → b < a → ∃ d ∈ s.devs, d.id.port = p ∧ d.addr = b)) ∧
  (∀ (p : PortId) (s : State),
    (∀ w o, Due s (.enumStart p) w o →
      (s.img.locked = true → s.powered p = true → (vget s.ports p).usb2.on = false → ∃ x, exec (.enumerateStart p none) s = .next x ∧
        (vget x.ports p).usb2.on = !(vget s.ports p).usb2.phyLatched ∧ x.hasDelay (.enumerate p) = true ∧ x.devs = s.devs ∧
        (∀ q, q ≠ p → (vget x.ports q).usb2.on = (vget s.ports q).usb2.on ∧ (vget x.ports q).ss.on = (vget s.ports q).ss.on)) ∧
      (s.img.locked = false ∨ s.powered p = false → ∀ found, ∃ x, exec (.enumerateStart p found) s = .next x ∧ x.devs = s.devs ∧
        Promoted s x w)) ∧
    (s.delayUnit (.enumStart p) = none → ∀ found, exec (.enumerateStart p found) s = .next s) ∧
    (∀ w o, Due s (.enumerate p) w o → ∃ x, exec (.enumerate p) s = .next x ∧ Promoted s x w ∧ x.devs = s.devs ∧ x.pins = s.pins ∧
      (∀ v, v ≠ w → vget x.sched.workers v = vget s.sched.workers v)) ∧
    (s.delayUnit (.enumerate p) = none → exec (.enumerate p) s = .next s))

/-- R146 to R148, R167: hubs are configured and polled; a disconnect detaches the device and everything below it, and nothing
else. -/
def Obligations.HubsAndDisconnect : Prop :=
  ∀ (d : DevId) (s : State),
    (∀ y c w o, Due s (.hubPower d) w o → s.dev? d = some y → y.step = .hubPower → ∃ x z, exec (.hubPowerWaitEnd d c) s = .next x ∧
      x.dev? d = some z ∧ z.st = .hub ∧ z.step = .done ∧ z.addr = y.addr) ∧
    (∀ y w o, Due s (.hubPoll d) w o → s.dev? d = some y → y.st = .hub → y.suspended = false → y.resume = .none → ∃ x,
      exec (.hubPoll d) s = .next x ∧ x.reqOf d (fun r => r = .hubPoll) ≠ none ∧ x.devs = s.devs ∧
      (∀ z, s.dev? d = some z → z.id = d → x.hasDelay (.hubPoll d) = true)) ∧
    (∀ q, s.reqOf d (fun r => r = .hubPoll) = some q →
      exec (.hubPollDone d []) s = .next (Without s q) ∧
      (q.stage = 3 → q.failed = false → ∀ n, ∃ x, exec (.hubPollDone d [.disconnect n]) s = .next x ∧
        let e : DevId := { d with path := d.path ++ [n] }
        ∀ z ∈ x.devs, z.id ≠ e ∧ z.id.below e = false)) ∧
    (s.reqOf d (fun r => r = .hubPoll) = none → ∀ c, exec (.hubPollDone d c) s = .next s) ∧
    (AtWork s → ∃ x, exec (.disconnect d) s = .next x ∧ (∀ z ∈ x.devs, z.id ≠ d ∧ z.id.below d = false) ∧
      (∀ y ∈ s.devs, y.id ≠ d → y.id.below d = false → ∃ z ∈ x.devs, z.id = y.id ∧ z.addr = y.addr ∧ z.st = y.st ∧ z.tenant = y.tenant) ∧
      x.pins = s.pins ∧ x.time = s.time)

/-- R163, R165, R330: remote wake and Function Wake, the end of resume signalling and recovery, the end of a port reset, and the
selective suspend of a root port with only hubs and UNMATCHED devices. -/
def Obligations.ResumeAndResetEnds : Prop :=
  ∀ (d : DevId) (y : Dev) (s : State), s.dev? d = some y → y.id = d →
    (AtWork s → y.reset = .none → y.resume = .none → y.suspendWait = none → y.suspended = true → ∃ x z, exec (.remoteWake d) s = .next x ∧
      x.dev? d = some z ∧ z.remote = true ∧ (z.resume = .signalling ∨ z.resume = .waiting)) ∧
    (AtWork s → y.reset = .none → y.resume = .none → y.suspendWait = none → y.suspended = false → y.l1 = false → exec (.remoteWake d) s = .next s) ∧
    (AtWork s → y.reset = .none → y.resume ≠ .none → y.remote = false →
      exec (.remoteWake d) s = .next (s.modDev d (fun z => { z with remote := true, collided := true }))) ∧
    (∀ t, AtWork s → d.ss = true → y.reset = .none → y.suspended = false → y.suspendWait = none → y.st = .granted → y.tenant = some t → ∃ x z,
      exec (.functionWake d) s = .next x ∧ x.dev? d = some z ∧ z.linkU = 0 ∧ z.resume = y.resume ∧
      (vget (x.tenant t).vpChange (vpIdx y.vp)).getLsbD 5 = true) ∧
    (∀ q, y.resume = .signalling → s.watching d = false → s.reqOf d (fun r => r = .resume) = some q → q.stage = 3 → ∃ x z,
      exec (.resumeSignallingEnd d) s = .next x ∧ x.dev? d = some z ∧ z.resume = .recovery ∧ x.hasDelay (.resumeRecovery d) = true) ∧
    (∀ w p e serial, Due s (.resumeRecovery d) w p → y.resume = .recovery →
      ((∀ f, e = some f → y.differs f serial = false) → y.resetWait = .none → ∃ x z,
        exec (.resumeRecoveryEnd ⟨d, e, serial⟩) s = .next x ∧ x.dev? d = some z ∧ z.resume = .none ∧ z.suspended = false ∧ z.l1 = false ∧
        z.linkU = 0 ∧ z.addr = y.addr ∧
        (∀ k t o, y.resumeOrder = some k → y.tenant = some t → s.order? (.vf t) k = some o → o.stage = .waiting → o.ghost = false →
          ∃ r, x.order? (.vf t) k = some r ∧ r.stage = .ended ∧ r.ev = o.doneEv .success y.vp 0 0)) ∧
      (∀ f, e = some f → y.differs f serial = true → ∃ x, exec (.resumeRecoveryEnd ⟨d, e, serial⟩) s = .next x ∧
        ∀ z, x.dev? d = some z → z.step = .debounce ∧ z.addr = 0)) ∧
    (∀ q, y.step = .reset → y.reset ≠ .none →
      (Answered s d resetReq q → ∃ x z, exec (.portResetEnd d true) s = .next x ∧ x.dev? d = some z ∧ z.step = .setAddress ∧
        z.newAddr = y.addr ∧ z.reset = y.reset) ∧
      (s.reqOf d resetReq = some q → y.attempts < 2 → ∃ x z, exec (.portResetEnd d false) s = .next x ∧ x.dev? d = some z ∧
        z.attempts = y.attempts + 1 ∧ z.addr = y.addr)) ∧
    (let ok := fun (e : Dev) => (e.st = .hub ∨ e.st = .unmatched) ∧ e.step = .done ∧ e.reset = .none ∧ e.resume = .none
     ((∀ e ∈ s.devs, e.id.port = d.port → ok e) → (∀ q ∈ s.sched.reqs, q.d.port = d.port → q.r = .hubPoll) → ∃ x, exec (.rootPortSelectiveSuspend d.port) s = .next x ∧
        (∀ e ∈ x.devs, e.id.port = d.port → e.suspended = true) ∧ x.devs.length = s.devs.length ∧ x.flows = s.flows) ∧
     ((∃ e ∈ s.devs, e.id.port = d.port ∧ ¬ ok e) → exec (.rootPortSelectiveSuspend d.port) s = .next s))

/-- R151, R205, R206, R385: the clearing of a translator's buffer, link power states, and PHY faults. -/
def Obligations.LinkPowerAndPhyFaults : Prop :=
  ∀ (s : State),
    (∀ t h, s.sched.reqs.find? (fun q => q.r.clears t h) = none → ∀ r, exec (.clearTtBuffer t h r) s = .next s) ∧
    (∀ t h d e n q, s.sched.reqs.find? (fun q => q.r.clears t h) = some q → q.r = .clearTt t h d e n →
      (n < 3 → exec (.clearTtBuffer t h .failed) s = .next ((Without s q).request q.d (.clearTt t h d e (n + 1)))) ∧
      (3 ≤ n → exec (.clearTtBuffer t h .failed) s = .next (Without s q)) ∧
      exec (.clearTtBuffer t h .stall) s = .next (Without s q) ∧
      (q.stage = 3 → q.failed = false → exec (.clearTtBuffer t h .ok) s = .next (Without s q))) ∧
    (∀ d y, s.dev? d = some y → d.ss = false → s.idleDev y = true → y.l1 = false → y.lpmOff = false → s.lpmPath d = true →
      (∀ f ∈ s.flows, f.dev = d → f.periodic = false) →
      ∀ n, 200 ≤ n → exec (.lpmEntry d n) s = .next (s.request d (.lpm ((y.bos.bind (fun b => b.besl)).getD 2)))) ∧
    (∀ d y n, s.dev? d = some y → s.idleDev y = false ∨ n < 200 → exec (.lpmEntry d n) s = .next s) ∧
    (∀ d y, s.dev? d = some y → d.ss = true → y.step = .done → y.suspended = false → y.resume = .none → y.reset = .none →
      s.devBusy d = false →
      (y.u1 = true → y.linkU = 0 → y.timeouts.1 ≠ 0 →
        exec (.linkInactivityTimeout d false) s = .next (s.modDev d (fun z => { z with linkU := 1 }))) ∧
      (y.u2 = true → y.linkU ≠ 2 → y.timeouts.2 ≠ 0 →
        exec (.linkInactivityTimeout d true) s = .next (s.modDev d (fun z => { z with linkU := 2 }))) ∧
      (y.u1 = false ∨ y.timeouts.1 = 0 → exec (.linkInactivityTimeout d false) s = .next s) ∧
      (y.u2 = false ∨ y.timeouts.2 = 0 → exec (.linkInactivityTimeout d true) s = .next s)) ∧
    (∀ i : SideId, let p := (sidePort i).1
      let ss := (sidePort i).2
      let recent := (s.side p ss).phyFaults.filter (fun t => s.time.now - t ≤ 600000000000)
      ((s.side p ss).on = false → exec (.portPhyFault i) s = .next s) ∧
      ((s.side p ss).on = true → ∃ x, exec (.portPhyFault i) s = .next x ∧ (x.side p ss).on = false ∧
        (x.side p ss).phyFaults = recent ++ [s.time.now] ∧ (x.side p ss).phyLatched = decide (2 ≤ recent.length) ∧
        (∀ e ∈ x.devs, ¬(e.id.port = p ∧ e.id.ss = ss)) ∧ vget x.faults.counts 4 = Nat.min (vget s.faults.counts 4 + 1) (2 ^ 32 - 1)) ∧
      (s.powered p = true → (s.side p ss).on = false → (s.side p ss).phyLatched = false → (s.side p ss).phyFaults ≠ [] → ∃ x,
        exec (.phyRestart i) s = .next x ∧ (x.side p ss).on = true ∧ x.hasDelay (.enumerate p) = true ∧ x.devs = s.devs) ∧
      ((s.side p ss).phyLatched = true → exec (.phyRestart i) s = .next s))

/-- R266 to R271, Table 10.5: the handshake goes on step by step; a bad message or a failed request ends it with its detail. -/
def Obligations.HandshakeSteps : Prop :=
  ∀ (t : TenantId) (h : Fin 1024) (y : Handshake) (f : Flow) (s : State), s.hs? t h = some y → s.flow? t h = some f →
    (∀ q, y.step = .hello → s.reqOf f.dev (UsbReq.isTirael .hello) = some q →
      (∀ m, q.stage = 3 → q.failed = false → m.ok f.ep.addr = true → ∃ x z, exec (.hello t h .ok m) s = .next x ∧ x.hs? t h = some z ∧
        z.hello = some m ∧ z.step = .arith ∧ x.hasItem .sealArith (arithArg y.t y.h) = true ∧ x.flows = s.flows) ∧
      (∀ m, q.stage = 3 → q.failed = false → m.ok f.ep.addr = false → exec (.hello t h .ok m) s = .next ((Without s q).failSeal t h 1)) ∧
      (∀ m r, r ≠ .ok → exec (.hello t h r m) s = .next ((Without s q).failSeal t h 6))) ∧
    (∀ q, y.step = .keyShare → s.reqOf f.dev (UsbReq.isTirael .keyShare) = some q →
      (q.stage = 3 → q.failed = false → ∃ x z, exec (.keyShare t h .ok) s = .next x ∧ x.hs? t h = some z ∧ z.step = .confirm ∧
        x.reqOf f.dev (UsbReq.isTirael .confirm) ≠ none) ∧
      exec (.keyShare t h .stall) s = .next ((Without s q).failSeal t h 5) ∧
      exec (.keyShare t h .failed) s = .next ((Without s q).failSeal t h 6)) ∧
    (∀ q, y.step = .confirm → s.reqOf f.dev (UsbReq.isTirael .confirm) = some q → ∀ m,
      (q.stage = 3 → q.failed = false → confirmOk f.ep.addr m = true → ∃ x z, exec (.confirm t h .ok m) s = .next x ∧
        x.hs? t h = some z ∧ z.step = .verify ∧ z.confirm = m ∧ x.hasItem .sealArith (arithArg y.t y.h) = true) ∧
      (q.stage = 3 → q.failed = false → confirmOk f.ep.addr m = false →
        exec (.confirm t h .ok m) s = .next ((Without s q).failSeal t h 1)) ∧
      (∀ r, r ≠ .ok → exec (.confirm t h r m) s = .next ((Without s q).failSeal t h 6))) ∧
    (∀ q, y.step = .finish → y.t = t → y.h = h → s.reqOf f.dev (UsbReq.isTirael .finish) = some q → ∀ d, s.dev? f.dev = some d →
      (exec (.finish t h .stall) s = .next ((Without s q).failSeal t h 5)) ∧
      (∀ n, q.stage = 3 → q.failed = false → s.pinOf d.identity ≠ none → y.repin = false → f.key = none →
        s.freeEntry (s.share t).bank = some n → ∃ x g c, exec (.finish t h .ok) s = .next x ∧ x.flow? t h = some g ∧
        g.key = some c ∧ c.entry = n ∧ c.epoch = 0 ∧ c.seq = 0 ∧ c.unitLog2 = y.unitLog2 ∧ c.prk = y.prk ∧
        c.wrapped = keyWrap (digestBytes s.seals.wrapKey) (digestBytes y.prk) ∧ x.hs? t h = none) ∧
      (q.stage = 3 → q.failed = false → s.pinOf d.identity = none → s.peatUp = true → ∃ x z, exec (.finish t h .ok) s = .next x ∧
        x.hs? t h = some z ∧ z.step = .commit ∧ x.peat.queue = s.peat.queue ++ [{ body := .pin [(d.identity, y.leaf)] }] ∧
        x.flows = s.flows) ∧
      (q.stage = 3 → q.failed = false → s.pinOf d.identity = none → s.peatUp = false →
        exec (.finish t h .ok) s = .next ((Without s q).failSeal t h 8))) ∧
    (∀ u m d, s.itemCore .sealArith (arithArg t h) = some u → y.hello = some m → s.dev? f.dev = some d → y.step = .arith →
      let anchors := match s.sealSec with | some z => z.anchors | none => []
      ∃ x, exec (.sealArith (.handshake t h)) s = .next x ∧ (vget x.sched.cores u).op = none ∧
        (chainValid m.certs anchors = false → y.rekey = false → x.hs? t h = none) ∧
        (chainValid m.certs anchors = true → s.pinOf d.identity = none → ∃ z, x.hs? t h = some z ∧ z.step = .keyShare ∧
          z.leaf = Config.sha256 (m.certs.headD []) ∧ z.repin = false ∧ z.hello = some m ∧
          x.reqOf f.dev (UsbReq.isTirael .keyShare) ≠ none)) ∧
    (∀ u m, s.itemCore .sealArith (arithArg t h) = some u → y.hello = some m → y.step = .verify →
      let th2 := Config.sha256 (m.bytes ++ y.keyShare)
      let good := ecdsaVerify (certKey (m.certs.headD [])) th2 (y.confirm.drop 8)
      ∃ x, exec (.sealArith (.handshake t h)) s = .next x ∧ (vget x.sched.cores u).op = none ∧
        (good = true → ∃ z, x.hs? t h = some z ∧ z.step = .finish ∧ z.ephC = 0 ∧
          z.prk = digestOf (hkdfExtract (sha (m.bytes ++ y.keyShare ++ y.confirm)) (ecdh y.ephC m.ephP)) ∧
          x.reqOf f.dev (UsbReq.isTirael .finish) ≠ none) ∧
        (good = false → y.rekey = false → x.hs? t h = none ∧ x.seals.hsFails = Nat.min (s.seals.hsFails + 1) (2 ^ 32 - 1))) ∧
    (∀ n, y.rekey = false → let x := s.failSeal t h n
      x.hs? t h = none ∧ x.seals.hsFails = Nat.min (s.seals.hsFails + 1) (2 ^ 32 - 1) ∧
      (∀ u k g, s.flow? u k = some g → ∃ g', x.flow? u k = some g' ∧ g'.key = g.key))

/-- R276, R277, R280: rekeying and teardown of a sealed pipe. -/
def Obligations.RekeyAndTeardown : Prop :=
  ∀ (t : TenantId) (h : Fin 1024) (s : State),
    (∀ f k w o, s.flow? t h = some f → f.key = some k → Due s (.rekey t h) w o →
      (k.epoch ≠ 255 → ∃ x g, exec (.rekeyDeadline t h) s = .next x ∧ x.flow? t h = some g ∧
        g.key = some { k with deadline := none, rekeyDue := true } ∧
        (f.isIn = true → x.reqOf f.dev (UsbReq.isTirael .rekey) ≠ none)) ∧
      (k.epoch = 255 → s.hs? t h = none → s.sealStep1 t true = none → ∃ x z, exec (.rekeyDeadline t h) s = .next x ∧
        x.hs? t h = some z ∧ z.rekey = true)) ∧
    (s.delayUnit (.rekey t h) = none → exec (.rekeyDeadline t h) s = .next s) ∧
    (∀ f q r, s.flow? t h = some f → s.reqOf f.dev (fun a => a.isTirael .rekey && a.handshakes f.ep.addr) = some q →
      (r = .ok → q.stage = 3 ∧ q.failed = false) →
      exec (.rekey t h r) s = .next ((Without s q).modFlow t h (fun f =>
        { f with key := f.key.map (fun k => { k with rekeyDue := false }) }))) ∧
    (∀ d q r, s.reqOf d (UsbReq.isTirael .teardown) = some q → (r = .ok → q.stage = 3 ∧ q.failed = false) →
      exec (.teardown d r) s = .next (Without s q)) ∧
    (∀ d r, s.reqOf d (UsbReq.isTirael .teardown) = none → exec (.teardown d r) s = .next s) ∧
    (∀ cause send notify f, s.flow? t h = some f → ∃ g, (s.tearDown t h cause send notify).flow? t h = some g ∧ g.key = none ∧
      g.st = f.st ∧ (s.tearDown t h cause send notify).devs = s.devs)

/-- R311, R312, R321, R324: a level that rises while EN is 1 counts; one that falls leaves COUNT; a core claims its best pending
source and ends its service. -/
def Obligations.SourceLevelsAndCores : Prop :=
  ∀ (s : State),
    (∀ x : Src, x.listed = true → s.levelOf x = true → (s.irqSrc x).level = false → s.mgmtRuns = true → ∃ y,
      exec (.sourceLevelRise x) s = .next y ∧ (y.irqSrc x).level = true ∧ (y.irqSrc x).en = (s.irqSrc x).en ∧
      (y.irqSrc x).inService = (s.irqSrc x).inService ∧ y.flows = s.flows ∧ y.devs = s.devs ∧
      (y.irqSrc x).count = (if (s.irqSrc x).en then Nat.min ((s.irqSrc x).count + 1) 255 else (s.irqSrc x).count)) ∧
    (∀ x : Src, (s.irqSrc x).level = true → exec (.sourceLevelRise x) s = .next s) ∧
    (∀ x : Src, x.listed = true → s.levelOf x = true → (s.irqSrc x).level = false → s.mgmtRuns = false →
      exec (.sourceLevelRise x) s = .next (s.rouse .mgmt)) ∧
    (∀ x : Src, (∀ c n, x ≠ .core c n) → s.levelOf x = false → (s.irqSrc x).level = true → s.mgmtRuns = true →
      exec (.sourceLevelFall x) s = .next (s.modSrc x (fun y => { y with level := false }))) ∧
    (∀ c, (vget s.sched.cores c).op.isSome = true ∨ (vget s.sched.cores c).fenced = true ∨ s.mgmtRuns = false →
      exec (.coreClaim c) s = .next s) ∧
    (s.mgmtRuns = false → ∀ c, exec (.coreEoi c) s = .next s) ∧
    (s.mgmtRuns = true → ∀ c, (vget s.sched.cores c).op = none → (vget s.sched.cores c).fenced = false →
      (s.claimable (.core c) = none → exec (.coreClaim c) s = .next s) ∧
      (∀ x, s.claimable (.core c) = some x → ∃ y, exec (.coreClaim c) s = .next y ∧ (y.irqSrc x).count = 0 ∧
        (y.irqSrc x).inService = true ∧ s.pendingSrc x = true ∧ y.flows = s.flows)) ∧
    (s.mgmtRuns = true → ∀ c, (vget s.sched.cores c).claimed = [] → ∃ y, exec (.coreEoi c) s = .next y ∧ y.flows = s.flows ∧ ∀ n : Fin 16,
      (y.irqSrc (.core c n)).inService = ((s.irqSrc (.core c n)).inService && (s.irqSrc (.core c n)).level)) ∧
    (∀ (c : CoreId) (n : Fin 96) cnt at_, s.mgmtRuns = true → (vget s.sched.cores c).claimed = [(n.val, cnt, at_)] → (vget s.shared n).level = false → ∃ y,
      exec (.coreEoi c) s = .next y ∧ (vget y.shared n).inService = false ∧ (vget y.sched.cores c).claimed = [])

/-- R326, R329, R331, R338, R341: the controller enters the deepest state that is permitted, saves Keeper time on the way into
LP3, and any wake source takes it out; the PCIe link's low-power states follow what the host enabled. R340, R341: Keeper time
after LP3 is the saved value and the 32.768 kHz ticks counted, and the exit to LP0 ends with it. -/
def Obligations.PowerStatesAndSleep : Prop :=
  (∀ (s : State), let p := s.power
    (p.entering = true ∨ p.exiting = true ∨ p.lp = .lp3 → exec .lpEntry s = .next s) ∧
    (p.entering = false → p.exiting = false → p.lp = .lp0 →
      (s.permitted .lp1 = false → s.permitted .lp2 = false → s.permitted .lp3 = false → exec .lpEntry s = .next s) ∧
      (s.permitted .lp1 = true → s.permitted .lp2 = false → s.permitted .lp3 = false → ∃ x, exec .lpEntry s = .next x ∧ x.power.lp = .lp1 ∧
        x.power.padsHeld = p.padsHeld) ∧
      (s.permitted .lp2 = true → s.permitted .lp3 = false → ∃ x, exec .lpEntry s = .next x ∧ x.power.lp = .lp2 ∧ x.power.padsHeld = true ∧
        (vget x.power.resEntries 2) = (vget p.resEntries 2) + 1) ∧
      (s.permitted .lp3 = true → ∃ x, exec .lpEntry s = .next x ∧ x.power.lp = .lp0 ∧ x.power.entering = true ∧ x.power.padsHeld = true ∧
        x.power.opp = 0)) ∧
    (p.entering = true → ∃ x, exec .keeperSave s = .next x ∧ x.power.lp = .lp3 ∧ x.power.entering = false ∧
      x.power.saved = some s.time.now ∧ x.time = s.time ∧ x.power.wakeTimer = s.nextEvent.map (fun n => wakeTicks s.time.now n)) ∧
    (p.entering = false → exec .keeperSave s = .next s) ∧
    (∀ w q, w.val ≠ 5 → p.lp ≠ .lp0 ∨ p.entering = true ∨ p.exiting = true → ∃ x, exec (.wakeSource w q) s = .next x ∧
      x.power.causes.getLsbD w.val = true) ∧
    (∀ w q, w.val ≠ 5 → p.lp = .lp1 → p.entering = false → p.exiting = false → ∃ x, exec (.wakeSource w q) s = .next x ∧
      x.power.lp = .lp0 ∧ x.power.first = w.val ∧ x.power.last = .lp1) ∧
    (∀ w q, w.val ≠ 5 → Awake s → p.lp = .lp0 → p.entering = false → p.exiting = false → ∃ x, exec (.wakeSource w q) s = .next x ∧ x.power = p) ∧
    (p.lp = .lp3 → p.wakeTimer ≠ none → p.exiting = false → ∃ x, exec .wakeTimer s = .next x ∧ x.power.causes.getLsbD 8 = true) ∧
    (p.lp ≠ .lp3 → exec .wakeTimer s = .next s) ∧
    (s.link = .l0 → s.pf.bit 0x60 1 = true → exec .aspmL1Entry s = .next { s with link := .l1 }) ∧
    (s.link ≠ .l0 ∨ s.pf.bit 0x60 1 = false → exec .aspmL1Entry s = .next s) ∧
    (s.link = .l1 → s.pf.bit 0x278 2 = true → exec (.l1PmSubstateEntry true) s = .next { s with link := .l12 }) ∧
    (s.link = .l1 → s.pf.bit 0x278 3 = true → exec (.l1PmSubstateEntry false) s = .next { s with link := .l11 }) ∧
    (exec .xtal32Running s = .next { s with pins := { s.pins with xtal32 := true } })) ∧
  (∀ (n t0 : Nat) (s : State),
    (s.power.saved = none → exec (.keeperRestore n) s = .next s) ∧
    (s.power.saved = some t0 → s.power.exiting = true → (∀ i, (vget s.power.islands i).ready = true) → ∃ x,
      exec (.keeperRestore n) s = .next x ∧ x.time.now = addNs t0 ((s.time.frac + n * 30517578125000 + 500000000) / 1000000000) ∧
      x.power.saved = none ∧ x.power.exiting = false ∧ x.power.lp = .lp0 ∧ x.power.lastSleep = n % 2 ^ 48) ∧
    (s.power.saved = some t0 → s.power.exiting = false → exec (.keeperRestore n) s = .next s))

/-- R17, R326, R331, R342, R344, 15 R379: islands sleep where the state in force puts them, hold requests and wake on demand; a
scrub counts what it corrected and a LOST bank is reported. -/
def Obligations.IslandsAndRetention : Prop :=
  ∀ (s : State),
    (∀ i, (vget s.power.islands i.idx).state = .running → s.power.entering = false → s.power.exiting = false → s.islandIdle i = true →
      (i.sleep s.power.lp = some .gated → exec (.islandClockGate i) s = .next (s.moveIsland i .gated)) ∧
      (i.sleep s.power.lp = some .retention → exec (.islandRetention i) s = .next (s.moveIsland i .retention)) ∧
      (i.sleep s.power.lp = none → exec (.islandClockGate i) s = .next s ∧ exec (.islandRetention i) s = .next s)) ∧
    (∀ i, s.islandIdle i = false → exec (.islandClockGate i) s = .next s ∧ exec (.islandRetention i) s = .next s) ∧
    (∀ i st, (vget (s.moveIsland i st).power.islands i.idx).state = st ∧
      (∀ j, j ≠ i.idx → vget (s.moveIsland i st).power.islands j = vget s.power.islands j)) ∧
    (∀ i src q, s.running i = true → exec (.islandWake i ⟨src, q⟩) s = .next (s.act q)) ∧
    (∀ i src q, (s.island i).state = .gated ∨ (s.island i).state = .retention → s.power.lp = .lp1 ∨ s.power.lp = .lp2 →
      s.power.entering = false → ∃ x, exec (.islandWake i ⟨src, q⟩) s = .next x ∧ (x.island i).state = .waking ∧
      (x.island i).held = (s.island i).held ++ [{ src := src, req := q }] ∧ x.power.lp = s.power.lp ∧ x.resp = none ∧
      x.power.exiting = (s.power.exiting || decide (i = .hostlink)) ∧
      (i = .hostlink → x.power.causes.getLsbD 5 = true ∧ ∀ j, (x.island j).active = true)) ∧
    (∀ i src q, (s.island i).state = .waking ∨ (s.island i).state = .restarting → ∃ x, exec (.islandWake i ⟨src, q⟩) s = .next x ∧
      (x.island i).held = (s.island i).held ++ [{ src := src, req := q }] ∧ (x.island i).state = (s.island i).state) ∧
    (∀ i, (s.island i).state = .waking → s.power.exiting = false → i ≠ .mgmt →
      exec (.islandReady i) s = .next ((s.island i).held.foldl State.deliver (Risen s i))) ∧
    (∀ i, ((Risen s i).island i).state = .running ∧ ((Risen s i).island i).held = [] ∧ (Risen s i).power.lp = s.power.lp ∧
      (∀ j, j ≠ i.idx → vget (Risen s i).power.islands j = vget s.power.islands j) ∧ (Risen s i).flows = s.flows ∧ (Risen s i).img = s.img) ∧
    (s.running .mgmt = false → (s.island .mgmt).state = .waking → s.power.exiting = false → (s.island .mgmt).held = [] → ∃ x,
      exec (.islandReady .mgmt) s = .next x ∧ x.running .mgmt = true ∧ x.power.lp = s.power.lp) ∧
    (∀ i, (vget s.power.islands i.idx).state ≠ .waking → exec (.islandReady i) s = .next s) ∧
    (∀ b n, s.power.lp = .lp2 ∨ s.power.lp = .lp3 ∨ (bankIslands b.val).any (fun i => (s.island i).state = .waking) = true →
      exec (.retentionScrub b n false) s =
      .next { s with
        power := { s.power with corrected := Nat.min (s.power.corrected + n) (2 ^ 24 - 1) },
        faults := { s.faults with
          corrected := let c : Fin 21 := b.castLE (by decide)
                       vset s.faults.corrected c (Nat.min (vget s.faults.corrected c + n) (2 ^ 48 - 1)) } }) ∧
    (∀ b n, s.power.lp = .lp2 ∨ s.power.lp = .lp3 → (b.val = 16 → s.power.zeroDue = false) → ∃ x, exec (.retentionScrub b n true) s = .next x ∧ x.power.lost.getLsbD b.val = true) ∧
    (s.power.zeroDue = true → ∀ n, exec (.retentionScrub 16 n true) s = exec (.retentionScrub 16 n false) s)

/-- R336, R337: an operating point rises voltage first and falls clocks first; a change goes through its phases, and 2 ms
without VCORE_PG end it with a fault; AUTO moves the chosen point by the busy share. -/
def Obligations.OperatingPoints : Prop :=
  ∀ (s : State), let p := s.power
    (p.change ≠ none ∨ p.oppFault = true ∨ s.oppWanted = p.opp → exec .oppChange s = .next s) ∧
    (p.change = none → p.oppFault = false → s.img.locked = true → p.entering = false → p.exiting = false → p.lp ≠ .lp3 →
      (p.opp < s.oppWanted → ∃ x, exec .oppChange s = .next x ∧ x.power = { p with change := some (s.oppWanted, .waitPg) } ∧
        x.pins = { s.pins with vsel := s.vselOf s.oppWanted, vcorePg := false }) ∧
      (s.oppWanted < p.opp → ∃ x, exec .oppChange s = .next x ∧ x.pins = { s.pins with vsel := s.vselOf s.oppWanted } ∧
        x.power = { p with change := some (s.oppWanted, .relock), opp := s.oppWanted })) ∧
    (∀ n, p.change = some (n, .waitPg) →
      (exec .vcorePgGood s = .next { s with pins := { s.pins with vcorePg := true }, power := { p with change := some (n, .settle) } }) ∧
      (∃ x, exec .oppFault s = .next x ∧ x.power.change = none ∧ x.power.oppFault = true ∧ x.power.opp = p.opp ∧
        x.pins.vsel = s.vselOf p.opp ∧ vget x.faults.counts 6 = Nat.min (vget s.faults.counts 6 + 1) (2 ^ 32 - 1))) ∧
    (∀ n, p.change = some (n, .settle) → exec .vcoreSettleEnd s = .next { s with power := { p with change := some (n, .relock) } }) ∧
    (∀ n, p.change = some (n, .relock) → exec .pllRelock s = .next { s with power := { p with change := none, opp := n } }) ∧
    (p.change = none → exec .vcoreSettleEnd s = .next s ∧ exec .pllRelock s = .next s ∧ exec .oppFault s = .next s) ∧
    (let q := { p with busy := 0, slots := 0 }
     (∀ n, n < 1000 → exec (.oppAutoWindow n) s = .next s) ∧
     (∀ n, 1000 ≤ n → p.oppMode ≠ 3 → exec (.oppAutoWindow n) s = .next { s with power := q }) ∧
     (∀ n, 1000 ≤ n → p.oppMode = 3 → s.img.locked = true →
      (100 * p.busy < 35 * p.slots → p.lowRun < 7 → exec (.oppAutoWindow n) s =
        .next { s with power := { q with lowRun := p.lowRun + 1, chosen := s.chosenPoint } }) ∧
      (35 * p.slots ≤ 100 * p.busy → 100 * p.busy ≤ 80 * p.slots →
        exec (.oppAutoWindow n) s = .next { s with power := { q with lowRun := 0, chosen := s.chosenPoint } }) ∧
      (80 * p.slots < 100 * p.busy → ∃ c, exec (.oppAutoWindow n) s = .next { s with power := { q with lowRun := 0, chosen := c } } ∧
        (c = s.chosenPoint ∨ (s.chosenPoint < c ∧ p.permit.getLsbD c = true)))))

/-- R351, R357, R367 to R369, R372: a record commits at the next SEQ and raises the horizon, a slot that fails is torn and the
record stays queued; the timers and items of the journal queue what they write; an erase frees its sector or retires it. -/
def Obligations.JournalRecords : Prop :=
  ∀ (s : State), let p := s.peat
    (∀ r, s.nextRec = none ∨ p.openHead s.fuses.epoch = none → exec (.recordCommit r) s = .next s) ∧
    (∀ q i b h, s.nextRec = some q → p.openHead s.fuses.epoch = some (i, b, h) →
      (p.formatting = false → ∃ x, exec (.recordCommit .ok) s = .next x ∧ x.peat.seq = p.nextSeq ∧ x.peat.nextSeq = p.nextSeq + 1 ∧
        x.peat.horizon = p.nextSeq ∧ x.peat.horizonMac = horizonMac p.nextSeq ∧ x.peat.horizonOk = true) ∧
      (∀ r, r = .mismatch ∨ r = .failed → ∃ x, exec (.recordCommit r) s = .next x ∧ x.peat.torn = Nat.min (p.torn + 1) 65535 ∧
        x.peat.nextSeq = p.nextSeq + 1 ∧ x.peat.seq = p.seq ∧ x.peat.horizon = p.horizon ∧ q ∈ x.peat.queue ∧ x.flows = s.flows) ∧
      (b = true → ∃ x, exec (.recordCommit .header) s = .next x ∧ x.peat.nextSeq = p.nextSeq ∧ x.peat.seq = p.seq ∧ q ∈ x.peat.queue ∧
        ∀ y, x.peat.sector? i = some y → y.dirty = true ∧ y.seq = none)) ∧
    (let due := p.ckptTime + 720 * 3600 * 10 ^ 9 ≤ s.time.now
     (s.peatUp = false ∨ p.ckptBusy = true ∨ ¬ due → exec .checkpointTimer s = .next s) ∧
     (s.peatUp = true → p.ckptBusy = false → due →
      exec .checkpointTimer s = .next { s with peat := { p with queue := p.queue ++ [{ body := .ckptBegin }] } })) ∧
    (p.waiting = [] ∨ s.peatWrites = false → exec .logFlushTimer s = .next s) ∧
    (p.waiting ≠ [] → s.peatWrites = true → ∃ x, exec .logFlushTimer s = .next x ∧ x.hasItem .logWrite = true ∧ x.peat = p) ∧
    (∀ t (c : Fin 4) u, s.itemCore .leaseCommit (4 * t.val + c.val) = some u → s.peatWrites = true → ∃ x,
      let n := s.counter (4 * t.val + c.val)
      exec (.leaseCommit t c) s = .next x ∧ x.peat = { p with queue := p.queue ++
        [{ body := .lease [(4 * t.val + c.val, s.withEpoch n.limit, s.peatSec.lease)] }] }) ∧
    (∀ u, s.itemCore .logWrite = some u → s.peatWrites = true → p.waiting ≠ [] → ∃ x, let n := logTake p.waiting
      exec .logWrite s = .next x ∧ x.peat = { p with waiting := p.waiting.drop n, queue := p.queue ++ [{ body := .log (p.waiting.take n) }] }) ∧
    (∀ u y, s.itemCore .compactStep = some u → s.peatUp = true → p.powerFail = false → p.tail = some y → p.erasing = none →
      (∀ z, p.head = some z → z.idx ≠ y.idx) → p.head ≠ none → s.holdsLive y = false → p.copied = some y.idx → s.copiesWait y = false →
      y.retired = false → y.slots.any Slot.decayed = false → ∃ x, exec .compactStep s = .next x ∧ x.peat = { p with erasing := some y.idx }) ∧
    (p.erasing = none → ∀ ok, exec (.flashEraseDone ok) s = .next s) ∧
    (∀ i y, p.erasing = some i → p.sector? i = some y →
      (∃ x, exec (.flashEraseDone true) s = .next x ∧ x.peat.erasing ≠ some i ∧
        x.peat.sector? i = some { y with seq := none, slots := [], fails := 0, dirty := false, erases := y.erases + 1 } ∧ x.flows = s.flows) ∧
      (∃ x, exec (.flashEraseDone false) s = .next x ∧ x.peat.erasing ≠ some i ∧ x.peat.sector? i = some { y with retired := true } ∧
        x.flows = s.flows))

/-- R354, R371, R374 (Table 14.9a): mounting the journal, its format, and the loss of its flash. -/
def Obligations.JournalStates : Prop :=
  ∀ (s : State), let p := s.peat
    (s.peatUp = false → exec .flashNoAnswer s = .next s) ∧
    (s.peatUp = true → ∃ x, exec .flashNoAnswer s = .next x ∧ x.peat.state = .absent ∧ x.peat.reason = .noFlash ∧ x.peat.horizon = p.horizon ∧
      x.peat.sectors = p.sectors) ∧
    (p.formatting = false ∨ p.powerFail = true → ∀ ok f, exec (.peatFormat ok f) s = .next s) ∧
    (p.formatting = true → p.powerFail = false →
      (∀ f, ∃ x, exec (.peatFormat false f) s = .next x ∧ x.peat.state = .absent ∧ x.peat.reason = .noFlash ∧ x.peat.formatting = false ∧
        x.fuses = s.fuses) ∧
      (s.fuses.epoch ≠ 255 → ∃ x, exec (.peatFormat true false) s = .next x ∧ x.peat.state = .locked ∧ x.peat.reason = .fuseFail ∧
        x.fuses = s.fuses) ∧
      (∃ x, exec (.peatFormat true true) s = .next x ∧ x.peatUp = true ∧ x.peat.horizon = x.peat.seq ∧ x.peat.horizonOk = true ∧
        x.peat.formatting = false ∧ x.peat.formatted = true ∧
        x.fuses = { s.fuses with epoch := if s.fuses.epoch = 255 then 255 else s.fuses.epoch + 1 })) ∧
    (∀ a b g n, s.itemCore .peatMount = none → exec (.peatMount a b g n) s = .next s) ∧
    (∀ c a b g n, s.itemCore .peatMount = some c → let d := if s.pins.peatSel then a else b
      ∃ x, exec (.peatMount a b g n) s = .next x ∧ (vget x.sched.cores c).op = none ∧ x.img.step = 4 ∧ x.hasItem .imageSelect = true ∧
        x.img.fallback = ((a.readable && !a.octal) || (b.readable && !b.octal)) ∧
        (d.readable = false → x.peat.state = .absent ∧ x.peat.reason = .noFlash) ∧
        (d.readable = true → 2 ^ 24 ≤ regionBytes s.pins.peatSel d → (p.find g.found).formatted = false → p.horizonOk = true →
          x.peat.state = .locked ∧ x.peat.reason = .rollback) ∧
        (d.readable = true → 2 ^ 24 ≤ regionBytes s.pins.peatSel d → (p.find g.found).formatted = false → p.horizonOk = false →
          x.peat.state = .absent ∧ x.peat.reason = .unformatted))

/-- R57, R64 to R66, 16 R415: an item has its effect when it runs in a core slot, and leaves the slot empty; IMAGE_SELECT
chooses the slot, TABLE_BUILD reaches the image lock, PORT_POWER lets the ports be powered, and a self-test leaves its result. -/
def Obligations.ItemsRunInTheirSlot : Prop :=
  ∀ (s : State),
    (∀ c i arg, itemRow c = some (i, arg) → (s.itemCore i arg = none → exec c s = .next s) ∧
      ∀ u, s.itemCore i arg = some u → ∃ x, exec c s = .next x ∧ (vget x.sched.cores u).op = none ∧ x.pending = s.pending ∧
        x.time.now = s.time.now) ∧
    (∀ a b cut u, s.itemCore .imageSelect = some u → ∃ x, exec (.imageSelect ⟨a, b⟩ cut) s = .next x ∧
      ((s.choose a b).1 = none → x.img.step = 5 ∧ x.img.active = 0 ∧ x.img.image = none ∧ x.img.locked = true ∧ x.fuses = s.fuses) ∧
      (∀ n i, (s.choose a b).1 = some (n, i) →
        (s.fuses.cutShort i cut = false → x.img.step = 5 ∧ x.img.active = n.val + 1 ∧
          x.img.image = some i ∧ x.hasItem .tableBuild = true ∧
          x.fuses = (if i.advance then { s.fuses with svn := Nat.max s.fuses.svn i.svn } else s.fuses)) ∧
        (s.fuses.cutShort i cut = true → s.fuses.svn ≤ x.fuses.svn ∧ x.fuses.svn < i.svn ∧
          x = { s with fuses := { s.fuses with svn := x.fuses.svn } }))) ∧
    (∀ n u i, s.itemCore .tableBuild = some u → s.img.image = some i → ∃ x, exec (.tableBuild n) s = .next x ∧ x.img.locked = true ∧
      x.img.step = 6 ∧ x.img.startUs = n % 2 ^ 32 ∧ x.hasItem .portPower = true ∧ x.power.permit = i.power.permit ∧
      x.power.latFloor = i.power.latFloor ∧ (s.tap.custody = false → x.sched.data = .graph ∧ x.sched.mgmt = .graph)) ∧
    (∀ u i, s.itemCore .portPower = some u → s.img.image = some i → ∃ x, exec .portPower s = .next x ∧ x.img.step = 9 ∧
      x.img.portSeq = (allFin 16).filter (fun p => i.glob.portEnable.getLsbD p.val)) ∧
    (∀ f u, s.itemCore .selfTestMbist = some u → ∃ x, exec (.selfTestMbist f) s = .next x ∧ x.self.mbistBusy = false ∧ x.flows = [] ∧
      x.devs = [] ∧ x.self.mbist = (if f = 0 then 1 else 2) ∧ x.self.mbistFail = f ∧ x.self.loopBusy = (s.self.loopNext || s.self.loopBusy)) ∧
    (∀ u, s.itemCore .wake = some u → ∃ x, exec .wake s = .next x ∧ (vget x.sched.cores u).op = none ∧
      (s.power.padItem = true → x.power.padsHeld = false ∧ (s.power.padsHeld = true → x.power.waiting = [] ∧ x.pins.gpioHeld = none)) ∧
      (s.power.padItem = false → x.power = s.power ∧ x.pins = s.pins ∧ x.ports = s.ports)) ∧
    (∀ w p a l u, s.itemCore .selfTestLoopback = some u → ∃ x, exec (.selfTestLoopback w p a l) s = .next x ∧ x.self.loopBusy = false ∧
      x.self.workers = w ∧ x.self.ports = p &&& ~~~s.busySides ∧ x.self.seals = a ∧ x.self.lodes = l ∧
      (x.self.loop = 1 ↔ w = 0 ∧ p &&& ~~~s.busySides = 0 ∧ a = 0 ∧ l = 0))

/-- R303, R305, R379 to R386: a drain that ends settles its tenant; memory errors are counted; a worker or core that hangs
empties its slots and, the second time within 3,600 s, stays fenced; islands that lose their clock restart; the recovery item
returns a worker that passes its check. -/
def Obligations.DrainsAndFaults : Prop :=
  ∀ (s : State),
    (∀ t, (s.tenant t).st ≠ .quiescing → exec (.quiesceDrainEnd t) s = .next s) ∧
    (∀ t, (s.tenant t).st = .quiescing → s.tenantInSlots t = false → (∀ f ∈ s.flows, f.t = t → f.tds = [] ∧ f.done = []) →
      (let r := (s.tenant t).rings; r.orders = [] ∧ r.buf = [] ∧ r.again = [] ∧ r.notify = []) → (s.tenant t).pci.held = [] → ∃ x,
      exec (.quiesceDrainEnd t) s = .next x ∧ (x.tenant t).st = .quiesced ∧ x.flows = s.flows) ∧
    (∀ t, (s.tenant t).st ≠ .fenced ∨ s.tenantInSlots t = true → exec (.fenceDrainEnd t) s = .next s) ∧
    (∀ t, (s.tenant t).st = .fenced → s.tenantInSlots t = false → (s.tenant t).vf = false → ∃ x,
      exec (.fenceDrainEnd t) s = .next x ∧ (x.tenant t).st = .vacant ∧ ∀ f ∈ x.flows, f.t ≠ t) ∧
    (∀ b o, ∃ x, exec (.uncorrectableError b o) s = .next x ∧
      vget x.faults.uncorrectable b = Nat.min (vget s.faults.uncorrectable b + 1) 65535) ∧
    (∀ b n, (s.power.lp = .lp0 ∨ s.power.lp = .lp1 → exec (.memoryScrub b n) s = .next { s with faults := { s.faults with
        corrected := vset s.faults.corrected b (Nat.min (vget s.faults.corrected b + n) (2 ^ 48 - 1)) } }) ∧
      (s.power.lp = .lp2 ∨ s.power.lp = .lp3 → exec (.memoryScrub b n) s = .next s)) ∧
    (∀ w, let y := vget s.sched.workers w
      (y.cur = none ∨ y.fenced = true → exec (.workerHang w) s = .next s) ∧
      (∀ o, y.cur = some o → y.fenced = false → ∃ x, exec (.workerHang w) s = .next x ∧ (vget x.sched.workers w).fenced = true ∧
        (vget x.sched.workers w).cur = none ∧ (vget x.sched.workers w).next = none ∧
        (vget x.sched.workers w).lastHang = some s.time.now ∧ x.faults.jobs.length = s.faults.jobs.length + 1 ∧
        x.hasItem .faultRecover = true)) ∧
    (∀ i pll, i ≠ .aon → s.restarting i = false → ∃ x, exec (.clockLoss i pll) s = .next x ∧ x.restarting i = true ∧
      (vget x.power.islands i.idx).state = .restarting) ∧
    (∃ x, exec (.clockLoss .aon []) s = .next x ∧ x.pins.xtal32 = false ∧ x.power = s.power) ∧
    (∀ i, s.restarting i = false → exec (.islandRestartDone i) s = .next s) ∧
    (∀ i, s.restarting i = true → (s.island i).held = [] → ∃ x, exec (.islandRestartDone i) s = .next x ∧ (vget x.power.islands i.idx).state = .running ∧
      (vget x.power.islands i.idx).held = []) ∧
    (s.restarting .lode = true → exec .lodeParityFail s = .next s) ∧
    (s.restarting .lode = false → ∃ x, exec .lodeParityFail s = .next x ∧ x.restarting .lode = true ∧ x.flows = s.flows) ∧
    (∀ c o i, (vget s.sched.cores c).op = some o → o.item = some i →
      (i.exempt = true → exec (.coreHang c) s = .next s) ∧
      (i.exempt = false → ∃ x, exec (.coreHang c) s = .next x ∧ (vget x.sched.cores c).op = none ∧
        (vget x.sched.cores c).lastHang = some s.time.now ∧ x.sched.work.head? = some { task := o.task, node := o.node, item := some i, arg := o.arg } ∧
        (vget x.sched.cores c).fenced = ((vget s.sched.cores c).fenced || s.hungBefore (vget s.sched.cores c).lastHang) ∧
        vget x.faults.counts 7 = Nat.min (vget s.faults.counts 7 + 1) (2 ^ 32 - 1))) ∧
    (∀ u j l pass, s.itemCore .faultRecover = some u → s.faults.jobs = j :: l → ∃ x, exec (.faultRecover pass) s = .next x ∧
      x.faults.jobs = l ∧ vget x.faults.counts j.cls = Nat.min (vget s.faults.counts j.cls + 1) (2 ^ 32 - 1) ∧
      (∀ w, j.worker = some w → (vget x.sched.workers w).fenced =
        (if pass = true ∧ j.outcome ≠ 2 then false else (vget s.sched.workers w).fenced)))

/-- R395, R396, R402, R409 to R411: attaching, detaching, VBUS, bus reset, suspend, resume and remote wake of the service port. -/
def Obligations.ServicePortBusEvents : Prop :=
  ∀ (s : State), let v := s.svc
    (∀ h, s.mayAttach = true → v.attached = false → exec (.svcAttach h) s =
      .next { s with svc := { v with attached := true, highSpeed := h, attachFails := 0, change := v.change ||| 2 } }) ∧
    (∀ h, s.mayAttach = false ∨ v.attached = true → exec (.svcAttach h) s = .next s) ∧
    (s.mayAttach = true ∨ v.attached = false → exec .svcDetach s = .next s) ∧
    (s.mayAttach = false → v.attached = true → ∃ w, exec .svcDetach s = .next { s with svc := w } ∧ w.attached = false ∧ w.address = 0 ∧
      w.configured = false ∧ w.remoteWake = false ∧ w.session = false ∧ w.resp = none ∧ w.challenge = v.challenge ∧ w.cursor = v.cursor ∧
      w.change = v.change ||| (if v.session then 0x22 else 2)) ∧
    (exec (.svcVbusChange v.vbus) s = .next s) ∧
    (∀ b, b ≠ v.vbus → b = true ∨ v.suspended = false → exec (.svcVbusChange b) s =
      .next { s with svc := { v with vbus := b, change := v.change ||| 1, testMode := if b then v.testMode else 0 } }) ∧
    (v.vbus = true → v.suspended = true → ∃ x, exec (.svcVbusChange false) s = .next x ∧ x.svc.vbus = false ∧ x.svc.testMode = 0 ∧
      (AtWork s → x.flows = s.flows)) ∧
    (∀ m h, v.attached = false → exec (.svcBusReset m h) s = .next s) ∧
    (∀ m h, v.attached = true → ∃ x, exec (.svcBusReset m h) s = .next x ∧ x.svc.address = 0 ∧ x.svc.configured = false ∧
      x.svc.remoteWake = false ∧ x.svc.testMode = 0 ∧ x.svc.session = false ∧ x.svc.suspended = false ∧ x.svc.highSpeed = h ∧
      x.svc.attached = true ∧ x.svc.resets = Nat.min (v.resets + 1) 65535 ∧ x.svc.cursor = v.cursor ∧
      ((v.suspended = true → AtWork s) → x.svc.ep1 = v.ep1 ∧ x.flows = s.flows)) ∧
    (v.attached = false ∨ v.suspended = true → exec .svcSuspend s = .next s) ∧
    (v.attached = true → v.suspended = false → ∃ w, exec .svcSuspend s = .next { s with svc := w } ∧ w.suspended = true ∧ w.session = false ∧
      w.address = v.address ∧ w.configured = v.configured ∧ w.resp = v.resp ∧ w.challenge = v.challenge ∧ w.cursor = v.cursor ∧
      w.change = v.change ||| (if v.session then 0x28 else 8)) ∧
    (v.suspended = false → exec .svcResume s = .next s) ∧
    (v.suspended = true → ∃ x, exec .svcResume s = .next x ∧ x.svc.suspended = false ∧ x.svc.change = v.change ||| 0x10 ∧
      (v.driveK = none → x.svc.wakeCollided = v.wakeCollided) ∧ (∀ t, v.driveK = some t → s.time.now < t → x.svc.wakeCollided = true)) ∧
    (v.suspended = true → v.remoteWake = true → v.ep1 ≠ 0 → v.driveK = none → exec .svcRemoteWake s =
      .next { s with svc := { v with driveK := some (s.time.now + 2000000) }, out := .svcWake :: s.out }) ∧
    (v.suspended = false ∨ v.remoteWake = false ∨ v.ep1 = 0 ∨ v.driveK ≠ none → exec .svcRemoteWake s = .next s)

/-- R396 to R405: the service port answers requests only while it is on; a vendor request that differs from Table 16.2, or lacks
its session, is stalled, and one that matches has its effect; a standard request that is not defined is stalled. -/
def Obligations.ServicePortRequests : Prop :=
  ∀ (s : State) (x : Setup), let v := s.svc.dropVerify
    let stalled : State := { s with svc := v, out := .svcStall :: s.out }
    let fits := fun (code type : Nat) (n : Nat) => reqCode x = code ∧ reqType x = type ∧ reqIndex x = 0 ∧ reqLength x = n
    (∀ c r, svcRow c = some (x, r) → s.svcOn = false ∨ reqCode x ≠ r ∨ reqType x / 32 % 4 = 0 → exec c s = .next s) ∧
    (∀ c r, svcRow c = some (x, r) → s.svcOn = true → reqCode x = r → reqType x / 32 % 4 ≠ 0 →
      (reqType x ≠ (if r = 2 ∨ r = 0x11 ∨ 0x20 ≤ r then 0x40 else 0xC0) ∨ reqIndex x ≠ 0 → exec c s = .next stalled) ∧
      (0x20 ≤ r → s.svc.session = false → exec c s = .next stalled)) ∧
    (s.svcOn = false → exec (.svcStandardRequest x) s = .next s) ∧
    (s.svcOn = true → reqType x / 32 % 4 ≠ 0 → exec (.svcStandardRequest x) s = .next (if vendorCode (reqCode x) then s else stalled)) ∧
    (s.svcOn = true → reqType x / 32 % 4 = 0 → (reqCode x = 2 ∨ reqCode x = 4 ∨ reqCode x = 7 ∨ 12 ≤ reqCode x →
      exec (.svcStandardRequest x) s = .next stalled) ∧ (reqCode x = 9 → 1 < reqValue x → exec (.svcStandardRequest x) s = .next stalled) ∧
      (reqCode x = 5 → reqType x = 0 → reqValue x < 128 → reqIndex x = 0 → reqLength x = 0 → v.configured = false →
        exec (.svcStandardRequest x) s = .next { s with svc := { v with address := BitVec.ofNat 7 (reqValue x) }, out := .svc [] :: s.out }) ∧
      (reqCode x = 9 → reqType x = 0 → reqValue x = 1 → reqIndex x = 0 → reqLength x = 0 → v.address ≠ 0 →
        exec (.svcStandardRequest x) s =
          .next { s with svc := { v with configured := true, toggles := 0, halts := 0 }, out := .svc [] :: s.out }) ∧
      (reqCode x = 6 → reqType x = 0x80 → reqIndex x = 0 → reqValue x = 0x600 → s.svcSec ≠ none →
        exec (.svcStandardRequest x) s = .next { s with svc := v, out := .svc (qualifierDesc.take (reqLength x)) :: s.out })) ∧
    (s.svcOn = true →
      (reqCode x = 1 → reqType x = 0xC0 → reqIndex x = 0 → reqValue x ≤ 129 → 1 ≤ reqLength x → reqLength x ≤ 4096 →
        exec (.getIdentity x) s =
          .next { s with svc := v, out := .svc ((identityBlob.drop (64 * reqValue x)).take (reqLength x)) :: s.out }) ∧
      (fits 2 0x40 32 → reqValue x = 0 → ∀ n, (s.fuses.revoked = true → exec (.getAttestation x n) s = .next stalled) ∧
        (s.fuses.revoked = false → ∃ y, exec (.getAttestation x n) s = .next y ∧ y.svc = { v with nonce := some n, resp := none } ∧
          y.hasItem .sealArith svcAttestArg = true ∧ y.out = .svc [] :: s.out)) ∧
      (fits 3 0xC0 72 → reqValue x = 0 → ∃ l, exec (.getResidency x) s = .next { s with svc := v, out := .svc l :: s.out } ∧ l.length = 72 ∧
        l.take 32 = ((allFin 4).map s.resTimeView).flatMap wordBytes) ∧
      (fits 0x10 0xC0 40 → reqValue x = 0 → (s.svc.lockout ≠ none → exec (.authChallenge x) s = .next stalled) ∧
        (s.svc.lockout = none → ∃ w, exec (.authChallenge x) s =
            .next { s with svc := w, free := s.free + 1, out := .svc (digestBytes (Config.random s.free) ++ serialBytes) :: s.out } ∧
          w.session = false ∧
          w.challenge = some (Config.random s.free))) ∧
      (fits 0x11 0x40 64 → reqValue x = 0 → ∀ sig,
        (∀ c, s.svc.challenge = some c → ∃ y, exec (.authResponse x sig) s = .next y ∧ y.svc.verify = some (c, sig) ∧ y.svc.inXfer = true ∧
          y.svc.challenge = none ∧ y.hasItem .sealArith svcAuthArg = true ∧ y.out = s.out) ∧
        (s.svc.challenge = none → ∃ w, exec (.authResponse x sig) s = .next { s with svc := w, out := .svcStall :: s.out } ∧
          w.authFail = Nat.min (v.authFail + 1) 65535 ∧ w.attachFails = v.attachFails + 1 ∧
          (v.attachFails = 2 → w.lockout = some (s.time.now + 60000000000)))) ∧
      (s.svc.session = true → fits 0x20 0x40 0 → 1 ≤ reqValue x → reqValue x ≤ 256 →
        (s.peat.state = .absent → exec (.getLog x) s = .next stalled) ∧
        (s.peat.state ≠ .absent → ∃ y r, exec (.getLog x) s = .next y ∧ y.svc = { v with resp := some r, nonce := none, ep1 := v.ep1 ||| 1, ep1Req := 0x20 } ∧
          r.req = 0x20 ∧ r.packets ≠ [] ∧ y.out = .svc [] :: s.out ∧ y.peat = s.peat)) ∧
      (s.svc.session = true → fits 0x21 0x40 0 → 1 ≤ reqValue x → reqValue x ≤ 4096 →
        (v.traceOk = false → exec (.getTrace x) s = .next stalled) ∧
        (v.traceOk = true → ∃ y r, exec (.getTrace x) s = .next y ∧ y.svc.resp = some r ∧ r.req = 0x21 ∧ y.trace = s.trace ∧
          r.packets.flatMap (fun p => p.1) = (s.trace.buf.take (reqValue x)).flatMap (fun r => natBytes 16 r.toNat))) ∧
      (s.svc.session = true → fits 0x22 0x40 8 → reqValue x = 0 → ∀ n,
        (s.peat.state = .absent → exec (.setLogCursor x n) s = .next stalled) ∧
        (s.peat.state ≠ .absent → exec (.setLogCursor x n) s = .next { s with svc := { v with cursor := n.toNat }, out := .svc [] :: s.out })))

/-- R401 to R404, R406: a verified AUTH_RESPONSE opens a session, a failed one counts; the lockout ends; EP1 and EP2 packets. -/
def Obligations.ServicePortEndpoints : Prop :=
  ∀ (s : State), let v := s.svc
    (∀ u n, s.itemCore .sealArith svcAttestArg = some u → v.nonce = some n → ∃ x r, exec (.sealArith .svcAttest) s = .next x ∧
      (vget x.sched.cores u).op = none ∧ x.svc.nonce = none ∧ x.svc.resp = some r ∧ r.req = 2 ∧ x.svc.ep1.getLsbD 0 = true) ∧
    (∀ u y c sig, s.itemCore .sealArith svcAuthArg = some u → s.svcSec = some y → v.verify = some (c, sig) → ∃ x,
      exec (.sealArith .svcAuth) s = .next x ∧ (vget x.sched.cores u).op = none ∧
      x.svc = { v with verify := none, verified := some (ecdsaVerify y.key (authDigest c) sig) }) ∧
    (v.verified = none → exec .authVerifyDone s = .next s) ∧
    (v.verified = some true → exec .authVerifyDone s =
      .next { s with svc := { v.dropVerify with session := true, change := v.change ||| 0x20 }, out := .svc [] :: s.out }) ∧
    (v.verified = some false → ∃ w, exec .authVerifyDone s = .next { s with svc := w, out := .svcStall :: s.out } ∧
      w.session = v.session ∧ w.verified = none ∧ w.authFail = Nat.min (v.authFail + 1) 65535 ∧ w.attachFails = v.attachFails + 1 ∧
      (v.attachFails = 2 → w.lockout = some (s.time.now + 60000000000))) ∧
    (∀ t, v.lockout = some t → (t ≤ s.time.now → exec .authLockoutEnd s = .next { s with svc := { v with lockout := none, attachFails := 0 } }) ∧
      (s.time.now < t → exec .authLockoutEnd s = .next s)) ∧
    (v.lockout = none → exec .authLockoutEnd s = .next s) ∧
    (s.svcOn = false ∨ v.configured = false → exec .svcEp2InAck s = .next s ∧ exec .svcEp1Ack s = .next s ∧
      ∀ d, exec (.svcEp2OutData d) s = .next s) ∧
    (s.svcOn = true → v.configured = true →
      (∀ r p l, v.resp = some r → r.packets = p :: l → v.halts.getLsbD 1 = false → exec .svcEp2InAck s =
        .next { s with svc := { v with resp := (if l = [] then none else some { r with packets := l }), cursor := p.2.getD v.cursor,
                                       toggles := v.toggles ^^^ 2 },
                       out := .svc p.1 :: s.out }) ∧
      (v.resp = none ∨ v.halts.getLsbD 1 = true → exec .svcEp2InAck s = .next s) ∧
      (v.ep1 ≠ 0 → v.halts.getLsbD 0 = false → ∃ l, exec .svcEp1Ack s =
        .next { s with svc := { v with ep1 := 0, ep1Req := 0, toggles := v.toggles ^^^ 1 }, out := .svc l :: s.out } ∧ l.length = 16 ∧
        l.head? = some (v.ep1.setWidth 8) ∧ l.drop 8 = natBytes 8 s.peat.logNext) ∧
      (v.ep1 = 0 ∨ v.halts.getLsbD 0 = true → exec .svcEp1Ack s = .next s) ∧
      (∀ d, v.halts.getLsbD 2 = false → exec (.svcEp2OutData d) s = .next { s with svc := { v with toggles := v.toggles ^^^ 4 } }) ∧
      (∀ d, v.halts.getLsbD 2 = true → exec (.svcEp2OutData d) s = .next { s with out := .svcStall :: s.out }))

/-- R412 to R414 (Tables 16.4, 16.5): the TAP's instructions take the pins or leave them; one that takes them begins test
custody, which fences the tenants, ends Peat and detaches the service port; Test-Logic-Reset selects IDCODE. -/
def Obligations.TapAndCustody : Prop :=
  ∀ (s : State),
    (∀ c i, tapRow c = some i → s.pins.porN = false → exec c s = .next s) ∧
    (∀ b, exec (.tapReset b) s = .next { s with tap := { s.tap with ir := 1, pinsTaken := false, hiZ := false } }) ∧
    (s.pins.porN = true →
      exec .idcode s = .next { s with tap := { s.tap with ir := 1, pinsTaken := false, hiZ := false },
                                      out := .tdo (scanOut tapIdcode) :: .tdo (scanOut (1 : BitVec 5)) :: s.out } ∧
      exec .bypass s = .next { s with tap := { s.tap with ir := 31, pinsTaken := false, hiZ := false },
                                      out := .tdo (scanOut (1 : BitVec 5)) :: s.out } ∧
      (∀ l, l.length = 412 → exec (.samplePreload l) s =
        .next { s with tap := { s.tap with ir := 2, pinsTaken := false, hiZ := false, boundary := l },
                       out := .tdo s.captured :: .tdo (scanOut (1 : BitVec 5)) :: s.out, free := s.free + 412 }) ∧
      (s.tap.custody = true →
        exec .extest s = .next (InTest s .extest) ∧ exec .clamp s = .next (InTest s .clamp) ∧ exec .highz s = .next (InTest s .highz) ∧
        exec .extestPulse s = .next (InTest s .extestPulse) ∧ exec .extestTrain s = .next (InTest s .extestTrain)) ∧
      (s.tap.custody = false →
        (∃ x, exec .extest s = .next x ∧ CustodyBegun s .extest x) ∧ (∃ x, exec .clamp s = .next x ∧ CustodyBegun s .clamp x) ∧
        (∃ x, exec .highz s = .next x ∧ CustodyBegun s .highz x) ∧
        (∃ x, exec .extestPulse s = .next x ∧ CustodyBegun s .extestPulse x) ∧
        (∃ x, exec .extestTrain s = .next x ∧ CustodyBegun s .extestTrain x)))

/-- R402: three failed AUTH_RESPONSE requests within one attach stall AUTH_CHALLENGE for 60 s; what ends a session; SESSION and
its change. -/
def Obligations.SessionsAndLockout : Prop :=
  ∀ (s : State), let v := s.svc
    let ended := fun (x : State) => x.svc.session = false ∧ (v.session = true → x.svc.change.getLsbD 5 = true)
    (∀ h, s.mayAttach = true → v.attached = false → ∃ x, exec (.svcAttach h) s = .next x ∧ x.svc.attachFails = 0) ∧
    (v.verified = some false → ∃ x, exec .authVerifyDone s = .next x ∧ x.svc.attachFails = v.attachFails + 1 ∧
      x.svc.lockout = (if v.attachFails = 2 then some (s.time.now + 60000000000) else v.lockout)) ∧
    (∀ q sig, s.svcOn = true → reqCode q = 0x11 → reqType q = 0x40 → reqIndex q = 0 → reqValue q = 0 → reqLength q = 64 → v.challenge = none →
      ∃ x, exec (.authResponse q sig) s = .next x ∧ x.svc.attachFails = v.attachFails + 1 ∧
        x.svc.lockout = (if v.attachFails = 2 then some (s.time.now + 60000000000) else v.lockout)) ∧
    (∀ t, v.lockout = some t → (s.time.now < t → exec .authLockoutEnd s = .next s) ∧
      (t ≤ s.time.now → ∃ x, exec .authLockoutEnd s = .next x ∧ x.svc.lockout = none)) ∧
    (∀ q, s.svcOn = true → reqCode q = 0x10 → reqType q = 0xC0 → reqIndex q = 0 → reqValue q = 0 → reqLength q = 40 →
      (v.lockout ≠ none → exec (.authChallenge q) s = .next { s with svc := v.dropVerify, out := .svcStall :: s.out }) ∧
      (v.lockout = none → ∃ x, exec (.authChallenge q) s = .next x ∧ ended x)) ∧
    (∀ m h, v.attached = true → ∃ x, exec (.svcBusReset m h) s = .next x ∧ ended x) ∧
    (v.attached = true → s.mayAttach = false → ∃ x, exec .svcDetach s = .next x ∧ ended x) ∧
    (∀ w, Reaches .pf0 s → w &&& bits 63 2 = 0 → w.getLsbD 0 = false → v.attached = true → ∃ x, exec (.svcCtlWrite .full w) s = .next x ∧
      ended x) ∧
    (∀ q, s.svcOn = true → reqCode q = 9 → reqType q = 0 → reqValue q = 0 → reqIndex q = 0 → reqLength q = 0 → v.address ≠ 0 → ∃ x,
      exec (.svcStandardRequest q) s = .next x ∧ ended x) ∧
    (v.attached = true → v.suspended = false → ∃ x, exec .svcSuspend s = .next x ∧ ended x) ∧
    (v.verified = some true → ∃ x, exec .authVerifyDone s = .next x ∧ x.svc.session = true ∧ x.svc.change.getLsbD 5 = true) ∧
    (s.regValue .pf0 0xA0008).getLsbD 8 = v.session

/-- R411: what a bus reset does to the service port. -/
def Obligations.ServicePortBusReset : Prop :=
  ∀ (m h : Bool) (s : State), s.svc.attached = true → ∃ x, exec (.svcBusReset m h) s = .next x ∧ (let v := s.svc; let w := x.svc
    w.session = false ∧ w.resp = none ∧ w.toggles = 0 ∧ w.address = 0 ∧ w.configured = false ∧ w.remoteWake = false ∧ w.testMode = 0 ∧
    w.resets = Nat.min (v.resets + 1) 65535 ∧ w.change.getLsbD 2 = true ∧ w.verify = none ∧ w.verified = none ∧ w.nonce = none ∧
    w.inXfer = false ∧ w.resetMid = (if m || v.inXfer then Nat.min (v.resetMid + 1) 65535 else v.resetMid) ∧
    w.cursor = v.cursor ∧ w.authFail = v.authFail ∧ w.challenge = v.challenge ∧ w.lockout = v.lockout ∧ w.vbus = v.vbus ∧
    x.fuses = s.fuses ∧ ((v.suspended = true → AtWork s) → x.flows = s.flows ∧ x.peat = s.peat ∧ w.ep1 = v.ep1))

/-- R257: without an ENERGY section the account is disabled: BUDGET is always 1, the stages choose nothing, ENABLED reads 0, and
THERM_N still asserts at T_CRIT. -/
def Obligations.EnergySectionAbsent : Prop :=
  ∀ (s : State),
    (∀ n u i, s.itemCore .tableBuild = some u → s.img.image = some i → i.energy = none → ∃ x, exec (.tableBuild n) s = .next x ∧
      x.energy.enabled = false) ∧
    (s.energy.enabled = false →
      (∀ t, s.budget t = true) ∧ exec .energyTick s = .next s ∧ (s.regValue .pf0 0x320C8).getLsbD 2 = false ∧
      (∀ e : Energy, e.enabled = false → ({ s with energy := e } : State).oppWanted = s.oppWanted) ∧
      (∀ r, s.pins.porN = true → (∃ b ∈ r, (s.energy.limits.getD 2 0 : Int) ≤ b.toInt) → ∃ x, exec (.thermalSample r) s = .next x ∧ x.pins.thermN = true ∧
        x.energy.stage = .crit ∧ x.energy.enabled = false ∧ (AtWork s → x.flows = s.flows)))

/-- The registers' reset values that the register tables of 03 to 16 give: of the whole PF0 map and of a VF's, arrays at both
ends. -/
def Obligations.RegisterResetValues : Prop :=
  (∀ e ∈ pfResets, (State.reset.regValue .pf0 e.1).toNat = e.2) ∧ (∀ e ∈ vfResets, ∀ t, t = 0 ∨ t = 255 →
    (State.reset.regValue (.vf t) e.1).toNat = e.2) ∧ (∀ o ∈ pfZeros, State.reset.regValue .pf0 o = 0) ∧
  (∀ o ∈ vfZeros, State.reset.regValue (.vf 0) o = 0 ∧ State.reset.regValue (.vf 255) o = 0) ∧
  (∀ w : Fin 32, State.reset.regValue .pf0 (0x20100 + 8 * w.val) = if w.val = 0 ∨ w.val = 16 then 0x0002000000000000 else 0) ∧
  (∀ t, t = 0 ∨ t = 5 ∨ t = 255 → State.reset.regValue (.vf t) 0 = 0x0000000102571E9D + (BitVec.ofNat 64 t.val <<< 40)) ∧
  State.reset.pending = [] ∧ State.reset.flows = [] ∧ State.reset.devs = [] ∧ State.reset.pins.porN = false

/-- Every command answers a next state (00 R6), leaves the queue alone, and changes no part that its row does not list. -/
def Obligations.EveryCommandCompletesInItsFrame : Prop :=
  ∀ (c : Instr) (s : State), ∃ x, exec c s = .next x ∧ x.pending = s.pending ∧ ∀ p : Part, p ∉ changedParts c → p.same s x

/-- R66, R70, R356: one-time fuses only grow, whatever the block is told: the fused minimum and the epoch never fall and stay in
range, a revocation never ends, and a claim never changes. -/
def Obligations.FusesOnlyGrowAtEveryStep : Prop :=
  ∀ (r : Fuses) (s t : State), Permanent r s → step s = .next t → Permanent r t

/-- The reset state meets the invariant of FusesOnlyGrowAtEveryStep, with its own fuses. -/
def Obligations.ResetMeetsPermanent : Prop :=
 Permanent State.reset.fuses State.reset

/-- R414, R55: test custody and the image lock last until a full reset (the lock: until any reset), whatever command is taken. -/
def Obligations.CustodyAndLockLast : Prop :=
  ∀ (s t : State), step s = .next t →
    (s.tap.custody = true → (∀ src b l, s.pending ≠ .fullReset src b :: l) → t.tap.custody = true) ∧
    (s.img.locked = true → (∀ src b l, s.pending ≠ .fullReset src b :: l) → (∀ l, s.pending ≠ .watchdogReset :: l) → t.img.locked = true)
end

