-- ==== Sys2Proof/Laws/Access.lean ====
section
/-! SUPPORT. Where every island runs, no request and no slot's work is held: an access acts at once. -/

namespace Sys2Proof.Machine

theorem State.running_all {s : State} (h : ∀ i ∈ allIslands, s.running i = true) (i : Island) : s.running i = true :=
  h i (by cases i <;> decide)

theorem State.blocked_none {s : State} (h : ∀ i ∈ allIslands, s.running i = true) (p : Island) (l : List Island) :
    s.blocked p l = none := by
  induction l generalizing p with
  | nil => rfl
  | cons i l ih => simp [State.blocked, State.running_all h i, ih]

theorem State.front_awake {s : State} (h : ∀ i ∈ allIslands, s.running i = true) (way : List Island) (q : CulvertReq) (go : State) :
    s.front way q go = go := by
  simp [State.front, State.blocked_none h]

theorem State.passOp_awake {s : State} (h : ∀ i ∈ allIslands, s.running i = true) (u : UnitId) (i : Island) (way : List Island)
    (go : State) : s.passOp u i way go = go := by
  simp [State.passOp, State.blocked_none h]

/-- A write of a register that is reached and takes it. -/
theorem State.regWrite_taken {s : State} {f : Fn} {off : Nat} {k : RegKind} {rsv cur v : Word} {eff : Word → State → State}
    (h : ∀ i ∈ allIslands, s.running i = true) (hu : s.unsupported f = false) (hf : s.fencedFn f = false)
    (hk : k = .plain ∨ k = .side) (hv : v &&& rsv = 0) :
    s.regWrite f off k rsv cur .full v eff = (eff v (s.dropLatch f)).answer .ok := by
  rcases hk with rfl | rfl <;> simp [State.regWrite, State.front_awake h, State.regAccept, hu, hf, accepts, mergeHalf, hv]

/-- A read of a whole register that is reached. -/
theorem State.regRead_taken {s : State} {f : Fn} {off : Nat} {v : Word} {lo hi : State → State}
    (h : ∀ i ∈ allIslands, s.running i = true) (hu : s.unsupported f = false) (hf : s.fencedFn f = false) :
    s.regRead f off .full v lo hi = (hi (lo (s.dropLatch f))).answer (.data v) := by
  simp [State.regRead, State.front_awake h, State.regTake, hu, hf, RdHalf.lo, RdHalf.hi, readResp]

end Sys2Proof.Machine
end

