-- ==== Sys2Proof/Laws/Only.lean ====
section
/-! SUPPORT. Frames: `Only m s x` says that x differs from s at most in the fields of State whose bit is 1 in the mask m, bit i
    being the
i-th field as State declares them. One lemma per shared operation and per command (files Laws/Only*.lean) states its mask. -/

namespace Sys2Proof.Machine

/-- The marked fields of x, and the others of s. -/
def State.merge (m : Nat) (s x : State) : State where
  pending := bif m.testBit 0 then x.pending else s.pending
  pins := bif m.testBit 1 then x.pins else s.pins
  fuses := bif m.testBit 2 then x.fuses else s.fuses
  img := bif m.testBit 3 then x.img else s.img
  pf := bif m.testBit 4 then x.pf else s.pf
  link := bif m.testBit 5 then x.link else s.link
  gblAccessErr := bif m.testBit 6 then x.gblAccessErr else s.gblAccessErr
  vfRefused := bif m.testBit 7 then x.vfRefused else s.vfRefused
  mgr := bif m.testBit 8 then x.mgr else s.mgr
  time := bif m.testBit 9 then x.time else s.time
  frames := bif m.testBit 10 then x.frames else s.frames
  sched := bif m.testBit 11 then x.sched else s.sched
  trace := bif m.testBit 12 then x.trace else s.trace
  sluice := bif m.testBit 13 then x.sluice else s.sluice
  energy := bif m.testBit 14 then x.energy else s.energy
  shadowBusy := bif m.testBit 15 then x.shadowBusy else s.shadowBusy
  tenants := bif m.testBit 16 then x.tenants else s.tenants
  flows := bif m.testBit 17 then x.flows else s.flows
  devs := bif m.testBit 18 then x.devs else s.devs
  ports := bif m.testBit 19 then x.ports else s.ports
  gangMask := bif m.testBit 20 then x.gangMask else s.gangMask
  gangs := bif m.testBit 21 then x.gangs else s.gangs
  deglitchUs := bif m.testBit 22 then x.deglitchUs else s.deglitchUs
  devSel := bif m.testBit 23 then x.devSel else s.devSel
  tts := bif m.testBit 24 then x.tts else s.tts
  seals := bif m.testBit 25 then x.seals else s.seals
  shared := bif m.testBit 26 then x.shared else s.shared
  pfIrq := bif m.testBit 27 then x.pfIrq else s.pfIrq
  pfHold := bif m.testBit 28 then x.pfHold else s.pfHold
  power := bif m.testBit 29 then x.power else s.power
  peat := bif m.testBit 30 then x.peat else s.peat
  faults := bif m.testBit 31 then x.faults else s.faults
  svc := bif m.testBit 32 then x.svc else s.svc
  self := bif m.testBit 33 then x.self else s.self
  tap := bif m.testBit 34 then x.tap else s.tap
  out := bif m.testBit 35 then x.out else s.out
  resp := bif m.testBit 36 then x.resp else s.resp
  free := bif m.testBit 37 then x.free else s.free

/-- x differs from s only in fields that the mask marks. -/
def Only (m : Nat) (s x : State) : Prop := State.merge m s x = x

theorem Only.pending {m : Nat} {s x : State} (h : Only m s x) (k : m.testBit 0 = false) : x.pending = s.pending := by
  have := congrArg State.pending h
  simpa [State.merge, k] using this.symm

theorem Only.pins {m : Nat} {s x : State} (h : Only m s x) (k : m.testBit 1 = false) : x.pins = s.pins := by
  have := congrArg State.pins h
  simpa [State.merge, k] using this.symm

theorem Only.fuses {m : Nat} {s x : State} (h : Only m s x) (k : m.testBit 2 = false) : x.fuses = s.fuses := by
  have := congrArg State.fuses h
  simpa [State.merge, k] using this.symm

theorem Only.img {m : Nat} {s x : State} (h : Only m s x) (k : m.testBit 3 = false) : x.img = s.img := by
  have := congrArg State.img h
  simpa [State.merge, k] using this.symm

theorem Only.pf {m : Nat} {s x : State} (h : Only m s x) (k : m.testBit 4 = false) : x.pf = s.pf := by
  have := congrArg State.pf h
  simpa [State.merge, k] using this.symm

theorem Only.link {m : Nat} {s x : State} (h : Only m s x) (k : m.testBit 5 = false) : x.link = s.link := by
  have := congrArg State.link h
  simpa [State.merge, k] using this.symm

theorem Only.gblAccessErr {m : Nat} {s x : State} (h : Only m s x) (k : m.testBit 6 = false) : x.gblAccessErr = s.gblAccessErr := by
  have := congrArg State.gblAccessErr h
  simpa [State.merge, k] using this.symm

theorem Only.vfRefused {m : Nat} {s x : State} (h : Only m s x) (k : m.testBit 7 = false) : x.vfRefused = s.vfRefused := by
  have := congrArg State.vfRefused h
  simpa [State.merge, k] using this.symm

theorem Only.mgr {m : Nat} {s x : State} (h : Only m s x) (k : m.testBit 8 = false) : x.mgr = s.mgr := by
  have := congrArg State.mgr h
  simpa [State.merge, k] using this.symm

theorem Only.time {m : Nat} {s x : State} (h : Only m s x) (k : m.testBit 9 = false) : x.time = s.time := by
  have := congrArg State.time h
  simpa [State.merge, k] using this.symm

theorem Only.frames {m : Nat} {s x : State} (h : Only m s x) (k : m.testBit 10 = false) : x.frames = s.frames := by
  have := congrArg State.frames h
  simpa [State.merge, k] using this.symm

theorem Only.sched {m : Nat} {s x : State} (h : Only m s x) (k : m.testBit 11 = false) : x.sched = s.sched := by
  have := congrArg State.sched h
  simpa [State.merge, k] using this.symm

theorem Only.trace {m : Nat} {s x : State} (h : Only m s x) (k : m.testBit 12 = false) : x.trace = s.trace := by
  have := congrArg State.trace h
  simpa [State.merge, k] using this.symm

theorem Only.sluice {m : Nat} {s x : State} (h : Only m s x) (k : m.testBit 13 = false) : x.sluice = s.sluice := by
  have := congrArg State.sluice h
  simpa [State.merge, k] using this.symm

theorem Only.energy {m : Nat} {s x : State} (h : Only m s x) (k : m.testBit 14 = false) : x.energy = s.energy := by
  have := congrArg State.energy h
  simpa [State.merge, k] using this.symm

theorem Only.shadowBusy {m : Nat} {s x : State} (h : Only m s x) (k : m.testBit 15 = false) : x.shadowBusy = s.shadowBusy := by
  have := congrArg State.shadowBusy h
  simpa [State.merge, k] using this.symm

theorem Only.tenants {m : Nat} {s x : State} (h : Only m s x) (k : m.testBit 16 = false) : x.tenants = s.tenants := by
  have := congrArg State.tenants h
  simpa [State.merge, k] using this.symm

theorem Only.flows {m : Nat} {s x : State} (h : Only m s x) (k : m.testBit 17 = false) : x.flows = s.flows := by
  have := congrArg State.flows h
  simpa [State.merge, k] using this.symm

theorem Only.devs {m : Nat} {s x : State} (h : Only m s x) (k : m.testBit 18 = false) : x.devs = s.devs := by
  have := congrArg State.devs h
  simpa [State.merge, k] using this.symm

theorem Only.ports {m : Nat} {s x : State} (h : Only m s x) (k : m.testBit 19 = false) : x.ports = s.ports := by
  have := congrArg State.ports h
  simpa [State.merge, k] using this.symm

theorem Only.gangMask {m : Nat} {s x : State} (h : Only m s x) (k : m.testBit 20 = false) : x.gangMask = s.gangMask := by
  have := congrArg State.gangMask h
  simpa [State.merge, k] using this.symm

theorem Only.gangs {m : Nat} {s x : State} (h : Only m s x) (k : m.testBit 21 = false) : x.gangs = s.gangs := by
  have := congrArg State.gangs h
  simpa [State.merge, k] using this.symm

theorem Only.deglitchUs {m : Nat} {s x : State} (h : Only m s x) (k : m.testBit 22 = false) : x.deglitchUs = s.deglitchUs := by
  have := congrArg State.deglitchUs h
  simpa [State.merge, k] using this.symm

theorem Only.devSel {m : Nat} {s x : State} (h : Only m s x) (k : m.testBit 23 = false) : x.devSel = s.devSel := by
  have := congrArg State.devSel h
  simpa [State.merge, k] using this.symm

theorem Only.tts {m : Nat} {s x : State} (h : Only m s x) (k : m.testBit 24 = false) : x.tts = s.tts := by
  have := congrArg State.tts h
  simpa [State.merge, k] using this.symm

theorem Only.seals {m : Nat} {s x : State} (h : Only m s x) (k : m.testBit 25 = false) : x.seals = s.seals := by
  have := congrArg State.seals h
  simpa [State.merge, k] using this.symm

theorem Only.shared {m : Nat} {s x : State} (h : Only m s x) (k : m.testBit 26 = false) : x.shared = s.shared := by
  have := congrArg State.shared h
  simpa [State.merge, k] using this.symm

theorem Only.pfIrq {m : Nat} {s x : State} (h : Only m s x) (k : m.testBit 27 = false) : x.pfIrq = s.pfIrq := by
  have := congrArg State.pfIrq h
  simpa [State.merge, k] using this.symm

theorem Only.pfHold {m : Nat} {s x : State} (h : Only m s x) (k : m.testBit 28 = false) : x.pfHold = s.pfHold := by
  have := congrArg State.pfHold h
  simpa [State.merge, k] using this.symm

theorem Only.power {m : Nat} {s x : State} (h : Only m s x) (k : m.testBit 29 = false) : x.power = s.power := by
  have := congrArg State.power h
  simpa [State.merge, k] using this.symm

theorem Only.peat {m : Nat} {s x : State} (h : Only m s x) (k : m.testBit 30 = false) : x.peat = s.peat := by
  have := congrArg State.peat h
  simpa [State.merge, k] using this.symm

theorem Only.faults {m : Nat} {s x : State} (h : Only m s x) (k : m.testBit 31 = false) : x.faults = s.faults := by
  have := congrArg State.faults h
  simpa [State.merge, k] using this.symm

theorem Only.svc {m : Nat} {s x : State} (h : Only m s x) (k : m.testBit 32 = false) : x.svc = s.svc := by
  have := congrArg State.svc h
  simpa [State.merge, k] using this.symm

theorem Only.self {m : Nat} {s x : State} (h : Only m s x) (k : m.testBit 33 = false) : x.self = s.self := by
  have := congrArg State.self h
  simpa [State.merge, k] using this.symm

theorem Only.tap {m : Nat} {s x : State} (h : Only m s x) (k : m.testBit 34 = false) : x.tap = s.tap := by
  have := congrArg State.tap h
  simpa [State.merge, k] using this.symm

theorem Only.out {m : Nat} {s x : State} (h : Only m s x) (k : m.testBit 35 = false) : x.out = s.out := by
  have := congrArg State.out h
  simpa [State.merge, k] using this.symm

theorem Only.resp {m : Nat} {s x : State} (h : Only m s x) (k : m.testBit 36 = false) : x.resp = s.resp := by
  have := congrArg State.resp h
  simpa [State.merge, k] using this.symm

theorem Only.free {m : Nat} {s x : State} (h : Only m s x) (k : m.testBit 37 = false) : x.free = s.free := by
  have := congrArg State.free h
  simpa [State.merge, k] using this.symm

theorem cond_eq_left {α : Type} {b : Bool} {x y : α} (h : b = false → x = y) : (bif b then x else y) = x := by
  cases b
  · exact (h rfl).symm
  · rfl

theorem Only.of {m : Nat} {s x : State}
    (h0 : m.testBit 0 = false → x.pending = s.pending)
    (h1 : m.testBit 1 = false → x.pins = s.pins)
    (h2 : m.testBit 2 = false → x.fuses = s.fuses)
    (h3 : m.testBit 3 = false → x.img = s.img)
    (h4 : m.testBit 4 = false → x.pf = s.pf)
    (h5 : m.testBit 5 = false → x.link = s.link)
    (h6 : m.testBit 6 = false → x.gblAccessErr = s.gblAccessErr)
    (h7 : m.testBit 7 = false → x.vfRefused = s.vfRefused)
    (h8 : m.testBit 8 = false → x.mgr = s.mgr)
    (h9 : m.testBit 9 = false → x.time = s.time)
    (h10 : m.testBit 10 = false → x.frames = s.frames)
    (h11 : m.testBit 11 = false → x.sched = s.sched)
    (h12 : m.testBit 12 = false → x.trace = s.trace)
    (h13 : m.testBit 13 = false → x.sluice = s.sluice)
    (h14 : m.testBit 14 = false → x.energy = s.energy)
    (h15 : m.testBit 15 = false → x.shadowBusy = s.shadowBusy)
    (h16 : m.testBit 16 = false → x.tenants = s.tenants)
    (h17 : m.testBit 17 = false → x.flows = s.flows)
    (h18 : m.testBit 18 = false → x.devs = s.devs)
    (h19 : m.testBit 19 = false → x.ports = s.ports)
    (h20 : m.testBit 20 = false → x.gangMask = s.gangMask)
    (h21 : m.testBit 21 = false → x.gangs = s.gangs)
    (h22 : m.testBit 22 = false → x.deglitchUs = s.deglitchUs)
    (h23 : m.testBit 23 = false → x.devSel = s.devSel)
    (h24 : m.testBit 24 = false → x.tts = s.tts)
    (h25 : m.testBit 25 = false → x.seals = s.seals)
    (h26 : m.testBit 26 = false → x.shared = s.shared)
    (h27 : m.testBit 27 = false → x.pfIrq = s.pfIrq)
    (h28 : m.testBit 28 = false → x.pfHold = s.pfHold)
    (h29 : m.testBit 29 = false → x.power = s.power)
    (h30 : m.testBit 30 = false → x.peat = s.peat)
    (h31 : m.testBit 31 = false → x.faults = s.faults)
    (h32 : m.testBit 32 = false → x.svc = s.svc)
    (h33 : m.testBit 33 = false → x.self = s.self)
    (h34 : m.testBit 34 = false → x.tap = s.tap)
    (h35 : m.testBit 35 = false → x.out = s.out)
    (h36 : m.testBit 36 = false → x.resp = s.resp)
    (h37 : m.testBit 37 = false → x.free = s.free) : Only m s x := by
  unfold Only State.merge
  rw [cond_eq_left h0, cond_eq_left h1, cond_eq_left h2, cond_eq_left h3, cond_eq_left h4, cond_eq_left h5, cond_eq_left h6,
    cond_eq_left h7, cond_eq_left h8, cond_eq_left h9, cond_eq_left h10, cond_eq_left h11, cond_eq_left h12, cond_eq_left h13,
    cond_eq_left h14, cond_eq_left h15, cond_eq_left h16, cond_eq_left h17, cond_eq_left h18, cond_eq_left h19, cond_eq_left h20,
    cond_eq_left h21, cond_eq_left h22, cond_eq_left h23, cond_eq_left h24, cond_eq_left h25, cond_eq_left h26, cond_eq_left h27,
    cond_eq_left h28, cond_eq_left h29, cond_eq_left h30, cond_eq_left h31, cond_eq_left h32, cond_eq_left h33, cond_eq_left h34,
    cond_eq_left h35, cond_eq_left h36, cond_eq_left h37]

theorem Only.refl (m : Nat) (s : State) : Only m s s := by
  apply Only.of <;> exact fun _ => rfl

theorem Only.trans {m : Nat} {s x y : State} (a : Only m s x) (b : Only m x y) : Only m s y :=
  Only.of (fun h => (b.pending h).trans (a.pending h)) (fun h => (b.pins h).trans (a.pins h)) (fun h => (b.fuses h).trans (a.fuses
    h)) (fun h => (b.img h).trans (a.img h)) (fun h => (b.pf h).trans (a.pf h)) (fun h => (b.link h).trans (a.link h)) (fun h =>
    (b.gblAccessErr h).trans (a.gblAccessErr h)) (fun h => (b.vfRefused h).trans (a.vfRefused h)) (fun h => (b.mgr h).trans (a.mgr
    h)) (fun h => (b.time h).trans (a.time h)) (fun h => (b.frames h).trans (a.frames h)) (fun h => (b.sched h).trans (a.sched h))
    (fun h => (b.trace h).trans (a.trace h)) (fun h => (b.sluice h).trans (a.sluice h)) (fun h => (b.energy h).trans (a.energy h))
    (fun h => (b.shadowBusy h).trans (a.shadowBusy h)) (fun h => (b.tenants h).trans (a.tenants h)) (fun h => (b.flows h).trans
    (a.flows h)) (fun h => (b.devs h).trans (a.devs h)) (fun h => (b.ports h).trans (a.ports h)) (fun h => (b.gangMask h).trans
    (a.gangMask h)) (fun h => (b.gangs h).trans (a.gangs h)) (fun h => (b.deglitchUs h).trans (a.deglitchUs h)) (fun h =>
    (b.devSel h).trans (a.devSel h)) (fun h => (b.tts h).trans (a.tts h)) (fun h => (b.seals h).trans (a.seals h)) (fun h =>
    (b.shared h).trans (a.shared h)) (fun h => (b.pfIrq h).trans (a.pfIrq h)) (fun h => (b.pfHold h).trans (a.pfHold h)) (fun h =>
    (b.power h).trans (a.power h)) (fun h => (b.peat h).trans (a.peat h)) (fun h => (b.faults h).trans (a.faults h)) (fun h =>
    (b.svc h).trans (a.svc h)) (fun h => (b.self h).trans (a.self h)) (fun h => (b.tap h).trans (a.tap h)) (fun h => (b.out
    h).trans (a.out h)) (fun h => (b.resp h).trans (a.resp h)) (fun h => (b.free h).trans (a.free h))

theorem mask_le {m n : Nat} (h : m ||| n = n) {i : Nat} (hi : n.testBit i = false) : m.testBit i = false := by
  rw [← h, Nat.testBit_or, Bool.or_eq_false_iff] at hi
  exact hi.1

theorem Only.mono {m n : Nat} {s x : State} (a : Only m s x) (h : m ||| n = n) : Only n s x :=
  Only.of (fun k => a.pending (mask_le h k)) (fun k => a.pins (mask_le h k)) (fun k => a.fuses (mask_le h k)) (fun k => a.img
    (mask_le h k)) (fun k => a.pf (mask_le h k)) (fun k => a.link (mask_le h k)) (fun k => a.gblAccessErr (mask_le h k)) (fun k =>
    a.vfRefused (mask_le h k)) (fun k => a.mgr (mask_le h k)) (fun k => a.time (mask_le h k)) (fun k => a.frames (mask_le h k))
    (fun k => a.sched (mask_le h k)) (fun k => a.trace (mask_le h k)) (fun k => a.sluice (mask_le h k)) (fun k => a.energy
    (mask_le h k)) (fun k => a.shadowBusy (mask_le h k)) (fun k => a.tenants (mask_le h k)) (fun k => a.flows (mask_le h k)) (fun
    k => a.devs (mask_le h k)) (fun k => a.ports (mask_le h k)) (fun k => a.gangMask (mask_le h k)) (fun k => a.gangs (mask_le h
    k)) (fun k => a.deglitchUs (mask_le h k)) (fun k => a.devSel (mask_le h k)) (fun k => a.tts (mask_le h k)) (fun k => a.seals
    (mask_le h k)) (fun k => a.shared (mask_le h k)) (fun k => a.pfIrq (mask_le h k)) (fun k => a.pfHold (mask_le h k)) (fun k =>
    a.power (mask_le h k)) (fun k => a.peat (mask_le h k)) (fun k => a.faults (mask_le h k)) (fun k => a.svc (mask_le h k)) (fun k
    => a.self (mask_le h k)) (fun k => a.tap (mask_le h k)) (fun k => a.out (mask_le h k)) (fun k => a.resp (mask_le h k)) (fun k
    => a.free (mask_le h k))

theorem mask_sub {m n k : Nat} (h : m ||| n = n) (g : n ||| k = k) : m ||| k = k := by
  rw [← g, ← Nat.or_assoc, h]

/-- An operation of mask m after something of mask n. -/
theorem Only.step {m n : Nat} {s x y : State} (b : Only m x y) (a : Only n s x) (h : m ||| n = n) : Only n s y :=
  a.trans (b.mono h)

theorem Only.foldl {α : Type} {m : Nat} {f : State → α → State} {s z : State} {l : List α} (a : Only m s z)
    (h : ∀ y x, Only m y (f y x)) : Only m s (l.foldl f z) := by
  induction l generalizing z with
  | nil => exact a
  | cons x l ih => exact ih (a.trans (h z x))

/-- A record update of x. -/
theorem Only.upd {m : Nat} {s x : State} {a1 a2 a3 a4 a5 a6 a7 a8 a9 a10 a11 a12 a13 a14 a15 a16 a17 a18 a19 a20 a21 a22 a23 a24
    a25 a26 a27 a28 a29 a30 a31 a32 a33 a34 a35 a36 a37} (a : Only m s x)
    (h : Only m x (State.mk x.pending a1 a2 a3 a4 a5 a6 a7 a8 a9 a10 a11 a12 a13 a14 a15 a16 a17 a18 a19 a20 a21 a22 a23 a24 a25
    a26 a27 a28 a29 a30 a31 a32 a33 a34 a35 a36 a37)) : Only m s (State.mk x.pending a1 a2 a3 a4 a5 a6 a7 a8 a9 a10 a11 a12 a13
    a14 a15 a16 a17 a18 a19 a20 a21 a22 a23 a24 a25 a26 a27 a28 a29 a30 a31 a32 a33 a34 a35 a36 a37) := a.trans h

theorem Only.updMono {m n : Nat} {s x : State} {a1 a2 a3 a4 a5 a6 a7 a8 a9 a10 a11 a12 a13 a14 a15 a16 a17 a18 a19 a20 a21 a22 a23
    a24 a25 a26 a27 a28 a29 a30 a31 a32 a33 a34 a35 a36 a37} (a : Only n s x)
    (h : Only m x (State.mk x.pending a1 a2 a3 a4 a5 a6 a7 a8 a9 a10 a11 a12 a13 a14 a15 a16 a17 a18 a19 a20 a21 a22 a23 a24 a25
    a26 a27 a28 a29 a30 a31 a32 a33 a34 a35 a36 a37)) (k : m ||| n = n) : Only n s (State.mk x.pending a1 a2 a3 a4 a5 a6 a7 a8 a9
    a10 a11 a12 a13 a14 a15 a16 a17 a18 a19 a20 a21 a22 a23 a24 a25 a26 a27 a28 a29 a30 a31 a32 a33 a34 a35 a36 a37) := h.step a k

end Sys2Proof.Machine
end

