-- ==== Sys2Proof/Laws/OnlyOps.lean ====
section
/-! SUPPORT. The frames of the shared operations and of the commands: memory, rings, tenancy, host link, time, shaping. -/

namespace Sys2Proof.Machine

theorem State.modTenant_only {s : State} {t : TenantId} {f : Tenant → Tenant} : Only 0x10000 s (State.modTenant s t f) := by
  unfold State.modTenant
  repeat' first
    | with_reducible exact Only.refl _ _
    | dsimp only [id]
    | split
    | ((with_reducible apply Only.upd ?_ ?h); case h => exact rfl)

theorem State.modRings_only {s : State} {f : Fn} {g : Rings → Rings} : Only 0x10100 s (State.modRings s f g) := by
  unfold State.modRings
  repeat' first
    | with_reducible exact Only.refl _ _
    | ((with_reducible apply Only.step State.modTenant_only ?_ ?k); case k => exact rfl)
    | dsimp only [id]
    | split
    | ((with_reducible apply Only.upd ?_ ?h); case h => exact rfl)

theorem State.modFn_only {s : State} {f : Fn} {g : PciFn → PciFn} : Only 0x10010 s (State.modFn s f g) := by
  unfold State.modFn
  repeat' first
    | with_reducible exact Only.refl _ _
    | ((with_reducible apply Only.step State.modTenant_only ?_ ?k); case k => exact rfl)
    | dsimp only [id]
    | split
    | ((with_reducible apply Only.upd ?_ ?h); case h => exact rfl)

theorem State.accessErr_only {s : State} {f : Fn} : Only 0x10040 s (State.accessErr s f) := by
  unfold State.accessErr
  repeat' first
    | with_reducible exact Only.refl _ _
    | ((with_reducible apply Only.step State.modTenant_only ?_ ?k); case k => exact rfl)
    | dsimp only [id]
    | split
    | ((with_reducible apply Only.upd ?_ ?h); case h => exact rfl)

theorem State.answer_only {s : State} {r : Resp} : Only 0x1000000000 s (State.answer s r) := by
  unfold State.answer
  repeat' first
    | with_reducible exact Only.refl _ _
    | dsimp only [id]
    | split
    | ((with_reducible apply Only.upd ?_ ?h); case h => exact rfl)

theorem State.emitOut_only {s : State} {o : Out} : Only 0x800000000 s (State.emitOut s o) := by
  unfold State.emitOut
  repeat' first
    | with_reducible exact Only.refl _ _
    | dsimp only [id]
    | split
    | ((with_reducible apply Only.upd ?_ ?h); case h => exact rfl)

theorem State.drainRing_only {s : State} {f : Fn} : Only 0x10100 s (State.drainRing s f) := by
  unfold State.drainRing
  try dsimp only
  repeat' first
    | with_reducible exact Only.refl _ _
    | ((with_reducible apply Only.step State.modRings_only ?_ ?k); case k => exact rfl)
    | dsimp only [id]
    | split
    | ((with_reducible apply Only.upd ?_ ?h); case h => exact rfl)

theorem State.notice_only {s : State} {f : Fn} {key : NoticeKey} {bits : BitVec 32} {step : Int} :
    Only 0x10100 s (State.notice s f key bits step) := by
  unfold State.notice
  repeat' first
    | with_reducible exact Only.refl _ _
    | ((with_reducible apply Only.step State.modRings_only ?_ ?k); case k => exact rfl)
    | ((with_reducible apply Only.step State.drainRing_only ?_ ?k); case k => exact rfl)
    | dsimp only [id]
    | split
    | ((with_reducible apply Only.upd ?_ ?h); case h => exact rfl)

theorem State.complete_only {s : State} {f : Fn} {e : Ev} : Only 0x10100 s (State.complete s f e) := by
  unfold State.complete
  try dsimp only
  repeat' first
    | with_reducible exact Only.refl _ _
    | ((with_reducible apply Only.step State.modRings_only ?_ ?k); case k => exact rfl)
    | dsimp only [id]
    | split
    | ((with_reducible apply Only.upd ?_ ?h); case h => exact rfl)

theorem State.tenantNotice_only {s : State} {t : TenantId} {bits : BitVec 32} : Only 0x10100 s (State.tenantNotice s t bits) := by
  unfold State.tenantNotice
  repeat' first
    | with_reducible exact Only.refl _ _
    | ((with_reducible apply Only.step State.notice_only ?_ ?k); case k => exact rfl)
    | dsimp only [id]
    | split
    | ((with_reducible apply Only.upd ?_ ?h); case h => exact rfl)

theorem State.mgrTenantNotice_only {s : State} {t : TenantId} {bit : Nat} : Only 0x10100 s (State.mgrTenantNotice s t bit) := by
  unfold State.mgrTenantNotice
  repeat' first
    | with_reducible exact Only.refl _ _
    | ((with_reducible apply Only.step State.notice_only ?_ ?k); case k => exact rfl)
    | dsimp only [id]
    | split
    | ((with_reducible apply Only.upd ?_ ?h); case h => exact rfl)

theorem State.mgrPortNotice_only {s : State} {loc : Nat} {bit : Nat} : Only 0x10100 s (State.mgrPortNotice s loc bit) := by
  unfold State.mgrPortNotice
  repeat' first
    | with_reducible exact Only.refl _ _
    | ((with_reducible apply Only.step State.notice_only ?_ ?k); case k => exact rfl)
    | dsimp only [id]
    | split
    | ((with_reducible apply Only.upd ?_ ?h); case h => exact rfl)

theorem State.sendPost_only {s : State} {f : Fn} {p : Post} : Only 0x800011100 s (State.sendPost s f p) := by
  unfold State.sendPost
  try dsimp only
  repeat' first
    | with_reducible exact Only.refl _ _
    | ((with_reducible apply Only.step State.modRings_only ?_ ?k); case k => exact rfl)
    | ((with_reducible apply Only.step State.emitOut_only ?_ ?k); case k => exact rfl)
    | dsimp only [id]
    | split
    | ((with_reducible apply Only.upd ?_ ?h); case h => exact rfl)

theorem State.postWrite_only {s : State} {f : Fn} {p : Post} : Only 0x800011110 s (State.postWrite s f p) := by
  unfold State.postWrite
  repeat' first
    | with_reducible exact Only.refl _ _
    | ((with_reducible apply Only.step State.modFn_only ?_ ?k); case k => exact rfl)
    | ((with_reducible apply Only.step State.sendPost_only ?_ ?k); case k => exact rfl)
    | dsimp only [id]
    | split
    | ((with_reducible apply Only.upd ?_ ?h); case h => exact rfl)

theorem State.postPayload_only {s : State} {f : Fn} {addr : Word} {n : Nat} : Only 0x800011110 s (State.postPayload s f addr n) := by
  unfold State.postPayload
  repeat' first
    | with_reducible exact Only.refl _ _
    | ((with_reducible apply Only.step State.postWrite_only ?_ ?k); case k => exact rfl)
    | with_reducible apply Only.foldl ?_ (fun _ _ => ?_)
    | dsimp only [id]
    | split
    | ((with_reducible apply Only.upd ?_ ?h); case h => exact rfl)

theorem State.postData_only {s : State} {f : Fn} {addr : Word} {l : List Word} : Only 0x800011110 s (State.postData s f addr l) := by
  unfold State.postData
  repeat' first
    | with_reducible exact Only.refl _ _
    | ((with_reducible apply Only.step State.postWrite_only ?_ ?k); case k => exact rfl)
    | with_reducible apply Only.foldl ?_ (fun _ _ => ?_)
    | dsimp only [id]
    | split
    | ((with_reducible apply Only.upd ?_ ?h); case h => exact rfl)

theorem State.sendRead_only {s : State} {f : Fn} {addr : Word} {n : Nat} : Only 0x800000000 s (State.sendRead s f addr n) := by
  unfold State.sendRead
  repeat' first
    | with_reducible exact Only.refl _ _
    | ((with_reducible apply Only.step State.emitOut_only ?_ ?k); case k => exact rfl)
    | with_reducible apply Only.foldl ?_ (fun _ _ => ?_)
    | dsimp only [id]
    | split
    | ((with_reducible apply Only.upd ?_ ?h); case h => exact rfl)

theorem State.releaseHeld_only {s : State} {f : Fn} : Only 0x800011110 s (State.releaseHeld s f) := by
  unfold State.releaseHeld
  repeat' first
    | with_reducible exact Only.refl _ _
    | ((with_reducible apply Only.step State.modFn_only ?_ ?k); case k => exact rfl)
    | ((with_reducible apply Only.step State.sendPost_only ?_ ?k); case k => exact rfl)
    | with_reducible apply Only.foldl ?_ (fun _ _ => ?_)
    | dsimp only [id]
    | split
    | ((with_reducible apply Only.upd ?_ ?h); case h => exact rfl)

theorem State.addWork_only {s : State} {w : Work} : Only 0x800 s (State.addWork s w) := by
  unfold State.addWork
  repeat' first
    | with_reducible exact Only.refl _ _
    | dsimp only [id]
    | split
    | ((with_reducible apply Only.upd ?_ ?h); case h => exact rfl)

theorem State.requestAs_only {s : State} {task : Nat} {d : DevId} {r : UsbReq} : Only 0x800 s (State.requestAs s task d r) := by
  unfold State.requestAs
  repeat' first
    | with_reducible exact Only.refl _ _
    | dsimp only [id]
    | split
    | ((with_reducible apply Only.upd ?_ ?h); case h => exact rfl)

theorem State.request_only {s : State} {d : DevId} {r : UsbReq} : Only 0x800 s (State.request s d r) := by
  unfold State.request
  repeat' first
    | with_reducible exact Only.refl _ _
    | ((with_reducible apply Only.step State.requestAs_only ?_ ?k); case k => exact rfl)
    | dsimp only [id]
    | split
    | ((with_reducible apply Only.upd ?_ ?h); case h => exact rfl)

theorem State.modReq_only {s : State} {d : DevId} {r : UsbReq} {g : Req → Req} : Only 0x800 s (State.modReq s d r g) := by
  unfold State.modReq
  repeat' first
    | with_reducible exact Only.refl _ _
    | dsimp only [id]
    | split
    | ((with_reducible apply Only.upd ?_ ?h); case h => exact rfl)

theorem State.dropReqs_only {s : State} {p : Req → Bool} : Only 0x800 s (State.dropReqs s p) := by
  unfold State.dropReqs
  repeat' first
    | with_reducible exact Only.refl _ _
    | dsimp only [id]
    | split
    | ((with_reducible apply Only.upd ?_ ?h); case h => exact rfl)

theorem State.endReq_only {s : State} {d : DevId} {p : UsbReq → Bool} {ok : Bool} {act : State → Req → State} {m : Nat} (hact : ∀ y0 y1, Only m y0 (act y0 y1)) (hk : 0x800 ||| m = m) :
    Only m s (State.endReq s d p ok act) := by
  unfold State.endReq
  try dsimp only
  repeat' first
    | with_reducible exact Only.refl _ _
    | with_reducible apply Only.trans ?_ (hact _ _)
    | dsimp only [id]
    | split
    | ((with_reducible apply Only.updMono (m := 0x800) ?_ ?h ?k); (case h => exact rfl); case k => exact mask_sub rfl hk)

theorem State.dropDelays_only {s : State} {p : DelayFor → Bool} : Only 0x800 s (State.dropDelays s p) := by
  unfold State.dropDelays
  repeat' first
    | with_reducible exact Only.refl _ _
    | dsimp only [id]
    | split
    | ((with_reducible apply Only.upd ?_ ?h); case h => exact rfl)

theorem State.setDelay_only {s : State} {task due : Nat} {w : DelayFor} : Only 0x800 s (State.setDelay s task due w) := by
  unfold State.setDelay
  try dsimp only
  repeat' first
    | with_reducible exact Only.refl _ _
    | ((with_reducible apply Only.step State.dropDelays_only ?_ ?k); case k => exact rfl)
    | dsimp only [id]
    | split
    | ((with_reducible apply Only.upd ?_ ?h); case h => exact rfl)

theorem State.addItem_only {s : State} {task : Nat} {c : ItemCode} {arg : Nat} : Only 0x800 s (State.addItem s task c arg) := by
  unfold State.addItem
  repeat' first
    | with_reducible exact Only.refl _ _
    | ((with_reducible apply Only.step State.addWork_only ?_ ?k); case k => exact rfl)
    | dsimp only [id]
    | split
    | ((with_reducible apply Only.upd ?_ ?h); case h => exact rfl)

theorem State.wantItem_only {s : State} {task : Nat} {c : ItemCode} {arg : Nat} : Only 0x800 s (State.wantItem s task c arg) := by
  unfold State.wantItem
  repeat' first
    | with_reducible exact Only.refl _ _
    | ((with_reducible apply Only.step State.addItem_only ?_ ?k); case k => exact rfl)
    | dsimp only [id]
    | split
    | ((with_reducible apply Only.upd ?_ ?h); case h => exact rfl)

theorem State.modCore_only {s : State} {c : CoreId} {f : CoreSt → CoreSt} : Only 0x800 s (State.modCore s c f) := by
  unfold State.modCore
  repeat' first
    | with_reducible exact Only.refl _ _
    | dsimp only [id]
    | split
    | ((with_reducible apply Only.upd ?_ ?h); case h => exact rfl)

theorem State.modWorker_only {s : State} {w : WorkerId} {f : Worker → Worker} : Only 0x800 s (State.modWorker s w f) := by
  unfold State.modWorker
  repeat' first
    | with_reducible exact Only.refl _ _
    | dsimp only [id]
    | split
    | ((with_reducible apply Only.upd ?_ ?h); case h => exact rfl)

theorem State.cycle_only {s : State} {act : State → State} {m : Nat} (hact : ∀ y0, Only m y0 (act y0)) (hk : 0x1000 ||| m = m) :
    Only m s (State.cycle s act) := by
  unfold State.cycle
  try dsimp only
  repeat' first
    | with_reducible exact Only.refl _ _
    | with_reducible apply Only.trans ?_ (hact _)
    | dsimp only [id]
    | split
    | ((with_reducible apply Only.updMono (m := 0x1000) ?_ ?h ?k); (case h => exact rfl); case k => exact mask_sub rfl hk)

theorem State.traceRec_only {s : State} {kind task pl unit : Nat} {core : Bool} {node detail : Nat} :
    Only 0x1000 s (State.traceRec s kind task pl unit core node detail) := by
  unfold State.traceRec
  try dsimp only
  repeat' first
    | with_reducible exact Only.refl _ _
    | dsimp only [id]
    | split
    | ((with_reducible apply Only.upd ?_ ?h); case h => exact rfl)

theorem State.endItem_only {s : State} {c : CoreId} {code : ItemCode} {failed : Bool} : Only 0x1800 s (State.endItem s c code failed) := by
  unfold State.endItem
  try dsimp only
  repeat' first
    | with_reducible exact Only.refl _ _
    | ((with_reducible apply Only.step State.modCore_only ?_ ?k); case k => exact rfl)
    | ((with_reducible apply Only.step State.traceRec_only ?_ ?k); case k => exact rfl)
    | dsimp only [id]
    | split
    | ((with_reducible apply Only.upd ?_ ?h); case h => exact rfl)

theorem State.logEvent_only {s : State} {code : Nat} {tenant : Option TenantId} {device : Option Nat} {data : BitVec 256} :
    Only 0x140000800 s (State.logEvent s code tenant device data) := by
  unfold State.logEvent
  try dsimp only
  repeat' first
    | with_reducible exact Only.refl _ _
    | ((with_reducible apply Only.step State.wantItem_only ?_ ?k); case k => exact rfl)
    | dsimp only [id]
    | split
    | ((with_reducible apply Only.upd ?_ ?h); case h => exact rfl)

theorem State.faultRecord_only {s : State} {cls : Fin 9} {unit : Nat} {owner : Option TenantId} {outcome wher ns : Nat} :
    Only 0x1C0000800 s (State.faultRecord s cls unit owner outcome wher ns) := by
  unfold State.faultRecord
  try dsimp only
  repeat' first
    | with_reducible exact Only.refl _ _
    | ((with_reducible apply Only.step State.logEvent_only ?_ ?k); case k => exact rfl)
    | dsimp only [id]
    | split
    | ((with_reducible apply Only.upd ?_ ?h); case h => exact rfl)

theorem State.modFlow_only {s : State} {t : TenantId} {h : Fin 1024} {g : Flow → Flow} : Only 0x20000 s (State.modFlow s t h g) := by
  unfold State.modFlow
  repeat' first
    | with_reducible exact Only.refl _ _
    | dsimp only [id]
    | split
    | ((with_reducible apply Only.upd ?_ ?h); case h => exact rfl)

theorem State.modDev_only {s : State} {d : DevId} {g : Dev → Dev} : Only 0x40000 s (State.modDev s d g) := by
  unfold State.modDev
  repeat' first
    | with_reducible exact Only.refl _ _
    | dsimp only [id]
    | split
    | ((with_reducible apply Only.upd ?_ ?h); case h => exact rfl)

theorem State.modPort_only {s : State} {p : PortId} {g : Port → Port} : Only 0x80000 s (State.modPort s p g) := by
  unfold State.modPort
  repeat' first
    | with_reducible exact Only.refl _ _
    | dsimp only [id]
    | split
    | ((with_reducible apply Only.upd ?_ ?h); case h => exact rfl)

theorem State.dropFetches_only {s : State} {f : Fn} : Only 0x800 s (State.dropFetches s f) := by
  unfold State.dropFetches
  repeat' first
    | with_reducible exact Only.refl _ _
    | dsimp only [id]
    | split
    | ((with_reducible apply Only.upd ?_ ?h); case h => exact rfl)

theorem State.modIsland_only {s : State} {i : Island} {g : IslandSt → IslandSt} : Only 0x20000000 s (State.modIsland s i g) := by
  unfold State.modIsland
  repeat' first
    | with_reducible exact Only.refl _ _
    | dsimp only [id]
    | split
    | ((with_reducible apply Only.upd ?_ ?h); case h => exact rfl)

theorem State.moveIsland_only {s : State} {i : Island} {st : IslandState} : Only 0x20000000 s (State.moveIsland s i st) := by
  unfold State.moveIsland
  try dsimp only
  repeat' first
    | with_reducible exact Only.refl _ _
    | dsimp only [id]
    | split
    | ((with_reducible apply Only.upd ?_ ?h); case h => exact rfl)

theorem State.startExit_only {s : State} {first : Nat} : Only 0x20000000 s (State.startExit s first) := by
  unfold State.startExit
  try dsimp only
  repeat' first
    | with_reducible exact Only.refl _ _
    | ((with_reducible apply Only.step State.moveIsland_only ?_ ?k); case k => exact rfl)
    | with_reducible apply Only.foldl ?_ (fun _ _ => ?_)
    | dsimp only [id]
    | split
    | ((with_reducible apply Only.upd ?_ ?h); case h => exact rfl)

theorem State.linkWake_only {s : State} : Only 0x20000000 s (State.linkWake s) := by
  unfold State.linkWake
  try dsimp only
  repeat' first
    | with_reducible exact Only.refl _ _
    | ((with_reducible apply Only.step State.startExit_only ?_ ?k); case k => exact rfl)
    | dsimp only [id]
    | split
    | ((with_reducible apply Only.upd ?_ ?h); case h => exact rfl)

theorem State.rouse_only {s : State} {i : Island} : Only 0x20001000 s (State.rouse s i) := by
  unfold State.rouse
  try dsimp only
  repeat' first
    | with_reducible exact Only.refl _ _
    | ((with_reducible apply Only.step State.linkWake_only ?_ ?k); case k => exact rfl)
    | ((with_reducible apply Only.step State.startExit_only ?_ ?k); case k => exact rfl)
    | ((with_reducible apply Only.step State.moveIsland_only ?_ ?k); case k => exact rfl)
    | ((with_reducible apply Only.step State.traceRec_only ?_ ?k); case k => exact rfl)
    | dsimp only [id]
    | split
    | ((with_reducible apply Only.upd ?_ ?h); case h => exact rfl)

theorem State.hold_only {s : State} {i : Island} {h : Held} : Only 0x20001000 s (State.hold s i h) := by
  unfold State.hold
  repeat' first
    | with_reducible exact Only.refl _ _
    | ((with_reducible apply Only.step State.rouse_only ?_ ?k); case k => exact rfl)
    | ((with_reducible apply Only.step State.modIsland_only ?_ ?k); case k => exact rfl)
    | dsimp only [id]
    | split
    | ((with_reducible apply Only.upd ?_ ?h); case h => exact rfl)

theorem State.front_only {s : State} {way : List Island} {q : CulvertReq} {go : State} {z : State} {m : Nat} (a :
    Only m z s) (bgo :
    Only m z go) (hk : 0x1020001000 ||| m = m) :
    Only m z (State.front s way q go) := by
  unfold State.front
  try dsimp only
  repeat' first
    | with_reducible exact Only.refl _ _
    | with_reducible assumption
    | ((with_reducible apply Only.step State.hold_only ?_ ?k); case k => exact mask_sub rfl hk)
    | dsimp only [id]
    | split
    | ((with_reducible apply Only.updMono (m := 0x1020001000) ?_ ?h ?k); (case h => exact rfl); case k => exact mask_sub rfl hk)

theorem State.passOp_only {s : State} {u : UnitId} {i : Island} {way : List Island} {go : State} {z : State} {m : Nat} (a :
    Only m z s) (bgo :
    Only m z go) (hk : 0x20001000 ||| m = m) :
    Only m z (State.passOp s u i way go) := by
  unfold State.passOp
  try dsimp only
  repeat' first
    | with_reducible exact Only.refl _ _
    | with_reducible assumption
    | ((with_reducible apply Only.step State.hold_only ?_ ?k); case k => exact mask_sub rfl hk)
    | dsimp only [id]
    | split
    | ((with_reducible apply Only.updMono (m := 0x20001000) ?_ ?h ?k); (case h => exact rfl); case k => exact mask_sub rfl hk)

theorem State.holdPads_only {s : State} : Only 0x20000002 s (State.holdPads s) := by
  unfold State.holdPads
  repeat' first
    | with_reducible exact Only.refl _ _
    | dsimp only [id]
    | split
    | ((with_reducible apply Only.upd ?_ ?h); case h => exact rfl)

theorem State.rejoin_only {s : State} {t : TenantId} {h : Fin 1024} : Only 0x30000 s (State.rejoin s t h) := by
  unfold State.rejoin
  try dsimp only
  repeat' first
    | with_reducible exact Only.refl _ _
    | ((with_reducible apply Only.step State.modTenant_only ?_ ?k); case k => exact rfl)
    | ((with_reducible apply Only.step State.modFlow_only ?_ ?k); case k => exact rfl)
    | dsimp only [id]
    | split
    | ((with_reducible apply Only.upd ?_ ?h); case h => exact rfl)

theorem State.setFence_only {s : State} {t : TenantId} {h : Fin 1024} {bad : Bool} : Only 0x30000 s (State.setFence s t h bad) := by
  unfold State.setFence
  repeat' first
    | with_reducible exact Only.refl _ _
    | ((with_reducible apply Only.step State.modTenant_only ?_ ?k); case k => exact rfl)
    | ((with_reducible apply Only.step State.modFlow_only ?_ ?k); case k => exact rfl)
    | dsimp only [id]
    | split
    | ((with_reducible apply Only.upd ?_ ?h); case h => exact rfl)

theorem State.releaseFlow_only {s : State} {f : Flow} {d : Done} : Only 0x31100 s (State.releaseFlow s f d) := by
  unfold State.releaseFlow
  try dsimp only
  repeat' first
    | with_reducible exact Only.refl _ _
    | ((with_reducible apply Only.step State.setFence_only ?_ ?k); case k => exact rfl)
    | ((with_reducible apply Only.step State.complete_only ?_ ?k); case k => exact rfl)
    | ((with_reducible apply Only.step State.modFlow_only ?_ ?k); case k => exact rfl)
    | ((with_reducible apply Only.step State.traceRec_only ?_ ?k); case k => exact rfl)
    | dsimp only [id]
    | split
    | ((with_reducible apply Only.upd ?_ ?h); case h => exact rfl)

theorem State.modOrder_only {s : State} {f : Fn} {k : Nat} {g : Order → Order} : Only 0x10100 s (State.modOrder s f k g) := by
  unfold State.modOrder
  repeat' first
    | with_reducible exact Only.refl _ _
    | ((with_reducible apply Only.step State.modRings_only ?_ ?k); case k => exact rfl)
    | dsimp only [id]
    | split
    | ((with_reducible apply Only.upd ?_ ?h); case h => exact rfl)

theorem State.endOrderEv_only {s : State} {f : Fn} {k : Nat} {ev : Order → Ev} : Only 0x10100 s (State.endOrderEv s f k ev) := by
  unfold State.endOrderEv
  repeat' first
    | with_reducible exact Only.refl _ _
    | ((with_reducible apply Only.step State.modRings_only ?_ ?k); case k => exact rfl)
    | ((with_reducible apply Only.step State.modOrder_only ?_ ?k); case k => exact rfl)
    | dsimp only [id]
    | split
    | ((with_reducible apply Only.upd ?_ ?h); case h => exact rfl)

theorem State.endOrder_only {s : State} {f : Fn} {k : Nat} {st : Status} {target bytes detail : Nat} :
    Only 0x10100 s (State.endOrder s f k st target bytes detail) := by
  unfold State.endOrder
  repeat' first
    | with_reducible exact Only.refl _ _
    | ((with_reducible apply Only.step State.endOrderEv_only ?_ ?k); case k => exact rfl)
    | dsimp only [id]
    | split
    | ((with_reducible apply Only.upd ?_ ?h); case h => exact rfl)

theorem State.endWhere_only {s : State} {f : Fn} {p : Order → Bool} {ev : Order → Ev} : Only 0x10100 s (State.endWhere s f p ev) := by
  unfold State.endWhere
  repeat' first
    | with_reducible exact Only.refl _ _
    | ((with_reducible apply Only.step State.modRings_only ?_ ?k); case k => exact rfl)
    | dsimp only [id]
    | split
    | ((with_reducible apply Only.upd ?_ ?h); case h => exact rfl)

theorem State.waitOrder_only {s : State} {f : Fn} {k : Nat} : Only 0x10100 s (State.waitOrder s f k) := by
  unfold State.waitOrder
  repeat' first
    | with_reducible exact Only.refl _ _
    | ((with_reducible apply Only.step State.modOrder_only ?_ ?k); case k => exact rfl)
    | dsimp only [id]
    | split
    | ((with_reducible apply Only.upd ?_ ?h); case h => exact rfl)

theorem State.withOrder_only {s : State} {f : Fn} {k code : Nat} {act : Order → State} {z : State} {m : Nat} (a :
    Only m z s) (hact : ∀ y0, Only m z (act y0)) (hk : 0x0 ||| m = m) :
    Only m z (State.withOrder s f k code act) := by
  unfold State.withOrder
  try dsimp only
  repeat' first
    | with_reducible exact Only.refl _ _
    | with_reducible exact hact _
    | with_reducible assumption
    | dsimp only [id]
    | split
    | ((with_reducible apply Only.updMono (m := 0x0) ?_ ?h ?k); (case h => exact rfl); case k => exact mask_sub rfl hk)

theorem State.vpEvent_only {s : State} {d : DevId} {c : BitVec 8} : Only 0x10100 s (State.vpEvent s d c) := by
  unfold State.vpEvent
  repeat' first
    | with_reducible exact Only.refl _ _
    | ((with_reducible apply Only.step State.modTenant_only ?_ ?k); case k => exact rfl)
    | ((with_reducible apply Only.step State.notice_only ?_ ?k); case k => exact rfl)
    | dsimp only [id]
    | split
    | ((with_reducible apply Only.upd ?_ ?h); case h => exact rfl)

theorem State.vpEmpty_only {s : State} {t : TenantId} {vp : Nat} {c : BitVec 8} : Only 0x10100 s (State.vpEmpty s t vp c) := by
  unfold State.vpEmpty
  repeat' first
    | with_reducible exact Only.refl _ _
    | ((with_reducible apply Only.step State.modTenant_only ?_ ?k); case k => exact rfl)
    | ((with_reducible apply Only.step State.notice_only ?_ ?k); case k => exact rfl)
    | dsimp only [id]
    | split
    | ((with_reducible apply Only.upd ?_ ?h); case h => exact rfl)

theorem State.modHs_only {s : State} {t : TenantId} {h : Fin 1024} {g : Handshake → Handshake} :
    Only 0x2000000 s (State.modHs s t h g) := by
  unfold State.modHs
  repeat' first
    | with_reducible exact Only.refl _ _
    | dsimp only [id]
    | split
    | ((with_reducible apply Only.upd ?_ ?h); case h => exact rfl)

theorem State.hsRequest_only {s : State} {x : Handshake} {f : Flow} {k : SealReq} {bytes : List Byte} :
    Only 0x800 s (State.hsRequest s x f k bytes) := by
  unfold State.hsRequest
  repeat' first
    | with_reducible exact Only.refl _ _
    | ((with_reducible apply Only.step State.requestAs_only ?_ ?k); case k => exact rfl)
    | dsimp only [id]
    | split
    | ((with_reducible apply Only.upd ?_ ?h); case h => exact rfl)

theorem State.takePipe_only {s : State} {x : Handshake} : Only 0x2000800 s (State.takePipe s x) := by
  unfold State.takePipe
  repeat' first
    | with_reducible exact Only.refl _ _
    | ((with_reducible apply Only.step State.hsRequest_only ?_ ?k); case k => exact rfl)
    | ((with_reducible apply Only.step State.modHs_only ?_ ?k); case k => exact rfl)
    | dsimp only [id]
    | split
    | ((with_reducible apply Only.upd ?_ ?h); case h => exact rfl)

theorem State.takePipes_only {s : State} : Only 0x2000800 s (State.takePipes s) := by
  unfold State.takePipes
  repeat' first
    | with_reducible exact Only.refl _ _
    | ((with_reducible apply Only.step State.takePipe_only ?_ ?k); case k => exact rfl)
    | with_reducible apply Only.foldl ?_ (fun _ _ => ?_)
    | dsimp only [id]
    | split
    | ((with_reducible apply Only.upd ?_ ?h); case h => exact rfl)

theorem State.dropHs_only {s : State} {t : TenantId} {h : Fin 1024} : Only 0x2000800 s (State.dropHs s t h) := by
  unfold State.dropHs
  try dsimp only
  repeat' first
    | with_reducible exact Only.refl _ _
    | ((with_reducible apply Only.step State.dropReqs_only ?_ ?k); case k => exact rfl)
    | dsimp only [id]
    | split
    | ((with_reducible apply Only.upd ?_ ?h); case h => exact rfl)

theorem State.dropTenantHs_only {s : State} {t : TenantId} : Only 0x2000800 s (State.dropTenantHs s t) := by
  unfold State.dropTenantHs
  repeat' first
    | with_reducible exact Only.refl _ _
    | ((with_reducible apply Only.step State.takePipes_only ?_ ?k); case k => exact rfl)
    | ((with_reducible apply Only.step State.dropHs_only ?_ ?k); case k => exact rfl)
    | with_reducible apply Only.foldl ?_ (fun _ _ => ?_)
    | dsimp only [id]
    | split
    | ((with_reducible apply Only.upd ?_ ?h); case h => exact rfl)

theorem State.tearDown_only {s : State} {t : TenantId} {h : Fin 1024} {cause : BitVec 32} {send notify : Bool} :
    Only 0x142030900 s (State.tearDown s t h cause send notify) := by
  unfold State.tearDown
  try dsimp only
  repeat' first
    | with_reducible exact Only.refl _ _
    | ((with_reducible apply Only.step State.takePipes_only ?_ ?k); case k => exact rfl)
    | ((with_reducible apply Only.step State.dropDelays_only ?_ ?k); case k => exact rfl)
    | ((with_reducible apply Only.step State.request_only ?_ ?k); case k => exact rfl)
    | ((with_reducible apply Only.step State.modFlow_only ?_ ?k); case k => exact rfl)
    | ((with_reducible apply Only.step State.dropHs_only ?_ ?k); case k => exact rfl)
    | ((with_reducible apply Only.step State.dropReqs_only ?_ ?k); case k => exact rfl)
    | ((with_reducible apply Only.step State.logEvent_only ?_ ?k); case k => exact rfl)
    | ((with_reducible apply Only.step State.notice_only ?_ ?k); case k => exact rfl)
    | dsimp only [id]
    | split
    | ((with_reducible apply Only.upd ?_ ?h); case h => exact rfl)

theorem State.tearDownAll_only {s : State} {p : Flow → Bool} {cause : BitVec 32} {send notify : Bool} :
    Only 0x142030900 s (State.tearDownAll s p cause send notify) := by
  unfold State.tearDownAll
  repeat' first
    | with_reducible exact Only.refl _ _
    | ((with_reducible apply Only.step State.tearDown_only ?_ ?k); case k => exact rfl)
    | with_reducible apply Only.foldl ?_ (fun _ _ => ?_)
    | dsimp only [id]
    | split
    | ((with_reducible apply Only.upd ?_ ?h); case h => exact rfl)

theorem State.freeTts_only {s : State} : Only 0x1000000 s (State.freeTts s) := by
  unfold State.freeTts
  repeat' first
    | with_reducible exact Only.refl _ _
    | dsimp only [id]
    | split
    | ((with_reducible apply Only.upd ?_ ?h); case h => exact rfl)

theorem State.driveReset_only {s : State} {d : DevId} : Only 0x2000040800 s (State.driveReset s d) := by
  unfold State.driveReset
  try dsimp only [State.drawBool, State.drawRandom]
  repeat' first
    | with_reducible exact Only.refl _ _
    | ((with_reducible apply Only.step State.modDev_only ?_ ?k); case k => exact rfl)
    | ((with_reducible apply Only.step State.request_only ?_ ?k); case k => exact rfl)
    | dsimp only [id]
    | split
    | ((with_reducible apply Only.upd ?_ ?h); case h => exact rfl)

theorem State.passDefault_only {s : State} {p : PortId} : Only 0x20000C0800 s (State.passDefault s p) := by
  unfold State.passDefault
  try dsimp only
  repeat' first
    | with_reducible exact Only.refl _ _
    | ((with_reducible apply Only.step State.modPort_only ?_ ?k); case k => exact rfl)
    | ((with_reducible apply Only.step State.driveReset_only ?_ ?k); case k => exact rfl)
    | dsimp only [id]
    | split
    | ((with_reducible apply Only.upd ?_ ?h); case h => exact rfl)

theorem State.askDefault_only {s : State} {d : DevId} : Only 0x20000C0800 s (State.askDefault s d) := by
  unfold State.askDefault
  try dsimp only
  repeat' first
    | with_reducible exact Only.refl _ _
    | ((with_reducible apply Only.step State.modPort_only ?_ ?k); case k => exact rfl)
    | ((with_reducible apply Only.step State.modDev_only ?_ ?k); case k => exact rfl)
    | ((with_reducible apply Only.step State.driveReset_only ?_ ?k); case k => exact rfl)
    | dsimp only [id]
    | split
    | ((with_reducible apply Only.upd ?_ ?h); case h => exact rfl)

theorem State.dropDefault_only {s : State} {d : DevId} : Only 0x20000C0800 s (State.dropDefault s d) := by
  unfold State.dropDefault
  try dsimp only
  repeat' first
    | with_reducible exact Only.refl _ _
    | ((with_reducible apply Only.step State.modPort_only ?_ ?k); case k => exact rfl)
    | ((with_reducible apply Only.step State.passDefault_only ?_ ?k); case k => exact rfl)
    | dsimp only [id]
    | split
    | ((with_reducible apply Only.upd ?_ ?h); case h => exact rfl)

theorem State.detachHandles_only {s : State} {t : TenantId} {vp : Nat} : Only 0x20000 s (State.detachHandles s t vp) := by
  unfold State.detachHandles
  repeat' first
    | with_reducible exact Only.refl _ _
    | dsimp only [id]
    | split
    | ((with_reducible apply Only.upd ?_ ?h); case h => exact rfl)

theorem State.dropHandshakes_only {s : State} {d : DevId} : Only 0x42010900 s (State.dropHandshakes s d) := by
  unfold State.dropHandshakes
  try dsimp only
  repeat' first
    | with_reducible exact Only.refl _ _
    | ((with_reducible apply Only.step State.modRings_only ?_ ?k); case k => exact rfl)
    | ((with_reducible apply Only.step State.dropReqs_only ?_ ?k); case k => exact rfl)
    | dsimp only [id]
    | split
    | ((with_reducible apply Only.upd ?_ ?h); case h => exact rfl)

theorem State.endVpOrders_only {s : State} {t : TenantId} {vp : Nat} {st : Status} : Only 0x10100 s (State.endVpOrders s t vp st) := by
  unfold State.endVpOrders
  repeat' first
    | with_reducible exact Only.refl _ _
    | ((with_reducible apply Only.step State.modRings_only ?_ ?k); case k => exact rfl)
    | dsimp only [id]
    | split
    | ((with_reducible apply Only.upd ?_ ?h); case h => exact rfl)

theorem State.endGrant_only {s : State} {d : DevId} {c : BitVec 8} {gone : Bool} : Only 0x142070900 s (State.endGrant s d c gone) := by
  unfold State.endGrant
  try dsimp only
  repeat' first
    | with_reducible exact Only.refl _ _
    | ((with_reducible apply Only.step State.vpEmpty_only ?_ ?k); case k => exact rfl)
    | ((with_reducible apply Only.step State.detachHandles_only ?_ ?k); case k => exact rfl)
    | ((with_reducible apply Only.step State.modDev_only ?_ ?k); case k => exact rfl)
    | ((with_reducible apply Only.step State.endVpOrders_only ?_ ?k); case k => exact rfl)
    | ((with_reducible apply Only.step State.dropHandshakes_only ?_ ?k); case k => exact rfl)
    | ((with_reducible apply Only.step State.tearDownAll_only ?_ ?k); case k => exact rfl)
    | dsimp only [id]
    | split
    | ((with_reducible apply Only.upd ?_ ?h); case h => exact rfl)

theorem State.endWaiting_only {s : State} {t : TenantId} {codes : List Nat} {st : Status} :
    Only 0x10100 s (State.endWaiting s t codes st) := by
  unfold State.endWaiting
  repeat' first
    | with_reducible exact Only.refl _ _
    | ((with_reducible apply Only.step State.endWhere_only ?_ ?k); case k => exact rfl)
    | dsimp only [id]
    | split
    | ((with_reducible apply Only.upd ?_ ?h); case h => exact rfl)

theorem State.resetOver_only {s : State} {z0 : ResetFor} : Only 0x10100 s (State.resetOver s z0) := by
  unfold State.resetOver
  try dsimp only
  repeat' first
    | with_reducible exact Only.refl _ _
    | ((with_reducible apply Only.step State.modTenant_only ?_ ?k); case k => exact rfl)
    | ((with_reducible apply Only.step State.endWhere_only ?_ ?k); case k => exact rfl)
    | ((with_reducible apply Only.step State.endOrder_only ?_ ?k); case k => exact rfl)
    | dsimp only [id]
    | split
    | ((with_reducible apply Only.upd ?_ ?h); case h => exact rfl)

theorem State.removeDev_only {s : State} {d : DevId} {oc : Bool} : Only 0x21430F0900 s (State.removeDev s d oc) := by
  unfold State.removeDev
  try dsimp only
  repeat' first
    | with_reducible exact Only.refl _ _
    | ((with_reducible apply Only.step State.mgrPortNotice_only ?_ ?k); case k => exact rfl)
    | ((with_reducible apply Only.step State.dropDefault_only ?_ ?k); case k => exact rfl)
    | ((with_reducible apply Only.step State.dropDelays_only ?_ ?k); case k => exact rfl)
    | ((with_reducible apply Only.step State.resetOver_only ?_ ?k); case k => exact rfl)
    | ((with_reducible apply Only.step State.freeTts_only ?_ ?k); case k => exact rfl)
    | ((with_reducible apply Only.step State.endGrant_only ?_ ?k); case k => exact rfl)
    | ((with_reducible apply Only.step State.dropReqs_only ?_ ?k); case k => exact rfl)
    | dsimp only [id]
    | split
    | ((with_reducible apply Only.upd ?_ ?h); case h => exact rfl)

theorem State.detach_only {s : State} {d : DevId} {oc : Bool} : Only 0x21430F0900 s (State.detach s d oc) := by
  unfold State.detach
  try dsimp only
  repeat' first
    | with_reducible exact Only.refl _ _
    | ((with_reducible apply Only.step State.removeDev_only ?_ ?k); case k => exact rfl)
    | with_reducible apply Only.foldl ?_ (fun _ _ => ?_)
    | dsimp only [id]
    | split
    | ((with_reducible apply Only.upd ?_ ?h); case h => exact rfl)

theorem State.setTimeouts_only {s : State} {d : DevId} {u1 u2 : Nat} : Only 0x40800 s (State.setTimeouts s d u1 u2) := by
  unfold State.setTimeouts
  try dsimp only
  repeat' first
    | with_reducible exact Only.refl _ _
    | ((with_reducible apply Only.step State.modDev_only ?_ ?k); case k => exact rfl)
    | ((with_reducible apply Only.step State.request_only ?_ ?k); case k => exact rfl)
    | dsimp only [id]
    | split
    | ((with_reducible apply Only.upd ?_ ?h); case h => exact rfl)

theorem State.syncU2_only {s : State} {d : DevId} : Only 0x40800 s (State.syncU2 s d) := by
  unfold State.syncU2
  repeat' first
    | with_reducible exact Only.refl _ _
    | ((with_reducible apply Only.step State.setTimeouts_only ?_ ?k); case k => exact rfl)
    | dsimp only [id]
    | split
    | ((with_reducible apply Only.upd ?_ ?h); case h => exact rfl)

theorem State.beginReset_only {s : State} {d : DevId} {why : ResetFor} : Only 0x20000D0900 s (State.beginReset s d why) := by
  unfold State.beginReset
  try dsimp only
  repeat' first
    | with_reducible exact Only.refl _ _
    | ((with_reducible apply Only.step State.askDefault_only ?_ ?k); case k => exact rfl)
    | ((with_reducible apply Only.step State.modDev_only ?_ ?k); case k => exact rfl)
    | ((with_reducible apply Only.step State.dropReqs_only ?_ ?k); case k => exact rfl)
    | ((with_reducible apply Only.step State.vpEvent_only ?_ ?k); case k => exact rfl)
    | dsimp only [id]
    | split
    | ((with_reducible apply Only.upd ?_ ?h); case h => exact rfl)

theorem State.kickResumes_only {s : State} : Only 0x40800 s (State.kickResumes s) := by
  unfold State.kickResumes
  repeat' first
    | with_reducible exact Only.refl _ _
    | ((with_reducible apply Only.step State.modDev_only ?_ ?k); case k => exact rfl)
    | ((with_reducible apply Only.step State.request_only ?_ ?k); case k => exact rfl)
    | with_reducible apply Only.foldl ?_ (fun _ _ => ?_)
    | dsimp only [id]
    | split
    | ((with_reducible apply Only.upd ?_ ?h); case h => exact rfl)

theorem State.beginResume_only {s : State} {d : DevId} {k : Option Nat} : Only 0x40800 s (State.beginResume s d k) := by
  unfold State.beginResume
  try dsimp only
  repeat' first
    | with_reducible exact Only.refl _ _
    | ((with_reducible apply Only.step State.kickResumes_only ?_ ?k); case k => exact rfl)
    | ((with_reducible apply Only.step State.modDev_only ?_ ?k); case k => exact rfl)
    | dsimp only [id]
    | split
    | ((with_reducible apply Only.upd ?_ ?h); case h => exact rfl)

theorem State.enterSuspend_only {s : State} {d : DevId} {t : TenantId} {k : Nat} : Only 0x50900 s (State.enterSuspend s d t k) := by
  unfold State.enterSuspend
  try dsimp only
  repeat' first
    | with_reducible exact Only.refl _ _
    | ((with_reducible apply Only.step State.modDev_only ?_ ?k); case k => exact rfl)
    | ((with_reducible apply Only.step State.request_only ?_ ?k); case k => exact rfl)
    | ((with_reducible apply Only.step State.beginResume_only ?_ ?k); case k => exact rfl)
    | ((with_reducible apply Only.step State.endOrder_only ?_ ?k); case k => exact rfl)
    | ((with_reducible apply Only.step State.vpEvent_only ?_ ?k); case k => exact rfl)
    | dsimp only [id]
    | split
    | ((with_reducible apply Only.upd ?_ ?h); case h => exact rfl)

theorem State.suspendDue_only {s : State} {d : DevId} : Only 0x50900 s (State.suspendDue s d) := by
  unfold State.suspendDue
  repeat' first
    | with_reducible exact Only.refl _ _
    | ((with_reducible apply Only.step State.enterSuspend_only ?_ ?k); case k => exact rfl)
    | dsimp only [id]
    | split
    | ((with_reducible apply Only.upd ?_ ?h); case h => exact rfl)

theorem State.detachPort_only {s : State} {p : PortId} {q : Dev → Bool} {oc : Bool} : Only 0x21430F0900 s (State.detachPort s p q oc) := by
  unfold State.detachPort
  try dsimp only
  repeat' first
    | with_reducible exact Only.refl _ _
    | ((with_reducible apply Only.step State.removeDev_only ?_ ?k); case k => exact rfl)
    | with_reducible apply Only.foldl ?_ (fun _ _ => ?_)
    | dsimp only [id]
    | split
    | ((with_reducible apply Only.upd ?_ ?h); case h => exact rfl)

theorem State.setOc_only {s : State} {p : PortId} {o : OcSt} : Only 0x280000 s (State.setOc s p o) := by
  unfold State.setOc
  repeat' first
    | with_reducible exact Only.refl _ _
    | ((with_reducible apply Only.step State.modPort_only ?_ ?k); case k => exact rfl)
    | dsimp only [id]
    | split
    | ((with_reducible apply Only.upd ?_ ?h); case h => exact rfl)

theorem State.present_only {s : State} {d : DevId} {t : TenantId} {vp : Nat} : Only 0x50100 s (State.present s d t vp) := by
  unfold State.present
  try dsimp only
  repeat' first
    | with_reducible exact Only.refl _ _
    | ((with_reducible apply Only.step State.mgrPortNotice_only ?_ ?k); case k => exact rfl)
    | ((with_reducible apply Only.step State.modDev_only ?_ ?k); case k => exact rfl)
    | ((with_reducible apply Only.step State.vpEvent_only ?_ ?k); case k => exact rfl)
    | dsimp only [id]
    | split
    | ((with_reducible apply Only.upd ?_ ?h); case h => exact rfl)

theorem State.setPower_only {s : State} {p : PortId} {on : Bool} : Only 0x21430F0902 s (State.setPower s p on) := by
  unfold State.setPower
  try dsimp only
  repeat' first
    | with_reducible exact Only.refl _ _
    | ((with_reducible apply Only.step State.modPort_only ?_ ?k); case k => exact rfl)
    | ((with_reducible apply Only.step State.setDelay_only ?_ ?k); case k => exact rfl)
    | ((with_reducible apply Only.step State.dropDelays_only ?_ ?k); case k => exact rfl)
    | ((with_reducible apply Only.step State.detachPort_only ?_ ?k); case k => exact rfl)
    | dsimp only [id]
    | split
    | ((with_reducible apply Only.upd ?_ ?h); case h => exact rfl)

theorem State.drivePower_only {s : State} {p : PortId} {on : Bool} : Only 0x21630F0902 s (State.drivePower s p on) := by
  unfold State.drivePower
  repeat' first
    | with_reducible exact Only.refl _ _
    | ((with_reducible apply Only.step State.mgrPortNotice_only ?_ ?k); case k => exact rfl)
    | ((with_reducible apply Only.step State.setPower_only ?_ ?k); case k => exact rfl)
    | dsimp only [id]
    | split
    | ((with_reducible apply Only.upd ?_ ?h); case h => exact rfl)

theorem State.cutPower_only {s : State} {p : PortId} : Only 0x21630F0902 s (State.cutPower s p) := by
  unfold State.cutPower
  try dsimp only
  repeat' first
    | with_reducible exact Only.refl _ _
    | ((with_reducible apply Only.step State.detachPort_only ?_ ?k); case k => exact rfl)
    | ((with_reducible apply Only.step State.setPower_only ?_ ?k); case k => exact rfl)
    | dsimp only [id]
    | split
    | ((with_reducible apply Only.upd ?_ ?h); case h => exact rfl)

theorem State.dropLatch_only {s : State} {f : Fn} : Only 0x10010 s (State.dropLatch s f) := by
  unfold State.dropLatch
  repeat' first
    | with_reducible exact Only.refl _ _
    | ((with_reducible apply Only.step State.modFn_only ?_ ?k); case k => exact rfl)
    | dsimp only [id]
    | split
    | ((with_reducible apply Only.upd ?_ ?h); case h => exact rfl)

theorem State.regAccept_only {s : State} {f : Fn} {k : RegKind} {rsv cur : Word} {a : WrAcc} {v : Word} {eff : Word → State → State} {m : Nat} (heff : ∀ y0 y1, Only m y1 (eff y0 y1)) (hk : 0x1000010050 ||| m = m) :
    Only m s (State.regAccept s f k rsv cur a v eff) := by
  unfold State.regAccept
  try dsimp only
  repeat' first
    | with_reducible exact Only.refl _ _
    | with_reducible apply Only.trans ?_ (heff _ _)
    | ((with_reducible apply Only.step State.answer_only ?_ ?k); case k => exact mask_sub rfl hk)
    | ((with_reducible apply Only.step State.dropLatch_only ?_ ?k); case k => exact mask_sub rfl hk)
    | ((with_reducible apply Only.step State.accessErr_only ?_ ?k); case k => exact mask_sub rfl hk)
    | dsimp only [id]
    | split
    | ((with_reducible apply Only.updMono (m := 0x1000010050) ?_ ?h ?k); (case h => exact rfl); case k => exact mask_sub rfl hk)

theorem State.regWrite_only {s : State} {f : Fn} {off : Nat} {k : RegKind} {rsv cur : Word} {a : WrAcc} {v : Word} {eff : Word → State → State} {m : Nat} (heff : ∀ y0 y1, Only m y1 (eff y0 y1)) (hk : 0x1020011050 ||| m = m) :
    Only m s (State.regWrite s f off k rsv cur a v eff) := by
  unfold State.regWrite
  try dsimp only
  repeat' first
    | with_reducible exact Only.refl _ _
    | with_reducible apply Only.trans ?_ (heff _ _)
    | ((with_reducible apply State.front_only ?_ ?_ ?k); case k => exact mask_sub rfl hk)
    | ((with_reducible apply Only.trans ?_ (State.regAccept_only (fun _ _ => ?_) ?k)); case k => exact mask_sub rfl hk)
    | dsimp only [id]
    | split
    | ((with_reducible apply Only.updMono (m := 0x1020011050) ?_ ?h ?k); (case h => exact rfl); case k => exact mask_sub rfl hk)

theorem State.regTake_only {s : State} {f : Fn} {off : Nat} {h : RdHalf} {v : Word} {lo hi : State → State} {m : Nat} (hlo : ∀ y0, Only m y0 (lo y0)) (hhi : ∀ y0, Only m y0 (hi y0)) (hk : 0x1000010010 ||| m = m) :
    Only m s (State.regTake s f off h v lo hi) := by
  unfold State.regTake
  try dsimp only
  repeat' first
    | with_reducible exact Only.refl _ _
    | with_reducible apply Only.trans ?_ (hlo _)
    | with_reducible apply Only.trans ?_ (hhi _)
    | ((with_reducible apply Only.step State.answer_only ?_ ?k); case k => exact mask_sub rfl hk)
    | ((with_reducible apply Only.step State.dropLatch_only ?_ ?k); case k => exact mask_sub rfl hk)
    | dsimp only [id]
    | split
    | ((with_reducible apply Only.updMono (m := 0x1000010010) ?_ ?h ?k); (case h => exact rfl); case k => exact mask_sub rfl hk)

theorem State.regRead_only {s : State} {f : Fn} {off : Nat} {h : RdHalf} {v : Word} {lo hi : State → State} {m : Nat} (hlo : ∀ y0, Only m y0 (lo y0)) (hhi : ∀ y0, Only m y0 (hi y0)) (hk : 0x1020011010 ||| m = m) :
    Only m s (State.regRead s f off h v lo hi) := by
  unfold State.regRead
  try dsimp only
  repeat' first
    | with_reducible exact Only.refl _ _
    | with_reducible apply Only.trans ?_ (hlo _)
    | with_reducible apply Only.trans ?_ (hhi _)
    | ((with_reducible apply Only.trans ?_ (State.regTake_only (fun _ => ?_) (fun _ => ?_) ?k)); case k => exact mask_sub rfl hk)
    | ((with_reducible apply State.front_only ?_ ?_ ?k); case k => exact mask_sub rfl hk)
    | dsimp only [id]
    | split
    | ((with_reducible apply Only.updMono (m := 0x1020011010) ?_ ?h ?k); (case h => exact rfl); case k => exact mask_sub rfl hk)

/-- The effects of the register change only the marked parts. -/
def Reg.OnlyEff (m : Nat) (r : Reg) : Prop := (∀ v y, Only m y (r.eff v y)) ∧ (∀ y, Only m y (r.lo y)) ∧ (∀ y, Only m y (r.hi y))

theorem Reg.OnlyEff.mono {m n : Nat} {r : Reg} (e : Reg.OnlyEff m r) (h : m ||| n = n) : Reg.OnlyEff n r :=
  ⟨fun v y => (e.1 v y).mono h, fun y => (e.2.1 y).mono h, fun y => (e.2.2 y).mono h⟩

theorem State.readReg_only {s : State} {f : Fn} {off : Nat} {h : RdHalf} {r : Reg} {m : Nat} (e : Reg.OnlyEff m r)
    (hk : 0x1020011010 ||| m = m) : Only m s (s.readReg f off h r) := by
  unfold State.readReg
  exact State.regRead_only (fun _ => e.2.1 _) (fun _ => e.2.2 _) hk

theorem State.writeReg_only {s : State} {f : Fn} {off : Nat} {a : WrAcc} {v : Word} {r : Reg} {m : Nat} (e : Reg.OnlyEff m r)
    (hk : 0x1020011050 ||| m = m) : Only m s (s.writeReg f off a v r) := by
  unfold State.writeReg
  exact State.regWrite_only (fun _ _ => e.1 _ _) hk

theorem State.refuseWrite_only {s : State} {f : Fn} : Only 0x10040 s (State.refuseWrite s f) := by
  unfold State.refuseWrite
  repeat' first
    | with_reducible exact Only.refl _ _
    | ((with_reducible apply Only.step State.accessErr_only ?_ ?k); case k => exact rfl)
    | dsimp only [id]
    | split
    | ((with_reducible apply Only.upd ?_ ?h); case h => exact rfl)

theorem State.modSrc_only {s : State} {x : Src} {g : IrqSrc → IrqSrc} : Only 0xC010800 s (State.modSrc s x g) := by
  unfold State.modSrc
  repeat' first
    | with_reducible exact Only.refl _ _
    | ((with_reducible apply Only.step State.modCore_only ?_ ?k); case k => exact rfl)
    | ((with_reducible apply Only.step State.modTenant_only ?_ ?k); case k => exact rfl)
    | dsimp only [id]
    | split
    | ((with_reducible apply Only.upd ?_ ?h); case h => exact rfl)

theorem State.sendMsix_only {s : State} {f : Fn} {v : BitVec 8} : Only 0x800011110 s (State.sendMsix s f v) := by
  unfold State.sendMsix
  try dsimp only
  repeat' first
    | with_reducible exact Only.refl _ _
    | ((with_reducible apply Only.step State.postWrite_only ?_ ?k); case k => exact rfl)
    | dsimp only [id]
    | split
    | ((with_reducible apply Only.upd ?_ ?h); case h => exact rfl)

theorem State.sendVectors_only {s : State} {f : Fn} {k : Nat} {l : List Src} : Only 0x800011110 s (State.sendVectors s f k l) := by
  induction k generalizing s l with
  | zero => exact Only.refl _ _
  | succ k ih =>
    unfold State.sendVectors
    split
    · exact Only.refl _ _
    · exact (State.sendMsix_only.mono rfl).trans ih

theorem State.signalPme_only {s : State} {f : Fn} : Only 0x800010010 s (State.signalPme s f) := by
  unfold State.signalPme
  repeat' first
    | with_reducible exact Only.refl _ _
    | ((with_reducible apply Only.step State.modFn_only ?_ ?k); case k => exact rfl)
    | ((with_reducible apply Only.step State.emitOut_only ?_ ?k); case k => exact rfl)
    | dsimp only [id]
    | split
    | ((with_reducible apply Only.upd ?_ ?h); case h => exact rfl)

theorem State.settle_only {s pre : State} {f : Fn} : Only 0x800011110 s (State.settle s pre f) := by
  unfold State.settle
  try dsimp only
  repeat' first
    | with_reducible exact Only.refl _ _
    | ((with_reducible apply Only.step State.sendVectors_only ?_ ?k); case k => exact rfl)
    | ((with_reducible apply Only.step State.signalPme_only ?_ ?k); case k => exact rfl)
    | dsimp only [id]
    | split
    | ((with_reducible apply Only.upd ?_ ?h); case h => exact rfl)

theorem State.settleSrc_only {s pre : State} {x : Src} : Only 0x800011110 s (State.settleSrc s pre x) := by
  unfold State.settleSrc
  repeat' first
    | with_reducible exact Only.refl _ _
    | ((with_reducible apply Only.step State.settle_only ?_ ?k); case k => exact rfl)
    | dsimp only [id]
    | split
    | ((with_reducible apply Only.upd ?_ ?h); case h => exact rfl)

theorem State.resample_only {s : State} : Only 0x80C011910 s (State.resample s) := by
  unfold State.resample
  try dsimp only
  repeat' first
    | with_reducible exact Only.refl _ _
    | ((with_reducible apply Only.step State.settle_only ?_ ?k); case k => exact rfl)
    | ((with_reducible apply Only.step State.modSrc_only ?_ ?k); case k => exact rfl)
    | with_reducible apply Only.foldl ?_ (fun _ _ => ?_)
    | dsimp only [id]
    | split
    | ((with_reducible apply Only.upd ?_ ?h); case h => exact rfl)

theorem execSourceLevelRise_only {x : Src} {s : State} : ∃ z, execSourceLevelRise x s = .next z ∧ Only 0x82C011910 s z := by
  unfold execSourceLevelRise
  try dsimp only
  repeat' first
    | with_reducible refine ⟨_, rfl, ?_⟩
    | split
  repeat' first
    | with_reducible exact Only.refl _ _
    | ((with_reducible apply Only.step State.rouse_only ?_ ?k); case k => exact rfl)
    | ((with_reducible apply Only.step State.modSrc_only ?_ ?k); case k => exact rfl)
    | ((with_reducible apply Only.step State.settleSrc_only ?_ ?k); case k => exact rfl)
    | dsimp only [id]
    | split
    | ((with_reducible apply Only.upd ?_ ?h); case h => exact rfl)

theorem execSourceLevelFall_only {x : Src} {s : State} : ∃ z, execSourceLevelFall x s = .next z ∧ Only 0xC010800 s z := by
  unfold execSourceLevelFall
  try dsimp only
  repeat' first
    | with_reducible refine ⟨_, rfl, ?_⟩
    | split
  repeat' first
    | with_reducible exact Only.refl _ _
    | ((with_reducible apply Only.step State.modSrc_only ?_ ?k); case k => exact rfl)
    | dsimp only [id]
    | split
    | ((with_reducible apply Only.upd ?_ ?h); case h => exact rfl)

theorem State.claim_only {s : State} {g : Target} : Only 0xC010800 s (State.claim s g) := by
  unfold State.claim
  repeat' first
    | with_reducible exact Only.refl _ _
    | ((with_reducible apply Only.step State.modSrc_only ?_ ?k); case k => exact rfl)
    | dsimp only [id]
    | split
    | ((with_reducible apply Only.upd ?_ ?h); case h => exact rfl)

theorem State.claimTake_only {s : State} {f : Fn} {h : RdHalf} : Only 0x100C010810 s (State.claimTake s f h) := by
  unfold State.claimTake
  repeat' first
    | with_reducible exact Only.refl _ _
    | ((with_reducible apply Only.step State.answer_only ?_ ?k); case k => exact rfl)
    | ((with_reducible apply Only.step State.dropLatch_only ?_ ?k); case k => exact rfl)
    | ((with_reducible apply Only.step State.claim_only ?_ ?k); case k => exact rfl)
    | dsimp only [id]
    | split
    | ((with_reducible apply Only.upd ?_ ?h); case h => exact rfl)

theorem State.claimRead_only {s : State} {f : Fn} {h : RdHalf} : Only 0x102C011810 s (State.claimRead s f h) := by
  unfold State.claimRead
  repeat' first
    | with_reducible exact Only.refl _ _
    | ((with_reducible apply State.front_only ?_ ?_ ?k); case k => exact rfl)
    | ((with_reducible apply Only.step State.claimTake_only ?_ ?k); case k => exact rfl)
    | dsimp only [id]
    | split
    | ((with_reducible apply Only.upd ?_ ?h); case h => exact rfl)

theorem State.endService_only {s : State} {x : Src} : Only 0x80C011910 s (State.endService s x) := by
  unfold State.endService
  try dsimp only
  repeat' first
    | with_reducible exact Only.refl _ _
    | ((with_reducible apply Only.step State.modSrc_only ?_ ?k); case k => exact rfl)
    | ((with_reducible apply Only.step State.settleSrc_only ?_ ?k); case k => exact rfl)
    | dsimp only [id]
    | split
    | ((with_reducible apply Only.upd ?_ ?h); case h => exact rfl)

theorem State.eoiWrite_only {f : Fn} {v : Word} {s : State} : Only 0x80C011950 s (State.eoiWrite f v s) := by
  unfold State.eoiWrite
  repeat' first
    | with_reducible exact Only.refl _ _
    | ((with_reducible apply Only.step State.refuseWrite_only ?_ ?k); case k => exact rfl)
    | ((with_reducible apply Only.step State.endService_only ?_ ?k); case k => exact rfl)
    | dsimp only [id]
    | split
    | ((with_reducible apply Only.upd ?_ ?h); case h => exact rfl)

theorem execTIrqClaim_only {t : TenantId} {r : RdHalf} {s : State} : ∃ z, execTIrqClaim t r s = .next z ∧ Only 0x102C011810 s z := by
  unfold execTIrqClaim
  repeat' first
    | with_reducible refine ⟨_, rfl, ?_⟩
    | split
  repeat' first
    | with_reducible exact Only.refl _ _
    | ((with_reducible apply Only.step State.claimRead_only ?_ ?k); case k => exact rfl)
    | dsimp only [id]
    | split
    | ((with_reducible apply Only.upd ?_ ?h); case h => exact rfl)

theorem execIrqPfClaim_only {r : RdHalf} {s : State} : ∃ z, execIrqPfClaim r s = .next z ∧ Only 0x102C011810 s z := by
  unfold execIrqPfClaim
  repeat' first
    | with_reducible refine ⟨_, rfl, ?_⟩
    | split
  repeat' first
    | with_reducible exact Only.refl _ _
    | ((with_reducible apply Only.step State.claimRead_only ?_ ?k); case k => exact rfl)
    | dsimp only [id]
    | split
    | ((with_reducible apply Only.upd ?_ ?h); case h => exact rfl)

theorem execTIrqEoi_only {t : TenantId} {a : WrAcc} {v : Word} {s : State} :
    ∃ z, execTIrqEoi t a v s = .next z ∧ Only 0x182C011950 s z := by
  unfold execTIrqEoi
  repeat' first
    | with_reducible refine ⟨_, rfl, ?_⟩
    | split
  repeat' first
    | with_reducible exact Only.refl _ _
    | ((with_reducible apply Only.trans ?_ (State.regWrite_only (fun _ _ => ?_) ?k)); case k => exact rfl)
    | ((with_reducible apply Only.step State.eoiWrite_only ?_ ?k); case k => exact rfl)
    | dsimp only [id]
    | split
    | ((with_reducible apply Only.upd ?_ ?h); case h => exact rfl)

theorem execIrqPfEoi_only {a : WrAcc} {v : Word} {s : State} : ∃ z, execIrqPfEoi a v s = .next z ∧ Only 0x182C011950 s z := by
  unfold execIrqPfEoi
  repeat' first
    | with_reducible refine ⟨_, rfl, ?_⟩
    | split
  repeat' first
    | with_reducible exact Only.refl _ _
    | ((with_reducible apply Only.trans ?_ (State.regWrite_only (fun _ _ => ?_) ?k)); case k => exact rfl)
    | ((with_reducible apply Only.step State.eoiWrite_only ?_ ?k); case k => exact rfl)
    | dsimp only [id]
    | split
    | ((with_reducible apply Only.upd ?_ ?h); case h => exact rfl)

theorem State.privateWrite_only {f : Fn} {x : Src} {vectors : Nat} {v : Word} {s : State} :
    Only 0x80C011950 s (State.privateWrite f x vectors v s) := by
  unfold State.privateWrite
  repeat' first
    | with_reducible exact Only.refl _ _
    | ((with_reducible apply Only.step State.refuseWrite_only ?_ ?k); case k => exact rfl)
    | ((with_reducible apply Only.step State.modSrc_only ?_ ?k); case k => exact rfl)
    | ((with_reducible apply Only.step State.settleSrc_only ?_ ?k); case k => exact rfl)
    | dsimp only [id]
    | split
    | ((with_reducible apply Only.upd ?_ ?h); case h => exact rfl)

theorem State.sharedWrite_only {n : Fin 96} {v : Word} {s : State} : Only 0x80C011950 s (State.sharedWrite n v s) := by
  unfold State.sharedWrite
  try dsimp only
  repeat' first
    | with_reducible exact Only.refl _ _
    | ((with_reducible apply Only.step State.refuseWrite_only ?_ ?k); case k => exact rfl)
    | ((with_reducible apply Only.step State.modSrc_only ?_ ?k); case k => exact rfl)
    | ((with_reducible apply Only.step State.settleSrc_only ?_ ?k); case k => exact rfl)
    | dsimp only [id]
    | split
    | ((with_reducible apply Only.upd ?_ ?h); case h => exact rfl)

theorem execIrqSharedWrite_only {n : Fin 96} {a : WrAcc} {v : Word} {s : State} :
    ∃ z, execIrqSharedWrite n a v s = .next z ∧ Only 0x182C011950 s z := by
  unfold execIrqSharedWrite
  repeat' first
    | with_reducible refine ⟨_, rfl, ?_⟩
    | split
  repeat' first
    | with_reducible exact Only.refl _ _
    | ((with_reducible apply Only.step State.sharedWrite_only ?_ ?k); case k => exact rfl)
    | ((with_reducible apply Only.trans ?_ (State.regWrite_only (fun _ _ => ?_) ?k)); case k => exact rfl)
    | dsimp only [id]
    | split
    | ((with_reducible apply Only.upd ?_ ?h); case h => exact rfl)

theorem execIrqSourceWrite_only {f : Fn} {n : Fin 64} {a : WrAcc} {v : Word} {s : State} :
    ∃ z, execIrqSourceWrite f n a v s = .next z ∧ Only 0x182C011950 s z := by
  unfold execIrqSourceWrite
  repeat' first
    | with_reducible refine ⟨_, rfl, ?_⟩
    | split
  repeat' first
    | with_reducible exact Only.refl _ _
    | ((with_reducible apply Only.step State.privateWrite_only ?_ ?k); case k => exact rfl)
    | ((with_reducible apply Only.trans ?_ (State.regWrite_only (fun _ _ => ?_) ?k)); case k => exact rfl)
    | dsimp only [id]
    | split
    | ((with_reducible apply Only.upd ?_ ?h); case h => exact rfl)

theorem State.setHold_only {f : Fn} {v : Word} {s : State} : Only 0x810011110 s (State.setHold f v s) := by
  unfold State.setHold
  try dsimp only
  repeat' first
    | with_reducible exact Only.refl _ _
    | ((with_reducible apply Only.step State.settle_only ?_ ?k); case k => exact rfl)
    | ((with_reducible apply Only.step State.modTenant_only ?_ ?k); case k => exact rfl)
    | dsimp only [id]
    | split
    | ((with_reducible apply Only.upd ?_ ?h); case h => exact rfl)

theorem execIrqHoldWrite_only {f : Fn} {a : WrAcc} {v : Word} {s : State} :
    ∃ z, execIrqHoldWrite f a v s = .next z ∧ Only 0x1830011150 s z := by
  unfold execIrqHoldWrite
  repeat' first
    | with_reducible refine ⟨_, rfl, ?_⟩
    | split
  repeat' first
    | with_reducible exact Only.refl _ _
    | ((with_reducible apply Only.trans ?_ (State.regWrite_only (fun _ _ => ?_) ?k)); case k => exact rfl)
    | ((with_reducible apply Only.step State.setHold_only ?_ ?k); case k => exact rfl)
    | dsimp only [id]
    | split
    | ((with_reducible apply Only.upd ?_ ?h); case h => exact rfl)

theorem execCoreClaim_only {c : CoreId} {s : State} : ∃ z, execCoreClaim c s = .next z ∧ Only 0xC010800 s z := by
  unfold execCoreClaim
  try dsimp only
  repeat' first
    | with_reducible refine ⟨_, rfl, ?_⟩
    | split
  repeat' first
    | with_reducible exact Only.refl _ _
    | ((with_reducible apply Only.step State.modCore_only ?_ ?k); case k => exact rfl)
    | ((with_reducible apply Only.step State.claim_only ?_ ?k); case k => exact rfl)
    | dsimp only [id]
    | split
    | ((with_reducible apply Only.upd ?_ ?h); case h => exact rfl)

theorem State.coreEnd_only {s : State} {c : CoreId} {e : Nat × Nat × Nat} : Only 0x94C011910 s (State.coreEnd s c e) := by
  unfold State.coreEnd
  try dsimp only
  repeat' first
    | with_reducible exact Only.refl _ _
    | ((with_reducible apply Only.step State.modCore_only ?_ ?k); case k => exact rfl)
    | ((with_reducible apply Only.step State.endService_only ?_ ?k); case k => exact rfl)
    | ((with_reducible apply Only.step State.logEvent_only ?_ ?k); case k => exact rfl)
    | dsimp only [id]
    | split
    | ((with_reducible apply Only.upd ?_ ?h); case h => exact rfl)

theorem execCoreEoi_only {c : CoreId} {s : State} : ∃ z, execCoreEoi c s = .next z ∧ Only 0x94C011910 s z := by
  unfold execCoreEoi
  try dsimp only
  repeat' first
    | with_reducible refine ⟨_, rfl, ?_⟩
    | split
  repeat' first
    | with_reducible exact Only.refl _ _
    | ((with_reducible apply Only.step State.coreEnd_only ?_ ?k); case k => exact rfl)
    | ((with_reducible apply Only.step State.endService_only ?_ ?k); case k => exact rfl)
    | with_reducible apply Only.foldl ?_ (fun _ _ => ?_)
    | dsimp only [id]
    | split
    | ((with_reducible apply Only.upd ?_ ?h); case h => exact rfl)

theorem State.writeCtl_only {f : Fn} {v : Word} {s : State} : Only 0x10100 s (State.writeCtl f v s) := by
  unfold State.writeCtl
  repeat' first
    | with_reducible exact Only.refl _ _
    | ((with_reducible apply Only.step State.modRings_only ?_ ?k); case k => exact rfl)
    | ((with_reducible apply Only.step State.drainRing_only ?_ ?k); case k => exact rfl)
    | dsimp only [id]
    | split
    | ((with_reducible apply Only.upd ?_ ?h); case h => exact rfl)

theorem State.whenIdle_only {s : State} {f : Fn} {ok : Bool} {g : Rings → Rings} : Only 0x10140 s (State.whenIdle s f ok g) := by
  unfold State.whenIdle
  repeat' first
    | with_reducible exact Only.refl _ _
    | ((with_reducible apply Only.step State.refuseWrite_only ?_ ?k); case k => exact rfl)
    | ((with_reducible apply Only.step State.modRings_only ?_ ?k); case k => exact rfl)
    | dsimp only [id]
    | split
    | ((with_reducible apply Only.upd ?_ ?h); case h => exact rfl)

theorem State.writeOrderBase_only {f : Fn} {v : Word} {s : State} : Only 0x10140 s (State.writeOrderBase f v s) := by
  unfold State.writeOrderBase
  repeat' first
    | with_reducible exact Only.refl _ _
    | ((with_reducible apply Only.step State.whenIdle_only ?_ ?k); case k => exact rfl)
    | dsimp only [id]
    | split
    | ((with_reducible apply Only.upd ?_ ?h); case h => exact rfl)

theorem State.writeOrderSize_only {f : Fn} {v : Word} {s : State} : Only 0x10140 s (State.writeOrderSize f v s) := by
  unfold State.writeOrderSize
  try dsimp only
  repeat' first
    | with_reducible exact Only.refl _ _
    | ((with_reducible apply Only.step State.whenIdle_only ?_ ?k); case k => exact rfl)
    | dsimp only [id]
    | split
    | ((with_reducible apply Only.upd ?_ ?h); case h => exact rfl)

theorem State.writeEventBase_only {f : Fn} {v : Word} {s : State} : Only 0x10140 s (State.writeEventBase f v s) := by
  unfold State.writeEventBase
  repeat' first
    | with_reducible exact Only.refl _ _
    | ((with_reducible apply Only.step State.whenIdle_only ?_ ?k); case k => exact rfl)
    | dsimp only [id]
    | split
    | ((with_reducible apply Only.upd ?_ ?h); case h => exact rfl)

theorem State.writeEventSize_only {f : Fn} {v : Word} {s : State} : Only 0x10140 s (State.writeEventSize f v s) := by
  unfold State.writeEventSize
  try dsimp only
  repeat' first
    | with_reducible exact Only.refl _ _
    | ((with_reducible apply Only.step State.whenIdle_only ?_ ?k); case k => exact rfl)
    | dsimp only [id]
    | split
    | ((with_reducible apply Only.upd ?_ ?h); case h => exact rfl)

theorem State.writeOrderDb_only {f : Fn} {v : Word} {s : State} : Only 0x10140 s (State.writeOrderDb f v s) := by
  unfold State.writeOrderDb
  try dsimp only
  repeat' first
    | with_reducible exact Only.refl _ _
    | ((with_reducible apply Only.step State.refuseWrite_only ?_ ?k); case k => exact rfl)
    | ((with_reducible apply Only.step State.modRings_only ?_ ?k); case k => exact rfl)
    | dsimp only [id]
    | split
    | ((with_reducible apply Only.upd ?_ ?h); case h => exact rfl)

theorem State.writeEventCi_only {f : Fn} {v : Word} {s : State} : Only 0x10140 s (State.writeEventCi f v s) := by
  unfold State.writeEventCi
  try dsimp only
  repeat' first
    | with_reducible exact Only.refl _ _
    | ((with_reducible apply Only.step State.refuseWrite_only ?_ ?k); case k => exact rfl)
    | ((with_reducible apply Only.step State.modRings_only ?_ ?k); case k => exact rfl)
    | ((with_reducible apply Only.step State.drainRing_only ?_ ?k); case k => exact rfl)
    | dsimp only [id]
    | split
    | ((with_reducible apply Only.upd ?_ ?h); case h => exact rfl)

theorem State.writeEpDb_only {t : TenantId} {h : Fin 1024} {v : Word} {s : State} : Only 0x30040 s (State.writeEpDb t h v s) := by
  unfold State.writeEpDb
  try dsimp only
  repeat' first
    | with_reducible exact Only.refl _ _
    | ((with_reducible apply Only.step State.refuseWrite_only ?_ ?k); case k => exact rfl)
    | ((with_reducible apply Only.step State.modTenant_only ?_ ?k); case k => exact rfl)
    | ((with_reducible apply Only.step State.modFlow_only ?_ ?k); case k => exact rfl)
    | dsimp only [id]
    | split
    | ((with_reducible apply Only.upd ?_ ?h); case h => exact rfl)

theorem execGblCtlWrite_only {a : WrAcc} {v : Word} {s : State} : ∃ z, execGblCtlWrite a v s = .next z ∧ Only 0x1020011150 s z := by
  unfold execGblCtlWrite
  repeat' first
    | with_reducible refine ⟨_, rfl, ?_⟩
    | split
  repeat' first
    | with_reducible exact Only.refl _ _
    | ((with_reducible apply Only.step State.writeCtl_only ?_ ?k); case k => exact rfl)
    | ((with_reducible apply Only.trans ?_ (State.regWrite_only (fun _ _ => ?_) ?k)); case k => exact rfl)
    | dsimp only [id]
    | split
    | ((with_reducible apply Only.upd ?_ ?h); case h => exact rfl)

theorem execGblOrderBaseWrite_only {a : WrAcc} {v : Word} {s : State} :
    ∃ z, execGblOrderBaseWrite a v s = .next z ∧ Only 0x1020011150 s z := by
  unfold execGblOrderBaseWrite
  repeat' first
    | with_reducible refine ⟨_, rfl, ?_⟩
    | split
  repeat' first
    | with_reducible exact Only.refl _ _
    | ((with_reducible apply Only.trans ?_ (State.regWrite_only (fun _ _ => ?_) ?k)); case k => exact rfl)
    | ((with_reducible apply Only.step State.writeOrderBase_only ?_ ?k); case k => exact rfl)
    | dsimp only [id]
    | split
    | ((with_reducible apply Only.upd ?_ ?h); case h => exact rfl)

theorem execGblOrderSizeWrite_only {a : WrAcc} {v : Word} {s : State} :
    ∃ z, execGblOrderSizeWrite a v s = .next z ∧ Only 0x1020011150 s z := by
  unfold execGblOrderSizeWrite
  repeat' first
    | with_reducible refine ⟨_, rfl, ?_⟩
    | split
  repeat' first
    | with_reducible exact Only.refl _ _
    | ((with_reducible apply Only.trans ?_ (State.regWrite_only (fun _ _ => ?_) ?k)); case k => exact rfl)
    | ((with_reducible apply Only.step State.writeOrderSize_only ?_ ?k); case k => exact rfl)
    | dsimp only [id]
    | split
    | ((with_reducible apply Only.upd ?_ ?h); case h => exact rfl)

theorem execGblOrderDb_only {a : WrAcc} {v : Word} {s : State} : ∃ z, execGblOrderDb a v s = .next z ∧ Only 0x1020011150 s z := by
  unfold execGblOrderDb
  repeat' first
    | with_reducible refine ⟨_, rfl, ?_⟩
    | split
  repeat' first
    | with_reducible exact Only.refl _ _
    | ((with_reducible apply Only.trans ?_ (State.regWrite_only (fun _ _ => ?_) ?k)); case k => exact rfl)
    | ((with_reducible apply Only.step State.writeOrderDb_only ?_ ?k); case k => exact rfl)
    | dsimp only [id]
    | split
    | ((with_reducible apply Only.upd ?_ ?h); case h => exact rfl)

theorem execGblEventBaseWrite_only {a : WrAcc} {v : Word} {s : State} :
    ∃ z, execGblEventBaseWrite a v s = .next z ∧ Only 0x1020011150 s z := by
  unfold execGblEventBaseWrite
  repeat' first
    | with_reducible refine ⟨_, rfl, ?_⟩
    | split
  repeat' first
    | with_reducible exact Only.refl _ _
    | ((with_reducible apply Only.trans ?_ (State.regWrite_only (fun _ _ => ?_) ?k)); case k => exact rfl)
    | ((with_reducible apply Only.step State.writeEventBase_only ?_ ?k); case k => exact rfl)
    | dsimp only [id]
    | split
    | ((with_reducible apply Only.upd ?_ ?h); case h => exact rfl)

theorem execGblEventSizeWrite_only {a : WrAcc} {v : Word} {s : State} :
    ∃ z, execGblEventSizeWrite a v s = .next z ∧ Only 0x1020011150 s z := by
  unfold execGblEventSizeWrite
  repeat' first
    | with_reducible refine ⟨_, rfl, ?_⟩
    | split
  repeat' first
    | with_reducible exact Only.refl _ _
    | ((with_reducible apply Only.step State.writeEventSize_only ?_ ?k); case k => exact rfl)
    | ((with_reducible apply Only.trans ?_ (State.regWrite_only (fun _ _ => ?_) ?k)); case k => exact rfl)
    | dsimp only [id]
    | split
    | ((with_reducible apply Only.upd ?_ ?h); case h => exact rfl)

theorem execGblEventCi_only {a : WrAcc} {v : Word} {s : State} : ∃ z, execGblEventCi a v s = .next z ∧ Only 0x1020011150 s z := by
  unfold execGblEventCi
  repeat' first
    | with_reducible refine ⟨_, rfl, ?_⟩
    | split
  repeat' first
    | with_reducible exact Only.refl _ _
    | ((with_reducible apply Only.trans ?_ (State.regWrite_only (fun _ _ => ?_) ?k)); case k => exact rfl)
    | ((with_reducible apply Only.step State.writeEventCi_only ?_ ?k); case k => exact rfl)
    | dsimp only [id]
    | split
    | ((with_reducible apply Only.upd ?_ ?h); case h => exact rfl)

theorem execTCtlWrite_only {t : TenantId} {a : WrAcc} {v : Word} {s : State} :
    ∃ z, execTCtlWrite t a v s = .next z ∧ Only 0x1020011150 s z := by
  unfold execTCtlWrite
  repeat' first
    | with_reducible refine ⟨_, rfl, ?_⟩
    | split
  repeat' first
    | with_reducible exact Only.refl _ _
    | ((with_reducible apply Only.step State.writeCtl_only ?_ ?k); case k => exact rfl)
    | ((with_reducible apply Only.trans ?_ (State.regWrite_only (fun _ _ => ?_) ?k)); case k => exact rfl)
    | dsimp only [id]
    | split
    | ((with_reducible apply Only.upd ?_ ?h); case h => exact rfl)

theorem execTOrderBaseWrite_only {t : TenantId} {a : WrAcc} {v : Word} {s : State} :
    ∃ z, execTOrderBaseWrite t a v s = .next z ∧ Only 0x1020011150 s z := by
  unfold execTOrderBaseWrite
  repeat' first
    | with_reducible refine ⟨_, rfl, ?_⟩
    | split
  repeat' first
    | with_reducible exact Only.refl _ _
    | ((with_reducible apply Only.trans ?_ (State.regWrite_only (fun _ _ => ?_) ?k)); case k => exact rfl)
    | ((with_reducible apply Only.step State.writeOrderBase_only ?_ ?k); case k => exact rfl)
    | dsimp only [id]
    | split
    | ((with_reducible apply Only.upd ?_ ?h); case h => exact rfl)

theorem execTOrderSizeWrite_only {t : TenantId} {a : WrAcc} {v : Word} {s : State} :
    ∃ z, execTOrderSizeWrite t a v s = .next z ∧ Only 0x1020011150 s z := by
  unfold execTOrderSizeWrite
  repeat' first
    | with_reducible refine ⟨_, rfl, ?_⟩
    | split
  repeat' first
    | with_reducible exact Only.refl _ _
    | ((with_reducible apply Only.trans ?_ (State.regWrite_only (fun _ _ => ?_) ?k)); case k => exact rfl)
    | ((with_reducible apply Only.step State.writeOrderSize_only ?_ ?k); case k => exact rfl)
    | dsimp only [id]
    | split
    | ((with_reducible apply Only.upd ?_ ?h); case h => exact rfl)

theorem execTOrderDb_only {t : TenantId} {a : WrAcc} {v : Word} {s : State} :
    ∃ z, execTOrderDb t a v s = .next z ∧ Only 0x1020011150 s z := by
  unfold execTOrderDb
  repeat' first
    | with_reducible refine ⟨_, rfl, ?_⟩
    | split
  repeat' first
    | with_reducible exact Only.refl _ _
    | ((with_reducible apply Only.trans ?_ (State.regWrite_only (fun _ _ => ?_) ?k)); case k => exact rfl)
    | ((with_reducible apply Only.step State.writeOrderDb_only ?_ ?k); case k => exact rfl)
    | dsimp only [id]
    | split
    | ((with_reducible apply Only.upd ?_ ?h); case h => exact rfl)

theorem execTEventBaseWrite_only {t : TenantId} {a : WrAcc} {v : Word} {s : State} :
    ∃ z, execTEventBaseWrite t a v s = .next z ∧ Only 0x1020011150 s z := by
  unfold execTEventBaseWrite
  repeat' first
    | with_reducible refine ⟨_, rfl, ?_⟩
    | split
  repeat' first
    | with_reducible exact Only.refl _ _
    | ((with_reducible apply Only.trans ?_ (State.regWrite_only (fun _ _ => ?_) ?k)); case k => exact rfl)
    | ((with_reducible apply Only.step State.writeEventBase_only ?_ ?k); case k => exact rfl)
    | dsimp only [id]
    | split
    | ((with_reducible apply Only.upd ?_ ?h); case h => exact rfl)

theorem execTEventSizeWrite_only {t : TenantId} {a : WrAcc} {v : Word} {s : State} :
    ∃ z, execTEventSizeWrite t a v s = .next z ∧ Only 0x1020011150 s z := by
  unfold execTEventSizeWrite
  repeat' first
    | with_reducible refine ⟨_, rfl, ?_⟩
    | split
  repeat' first
    | with_reducible exact Only.refl _ _
    | ((with_reducible apply Only.step State.writeEventSize_only ?_ ?k); case k => exact rfl)
    | ((with_reducible apply Only.trans ?_ (State.regWrite_only (fun _ _ => ?_) ?k)); case k => exact rfl)
    | dsimp only [id]
    | split
    | ((with_reducible apply Only.upd ?_ ?h); case h => exact rfl)

theorem execTEventCi_only {t : TenantId} {a : WrAcc} {v : Word} {s : State} :
    ∃ z, execTEventCi t a v s = .next z ∧ Only 0x1020011150 s z := by
  unfold execTEventCi
  repeat' first
    | with_reducible refine ⟨_, rfl, ?_⟩
    | split
  repeat' first
    | with_reducible exact Only.refl _ _
    | ((with_reducible apply Only.trans ?_ (State.regWrite_only (fun _ _ => ?_) ?k)); case k => exact rfl)
    | ((with_reducible apply Only.step State.writeEventCi_only ?_ ?k); case k => exact rfl)
    | dsimp only [id]
    | split
    | ((with_reducible apply Only.upd ?_ ?h); case h => exact rfl)

theorem execTEpDb_only {t : TenantId} {h : Fin 1024} {a : WrAcc} {v : Word} {s : State} :
    ∃ z, execTEpDb t h a v s = .next z ∧ Only 0x1020031050 s z := by
  unfold execTEpDb
  repeat' first
    | with_reducible refine ⟨_, rfl, ?_⟩
    | split
  repeat' first
    | with_reducible exact Only.refl _ _
    | ((with_reducible apply Only.trans ?_ (State.regWrite_only (fun _ _ => ?_) ?k)); case k => exact rfl)
    | ((with_reducible apply Only.step State.writeEpDb_only ?_ ?k); case k => exact rfl)
    | dsimp only [id]
    | split
    | ((with_reducible apply Only.upd ?_ ?h); case h => exact rfl)

theorem State.dropSwap_only {s : State} {t : TenantId} : Only 0x10100 s (State.dropSwap s t) := by
  unfold State.dropSwap
  try dsimp only
  repeat' first
    | with_reducible exact Only.refl _ _
    | ((with_reducible apply Only.step State.mgrTenantNotice_only ?_ ?k); case k => exact rfl)
    | ((with_reducible apply Only.step State.modTenant_only ?_ ?k); case k => exact rfl)
    | ((with_reducible apply Only.step State.endWaiting_only ?_ ?k); case k => exact rfl)
    | dsimp only [id]
    | split
    | ((with_reducible apply Only.upd ?_ ?h); case h => exact rfl)

theorem State.fence_only {s : State} {t : TenantId} : Only 0x2010900 s (State.fence s t) := by
  unfold State.fence
  try dsimp only
  repeat' first
    | with_reducible exact Only.refl _ _
    | ((with_reducible apply Only.step State.dropSwap_only ?_ ?k); case k => exact rfl)
    | ((with_reducible apply Only.step State.mgrTenantNotice_only ?_ ?k); case k => exact rfl)
    | ((with_reducible apply Only.step State.modTenant_only ?_ ?k); case k => exact rfl)
    | ((with_reducible apply Only.step State.endWaiting_only ?_ ?k); case k => exact rfl)
    | ((with_reducible apply Only.step State.dropTenantHs_only ?_ ?k); case k => exact rfl)
    | dsimp only [id]
    | split
    | ((with_reducible apply Only.upd ?_ ?h); case h => exact rfl)

theorem State.countFlr_only {s : State} {t : TenantId} : Only 0x10000 s (State.countFlr s t) := by
  unfold State.countFlr
  repeat' first
    | with_reducible exact Only.refl _ _
    | ((with_reducible apply Only.step State.modTenant_only ?_ ?k); case k => exact rfl)
    | dsimp only [id]
    | split
    | ((with_reducible apply Only.upd ?_ ?h); case h => exact rfl)

theorem State.wipe_only {s : State} {t : TenantId} : Only 0x142030900 s (State.wipe s t) := by
  unfold State.wipe
  try dsimp only
  repeat' first
    | with_reducible exact Only.refl _ _
    | ((with_reducible apply Only.step State.dropSwap_only ?_ ?k); case k => exact rfl)
    | ((with_reducible apply Only.step State.modTenant_only ?_ ?k); case k => exact rfl)
    | ((with_reducible apply Only.step State.dropTenantHs_only ?_ ?k); case k => exact rfl)
    | ((with_reducible apply Only.step State.tearDownAll_only ?_ ?k); case k => exact rfl)
    | dsimp only [id]
    | split
    | ((with_reducible apply Only.upd ?_ ?h); case h => exact rfl)

theorem State.autoEnable_only {s : State} {t : TenantId} : Only 0x10100 s (State.autoEnable s t) := by
  unfold State.autoEnable
  repeat' first
    | with_reducible exact Only.refl _ _
    | ((with_reducible apply Only.step State.mgrTenantNotice_only ?_ ?k); case k => exact rfl)
    | ((with_reducible apply Only.step State.modTenant_only ?_ ?k); case k => exact rfl)
    | dsimp only [id]
    | split
    | ((with_reducible apply Only.upd ?_ ?h); case h => exact rfl)

theorem State.presentVps_only {s : State} {t : TenantId} : Only 0x10100 s (State.presentVps s t) := by
  unfold State.presentVps
  repeat' first
    | with_reducible exact Only.refl _ _
    | ((with_reducible apply Only.step State.vpEvent_only ?_ ?k); case k => exact rfl)
    | with_reducible apply Only.foldl ?_ (fun _ _ => ?_)
    | dsimp only [id]
    | split
    | ((with_reducible apply Only.upd ?_ ?h); case h => exact rfl)

theorem State.vfAppears_only {s : State} {t : TenantId} : Only 0x10100 s (State.vfAppears s t) := by
  unfold State.vfAppears
  try dsimp only
  repeat' first
    | with_reducible exact Only.refl _ _
    | ((with_reducible apply Only.step State.autoEnable_only ?_ ?k); case k => exact rfl)
    | ((with_reducible apply Only.step State.mgrTenantNotice_only ?_ ?k); case k => exact rfl)
    | ((with_reducible apply Only.step State.modTenant_only ?_ ?k); case k => exact rfl)
    | ((with_reducible apply Only.step State.presentVps_only ?_ ?k); case k => exact rfl)
    | dsimp only [id]
    | split
    | ((with_reducible apply Only.upd ?_ ?h); case h => exact rfl)

theorem State.vfCeases_only {s : State} {t : TenantId} : Only 0x2010900 s (State.vfCeases s t) := by
  unfold State.vfCeases
  try dsimp only
  repeat' first
    | with_reducible exact Only.refl _ _
    | ((with_reducible apply Only.step State.dropSwap_only ?_ ?k); case k => exact rfl)
    | ((with_reducible apply Only.step State.mgrTenantNotice_only ?_ ?k); case k => exact rfl)
    | ((with_reducible apply Only.step State.fence_only ?_ ?k); case k => exact rfl)
    | ((with_reducible apply Only.step State.modTenant_only ?_ ?k); case k => exact rfl)
    | ((with_reducible apply Only.step State.countFlr_only ?_ ?k); case k => exact rfl)
    | dsimp only [id]
    | split
    | ((with_reducible apply Only.upd ?_ ?h); case h => exact rfl)

theorem State.syncVfs_only {s : State} : Only 0x2010900 s (State.syncVfs s) := by
  unfold State.syncVfs
  repeat' first
    | with_reducible exact Only.refl _ _
    | ((with_reducible apply Only.step State.vfAppears_only ?_ ?k); case k => exact rfl)
    | ((with_reducible apply Only.step State.vfCeases_only ?_ ?k); case k => exact rfl)
    | with_reducible apply Only.foldl ?_ (fun _ _ => ?_)
    | dsimp only [id]
    | split
    | ((with_reducible apply Only.upd ?_ ?h); case h => exact rfl)

theorem execFenceDrainEnd_only {t : TenantId} {s : State} : ∃ z, execFenceDrainEnd t s = .next z ∧ Only 0x142030900 s z := by
  unfold execFenceDrainEnd
  try dsimp only
  repeat' first
    | with_reducible refine ⟨_, rfl, ?_⟩
    | split
  repeat' first
    | with_reducible exact Only.refl _ _
    | ((with_reducible apply Only.step State.autoEnable_only ?_ ?k); case k => exact rfl)
    | ((with_reducible apply Only.step State.mgrTenantNotice_only ?_ ?k); case k => exact rfl)
    | ((with_reducible apply Only.step State.wipe_only ?_ ?k); case k => exact rfl)
    | ((with_reducible apply Only.step State.modTenant_only ?_ ?k); case k => exact rfl)
    | dsimp only [id]
    | split
    | ((with_reducible apply Only.upd ?_ ?h); case h => exact rfl)

theorem State.flrTenant_only {s : State} {t : TenantId} : Only 0x142030900 s (State.flrTenant s t) := by
  unfold State.flrTenant
  repeat' first
    | with_reducible exact Only.refl _ _
    | ((with_reducible apply Only.step State.wipe_only ?_ ?k); case k => exact rfl)
    | ((with_reducible apply Only.step State.fence_only ?_ ?k); case k => exact rfl)
    | ((with_reducible apply Only.step State.modTenant_only ?_ ?k); case k => exact rfl)
    | ((with_reducible apply Only.step State.countFlr_only ?_ ?k); case k => exact rfl)
    | dsimp only [id]
    | split
    | ((with_reducible apply Only.upd ?_ ?h); case h => exact rfl)

theorem State.resetManager_only {s : State} : Only 0x9C0 s (State.resetManager s) := by
  unfold State.resetManager
  try dsimp only
  repeat' first
    | with_reducible exact Only.refl _ _
    | ((with_reducible apply Only.step State.dropFetches_only ?_ ?k); case k => exact rfl)
    | dsimp only [id]
    | split
    | ((with_reducible apply Only.upd ?_ ?h); case h => exact rfl)

theorem State.setPeat_only {s : State} {st : PeatState} {why : PeatReason} : Only 0x140010900 s (State.setPeat s st why) := by
  unfold State.setPeat
  try dsimp only
  repeat' first
    | with_reducible exact Only.refl _ _
    | ((with_reducible apply Only.step State.tenantNotice_only ?_ ?k); case k => exact rfl)
    | ((with_reducible apply Only.step State.logEvent_only ?_ ?k); case k => exact rfl)
    | with_reducible apply Only.foldl ?_ (fun _ _ => ?_)
    | dsimp only [id]
    | split
    | ((with_reducible apply Only.upd ?_ ?h); case h => exact rfl)

theorem State.updateDegraded_only {s : State} : Only 0x140010900 s (State.updateDegraded s) := by
  unfold State.updateDegraded
  repeat' first
    | with_reducible exact Only.refl _ _
    | ((with_reducible apply Only.step State.setPeat_only ?_ ?k); case k => exact rfl)
    | dsimp only [id]
    | split
    | ((with_reducible apply Only.upd ?_ ?h); case h => exact rfl)

theorem State.modCounter_only {s : State} {i : Nat} {g : Counter → Counter} : Only 0x10000 s (State.modCounter s i g) := by
  unfold State.modCounter
  repeat' first
    | with_reducible exact Only.refl _ _
    | ((with_reducible apply Only.step State.modTenant_only ?_ ?k); case k => exact rfl)
    | dsimp only [id]
    | split
    | ((with_reducible apply Only.upd ?_ ?h); case h => exact rfl)

theorem State.queueRec_only {s : State} {q : QRec} : Only 0x40000000 s (State.queueRec s q) := by
  unfold State.queueRec
  repeat' first
    | with_reducible exact Only.refl _ _
    | dsimp only [id]
    | split
    | ((with_reducible apply Only.upd ?_ ?h); case h => exact rfl)

theorem State.beginCheckpoint_only {s : State} : Only 0x40000000 s (State.beginCheckpoint s) := by
  unfold State.beginCheckpoint
  repeat' first
    | with_reducible exact Only.refl _ _
    | ((with_reducible apply Only.step State.queueRec_only ?_ ?k); case k => exact rfl)
    | dsimp only [id]
    | split
    | ((with_reducible apply Only.upd ?_ ?h); case h => exact rfl)

theorem State.peatUpkeep_only {s : State} : Only 0x40000800 s (State.peatUpkeep s) := by
  unfold State.peatUpkeep
  try dsimp only
  repeat' first
    | with_reducible exact Only.refl _ _
    | ((with_reducible apply Only.step State.wantItem_only ?_ ?k); case k => exact rfl)
    | ((with_reducible apply Only.step State.beginCheckpoint_only ?_ ?k); case k => exact rfl)
    | dsimp only [id]
    | split
    | ((with_reducible apply Only.upd ?_ ?h); case h => exact rfl)

theorem State.emitPage_only {s : State} {i k : Nat} {r : PRec} : Only 0x800000000 s (State.emitPage s i k r) := by
  unfold State.emitPage
  repeat' first
    | with_reducible exact Only.refl _ _
    | ((with_reducible apply Only.step State.emitOut_only ?_ ?k); case k => exact rfl)
    | dsimp only [id]
    | split
    | ((with_reducible apply Only.upd ?_ ?h); case h => exact rfl)

theorem State.emitCommit_only {s : State} {i k : Nat} : Only 0x800000000 s (State.emitCommit s i k) := by
  unfold State.emitCommit
  repeat' first
    | with_reducible exact Only.refl _ _
    | ((with_reducible apply Only.step State.emitOut_only ?_ ?k); case k => exact rfl)
    | dsimp only [id]
    | split
    | ((with_reducible apply Only.upd ?_ ?h); case h => exact rfl)

theorem State.cfgStore_only {s : State} {f : Fn} {off : Nat} {v : BitVec 32} : Only 0x10010 s (State.cfgStore s f off v) := by
  unfold State.cfgStore
  try dsimp only
  repeat' first
    | with_reducible exact Only.refl _ _
    | ((with_reducible apply Only.step State.modFn_only ?_ ?k); case k => exact rfl)
    | dsimp only [id]
    | split
    | ((with_reducible apply Only.upd ?_ ?h); case h => exact rfl)

theorem State.releaseAll_only {s : State} : Only 0x800011110 s (State.releaseAll s) := by
  unfold State.releaseAll
  repeat' first
    | with_reducible exact Only.refl _ _
    | ((with_reducible apply Only.step State.releaseHeld_only ?_ ?k); case k => exact rfl)
    | with_reducible apply Only.foldl ?_ (fun _ _ => ?_)
    | dsimp only [id]
    | split
    | ((with_reducible apply Only.upd ?_ ?h); case h => exact rfl)

theorem State.writeVfEnable_only {s : State} {on : Bool} : Only 0x2010990 s (State.writeVfEnable s on) := by
  unfold State.writeVfEnable
  try dsimp only
  repeat' first
    | with_reducible exact Only.refl _ _
    | ((with_reducible apply Only.step State.syncVfs_only ?_ ?k); case k => exact rfl)
    | dsimp only [id]
    | split
    | ((with_reducible apply Only.upd ?_ ?h); case h => exact rfl)

theorem State.writeNumVfs_only {s : State} {n : Nat} : Only 0x2010910 s (State.writeNumVfs s n) := by
  unfold State.writeNumVfs
  repeat' first
    | with_reducible exact Only.refl _ _
    | ((with_reducible apply Only.step State.syncVfs_only ?_ ?k); case k => exact rfl)
    | dsimp only [id]
    | split
    | ((with_reducible apply Only.upd ?_ ?h); case h => exact rfl)

theorem State.writePmState_only {s : State} {f : Fn} {v : BitVec 2} : Only 0x800011110 s (State.writePmState s f v) := by
  unfold State.writePmState
  repeat' first
    | with_reducible exact Only.refl _ _
    | ((with_reducible apply Only.step State.settle_only ?_ ?k); case k => exact rfl)
    | ((with_reducible apply Only.step State.modFn_only ?_ ?k); case k => exact rfl)
    | dsimp only [id]
    | split
    | ((with_reducible apply Only.upd ?_ ?h); case h => exact rfl)

theorem State.flrPf0_only {s : State} : Only 0x20109D0 s (State.flrPf0 s) := by
  unfold State.flrPf0
  repeat' first
    | with_reducible exact Only.refl _ _
    | ((with_reducible apply Only.step State.resetManager_only ?_ ?k); case k => exact rfl)
    | ((with_reducible apply Only.step State.syncVfs_only ?_ ?k); case k => exact rfl)
    | dsimp only [id]
    | split
    | ((with_reducible apply Only.upd ?_ ?h); case h => exact rfl)

theorem State.flrVf_only {s : State} {t : TenantId} : Only 0x142030900 s (State.flrVf s t) := by
  unfold State.flrVf
  repeat' first
    | with_reducible exact Only.refl _ _
    | ((with_reducible apply Only.step State.modTenant_only ?_ ?k); case k => exact rfl)
    | ((with_reducible apply Only.step State.flrTenant_only ?_ ?k); case k => exact rfl)
    | dsimp only [id]
    | split
    | ((with_reducible apply Only.upd ?_ ?h); case h => exact rfl)

theorem State.flr_only {s : State} {z0 : Fn} : Only 0x1420309D0 s (State.flr s z0) := by
  unfold State.flr
  repeat' first
    | with_reducible exact Only.refl _ _
    | ((with_reducible apply Only.step State.flrPf0_only ?_ ?k); case k => exact rfl)
    | ((with_reducible apply Only.step State.flrVf_only ?_ ?k); case k => exact rfl)
    | dsimp only [id]
    | split
    | ((with_reducible apply Only.upd ?_ ?h); case h => exact rfl)

theorem State.cfgWrite_only {s : State} {f : Fn} {off : Nat} {v : BitVec 32} : Only 0x9420319D0 s (State.cfgWrite s f off v) := by
  unfold State.cfgWrite
  try dsimp only
  repeat' first
    | with_reducible exact Only.refl _ _
    | ((with_reducible apply Only.step State.cfgStore_only ?_ ?k); case k => exact rfl)
    | ((with_reducible apply Only.step State.settle_only ?_ ?k); case k => exact rfl)
    | ((with_reducible apply Only.step State.modFn_only ?_ ?k); case k => exact rfl)
    | ((with_reducible apply Only.step State.writeVfEnable_only ?_ ?k); case k => exact rfl)
    | ((with_reducible apply Only.step State.releaseHeld_only ?_ ?k); case k => exact rfl)
    | ((with_reducible apply Only.step State.flr_only ?_ ?k); case k => exact rfl)
    | ((with_reducible apply Only.step State.syncVfs_only ?_ ?k); case k => exact rfl)
    | ((with_reducible apply Only.step State.writeNumVfs_only ?_ ?k); case k => exact rfl)
    | dsimp only [id]
    | split
    | ((with_reducible apply Only.upd ?_ ?h); case h => exact rfl)

theorem State.cfgTake_only {s : State} {f : Fn} {r : Resp} {eff : State → State} {m : Nat} (heff : ∀ y0, Only m y0 (eff y0)) (hk : 0x1000000000 ||| m = m) :
    Only m s (State.cfgTake s f r eff) := by
  unfold State.cfgTake
  try dsimp only
  repeat' first
    | with_reducible exact Only.refl _ _
    | with_reducible apply Only.trans ?_ (heff _)
    | ((with_reducible apply Only.step State.answer_only ?_ ?k); case k => exact mask_sub rfl hk)
    | dsimp only [id]
    | split
    | ((with_reducible apply Only.updMono (m := 0x1000000000) ?_ ?h ?k); (case h => exact rfl); case k => exact mask_sub rfl hk)

theorem State.cfgAccess_only {s : State} {f : Fn} {q : CfgReq} {r : Resp} {eff : State → State} {m : Nat} (heff : ∀ y0, Only m y0 (eff y0)) (hk : 0x1020001000 ||| m = m) :
    Only m s (State.cfgAccess s f q r eff) := by
  unfold State.cfgAccess
  try dsimp only
  repeat' first
    | with_reducible exact Only.refl _ _
    | with_reducible apply Only.trans ?_ (heff _)
    | ((with_reducible apply Only.trans ?_ (State.cfgTake_only (fun _ => ?_) ?k)); case k => exact mask_sub rfl hk)
    | ((with_reducible apply State.front_only ?_ ?_ ?k); case k => exact mask_sub rfl hk)
    | dsimp only [id]
    | split
    | ((with_reducible apply Only.updMono (m := 0x1020001000) ?_ ?h ?k); (case h => exact rfl); case k => exact mask_sub rfl hk)

theorem State.cfgRequest_only {s : State} {f : Fn} {r : CfgReq} : Only 0x19620319D0 s (State.cfgRequest s f r) := by
  unfold State.cfgRequest
  repeat' first
    | with_reducible exact Only.refl _ _
    | ((with_reducible apply Only.step State.cfgWrite_only ?_ ?k); case k => exact rfl)
    | ((with_reducible apply Only.trans ?_ (State.cfgAccess_only (fun _ => ?_) ?k)); case k => exact rfl)
    | dsimp only [id]
    | split
    | ((with_reducible apply Only.upd ?_ ?h); case h => exact rfl)

theorem execConfigRequest_only {f : Fn} {r : CfgReq} {s : State} : ∃ z, execConfigRequest f r s = .next z ∧ Only 0x19620319D0 s z := by
  unfold execConfigRequest
  repeat' first
    | with_reducible refine ⟨_, rfl, ?_⟩
    | split
  repeat' first
    | with_reducible exact Only.refl _ _
    | ((with_reducible apply Only.step State.cfgRequest_only ?_ ?k); case k => exact rfl)
    | dsimp only [id]
    | split
    | ((with_reducible apply Only.upd ?_ ?h); case h => exact rfl)

theorem execVfEnableWrite_only {on : Bool} {s : State} : ∃ z, execVfEnableWrite on s = .next z ∧ Only 0x1022011990 s z := by
  unfold execVfEnableWrite
  repeat' first
    | with_reducible refine ⟨_, rfl, ?_⟩
    | split
  repeat' first
    | with_reducible exact Only.refl _ _
    | ((with_reducible apply Only.step State.writeVfEnable_only ?_ ?k); case k => exact rfl)
    | ((with_reducible apply Only.trans ?_ (State.cfgAccess_only (fun _ => ?_) ?k)); case k => exact rfl)
    | dsimp only [id]
    | split
    | ((with_reducible apply Only.upd ?_ ?h); case h => exact rfl)

theorem execNumvfsWrite_only {n : BitVec 16} {s : State} : ∃ z, execNumvfsWrite n s = .next z ∧ Only 0x1022011910 s z := by
  unfold execNumvfsWrite
  repeat' first
    | with_reducible refine ⟨_, rfl, ?_⟩
    | split
  repeat' first
    | with_reducible exact Only.refl _ _
    | ((with_reducible apply Only.step State.writeNumVfs_only ?_ ?k); case k => exact rfl)
    | ((with_reducible apply Only.trans ?_ (State.cfgAccess_only (fun _ => ?_) ?k)); case k => exact rfl)
    | dsimp only [id]
    | split
    | ((with_reducible apply Only.upd ?_ ?h); case h => exact rfl)

theorem execPmStateWrite_only {f : Fn} {v : BitVec 2} {s : State} : ∃ z, execPmStateWrite f v s = .next z ∧ Only 0x1820011110 s z := by
  unfold execPmStateWrite
  repeat' first
    | with_reducible refine ⟨_, rfl, ?_⟩
    | split
  repeat' first
    | with_reducible exact Only.refl _ _
    | ((with_reducible apply Only.step State.writePmState_only ?_ ?k); case k => exact rfl)
    | ((with_reducible apply Only.trans ?_ (State.cfgAccess_only (fun _ => ?_) ?k)); case k => exact rfl)
    | dsimp only [id]
    | split
    | ((with_reducible apply Only.upd ?_ ?h); case h => exact rfl)

theorem execPf0Flr_only {s : State} : ∃ z, execPf0Flr s = .next z ∧ Only 0x10220119D0 s z := by
  unfold execPf0Flr
  repeat' first
    | with_reducible refine ⟨_, rfl, ?_⟩
    | split
  repeat' first
    | with_reducible exact Only.refl _ _
    | ((with_reducible apply Only.trans ?_ (State.cfgAccess_only (fun _ => ?_) ?k)); case k => exact rfl)
    | ((with_reducible apply Only.step State.flrPf0_only ?_ ?k); case k => exact rfl)
    | dsimp only [id]
    | split
    | ((with_reducible apply Only.upd ?_ ?h); case h => exact rfl)

theorem execVfFlr_only {t : TenantId} {s : State} : ∃ z, execVfFlr t s = .next z ∧ Only 0x1162031900 s z := by
  unfold execVfFlr
  repeat' first
    | with_reducible refine ⟨_, rfl, ?_⟩
    | split
  repeat' first
    | with_reducible exact Only.refl _ _
    | ((with_reducible apply Only.trans ?_ (State.cfgAccess_only (fun _ => ?_) ?k)); case k => exact rfl)
    | ((with_reducible apply Only.step State.flrVf_only ?_ ?k); case k => exact rfl)
    | dsimp only [id]
    | split
    | ((with_reducible apply Only.upd ?_ ?h); case h => exact rfl)

theorem State.modEntry_only {s : State} {f : Fn} {n : Nat} {g : MsixEntry → MsixEntry} : Only 0x10010 s (State.modEntry s f n g) := by
  unfold State.modEntry
  repeat' first
    | with_reducible exact Only.refl _ _
    | ((with_reducible apply Only.step State.modFn_only ?_ ?k); case k => exact rfl)
    | dsimp only [id]
    | split
    | ((with_reducible apply Only.upd ?_ ?h); case h => exact rfl)

theorem State.writeMsix_only {s : State} {f : Fn} {off size : Nat} {v : Word} : Only 0x800011150 s (State.writeMsix s f off size v) := by
  unfold State.writeMsix
  try dsimp only
  repeat' first
    | with_reducible exact Only.refl _ _
    | ((with_reducible apply Only.step State.modEntry_only ?_ ?k); case k => exact rfl)
    | ((with_reducible apply Only.step State.settle_only ?_ ?k); case k => exact rfl)
    | ((with_reducible apply Only.step State.accessErr_only ?_ ?k); case k => exact rfl)
    | dsimp only [id]
    | split
    | ((with_reducible apply Only.upd ?_ ?h); case h => exact rfl)

theorem State.tableWrite_only {s : State} {f : Fn} {off size : Nat} {v : Word} : Only 0x1820011150 s (State.tableWrite s f off size v) := by
  unfold State.tableWrite
  repeat' first
    | with_reducible exact Only.refl _ _
    | ((with_reducible apply Only.step State.answer_only ?_ ?k); case k => exact rfl)
    | ((with_reducible apply Only.step State.writeMsix_only ?_ ?k); case k => exact rfl)
    | ((with_reducible apply State.front_only ?_ ?_ ?k); case k => exact rfl)
    | dsimp only [id]
    | split
    | ((with_reducible apply Only.upd ?_ ?h); case h => exact rfl)

theorem State.tableRead_only {s : State} {f : Fn} {off size : Nat} : Only 0x1020001000 s (State.tableRead s f off size) := by
  unfold State.tableRead
  repeat' first
    | with_reducible exact Only.refl _ _
    | ((with_reducible apply Only.step State.answer_only ?_ ?k); case k => exact rfl)
    | ((with_reducible apply State.front_only ?_ ?_ ?k); case k => exact rfl)
    | dsimp only [id]
    | split
    | ((with_reducible apply Only.upd ?_ ?h); case h => exact rfl)

theorem execMsixTableWrite_only {f : Fn} {off size : Nat} {v : Word} {s : State} :
    ∃ z, execMsixTableWrite f off size v s = .next z ∧ Only 0x1820011150 s z := by
  unfold execMsixTableWrite
  repeat' first
    | with_reducible refine ⟨_, rfl, ?_⟩
    | split
  repeat' first
    | with_reducible exact Only.refl _ _
    | ((with_reducible apply Only.step State.tableWrite_only ?_ ?k); case k => exact rfl)
    | dsimp only [id]
    | split
    | ((with_reducible apply Only.upd ?_ ?h); case h => exact rfl)

theorem execMsixControlWrite_only {f : Fn} {c : MsixCtl} {s : State} :
    ∃ z, execMsixControlWrite f c s = .next z ∧ Only 0x19620319D0 s z := by
  unfold execMsixControlWrite
  repeat' first
    | with_reducible refine ⟨_, rfl, ?_⟩
    | split
  repeat' first
    | with_reducible exact Only.refl _ _
    | ((with_reducible apply Only.step State.tableWrite_only ?_ ?k); case k => exact rfl)
    | ((with_reducible apply Only.step State.cfgRequest_only ?_ ?k); case k => exact rfl)
    | dsimp only [id]
    | split
    | ((with_reducible apply Only.upd ?_ ?h); case h => exact rfl)

theorem State.perst_only {s : State} : Only 0x20109F0 s (State.perst s) := by
  unfold State.perst
  repeat' first
    | with_reducible exact Only.refl _ _
    | ((with_reducible apply Only.step State.resetManager_only ?_ ?k); case k => exact rfl)
    | ((with_reducible apply Only.step State.syncVfs_only ?_ ?k); case k => exact rfl)
    | dsimp only [id]
    | split
    | ((with_reducible apply Only.upd ?_ ?h); case h => exact rfl)

theorem execPerstNDeassert_only {s : State} : ∃ z, execPerstNDeassert s = .next z ∧ Only 0x2 s z := by
  unfold execPerstNDeassert
  repeat' first
    | with_reducible refine ⟨_, rfl, ?_⟩
    | split
  repeat' first
    | with_reducible exact Only.refl _ _
    | dsimp only [id]
    | split
    | ((with_reducible apply Only.upd ?_ ?h); case h => exact rfl)

theorem execHostLinkUp_only {u : LinkUp} {s : State} : ∃ z, execHostLinkUp u s = .next z ∧ Only 0x1820011130 s z := by
  unfold execHostLinkUp
  repeat' first
    | with_reducible refine ⟨_, rfl, ?_⟩
    | split
  repeat' first
    | with_reducible exact Only.refl _ _
    | ((with_reducible apply Only.step State.releaseAll_only ?_ ?k); case k => exact rfl)
    | ((with_reducible apply Only.step State.modFn_only ?_ ?k); case k => exact rfl)
    | ((with_reducible apply Only.step State.releaseHeld_only ?_ ?k); case k => exact rfl)
    | ((with_reducible apply Only.trans ?_ (State.cfgAccess_only (fun _ => ?_) ?k)); case k => exact rfl)
    | dsimp only [id]
    | split
    | ((with_reducible apply Only.upd ?_ ?h); case h => exact rfl)

theorem State.measure_only {s : State} {o : Int} : Only 0x2000000200 s (State.measure s o) := by
  unfold State.measure
  try dsimp only
  repeat' first
    | with_reducible exact Only.refl _ _
    | dsimp only [id]
    | split
    | ((with_reducible apply Only.upd ?_ ?h); case h => exact rfl)

theorem execPtmDialogue_only {s : State} : ∃ z, execPtmDialogue s = .next z ∧ Only 0x800000200 s z := by
  unfold execPtmDialogue
  try dsimp only
  repeat' first
    | with_reducible refine ⟨_, rfl, ?_⟩
    | split
  repeat' first
    | with_reducible exact Only.refl _ _
    | ((with_reducible apply Only.step State.emitOut_only ?_ ?k); case k => exact rfl)
    | dsimp only [id]
    | split
    | ((with_reducible apply Only.upd ?_ ?h); case h => exact rfl)

theorem execPtmResponse_only {master : Word} {s : State} : ∃ z, execPtmResponse master s = .next z ∧ Only 0x2000000200 s z := by
  unfold execPtmResponse
  try dsimp only
  repeat' first
    | with_reducible refine ⟨_, rfl, ?_⟩
    | split
  repeat' first
    | with_reducible exact Only.refl _ _
    | ((with_reducible apply Only.step State.measure_only ?_ ?k); case k => exact rfl)
    | dsimp only [id]
    | split
    | ((with_reducible apply Only.upd ?_ ?h); case h => exact rfl)

theorem execPtmDialogueFail_only {s : State} : ∃ z, execPtmDialogueFail s = .next z ∧ Only 0x200 s z := by
  unfold execPtmDialogueFail
  try dsimp only
  repeat' first
    | with_reducible refine ⟨_, rfl, ?_⟩
    | split
  repeat' first
    | with_reducible exact Only.refl _ _
    | dsimp only [id]
    | split
    | ((with_reducible apply Only.upd ?_ ?h); case h => exact rfl)

theorem State.ppsInEdge_only {s : State} {falling : Bool} : Only 0x2000000200 s (State.ppsInEdge s falling) := by
  unfold State.ppsInEdge
  try dsimp only
  repeat' first
    | with_reducible exact Only.refl _ _
    | ((with_reducible apply Only.step State.measure_only ?_ ?k); case k => exact rfl)
    | dsimp only [id]
    | split
    | ((with_reducible apply Only.upd ?_ ?h); case h => exact rfl)

theorem execDisciplineHoldover_only {s : State} : ∃ z, execDisciplineHoldover s = .next z ∧ Only 0x200 s z := by
  unfold execDisciplineHoldover
  repeat' first
    | with_reducible refine ⟨_, rfl, ?_⟩
    | split
  repeat' first
    | with_reducible exact Only.refl _ _
    | dsimp only [id]
    | split
    | ((with_reducible apply Only.upd ?_ ?h); case h => exact rfl)

theorem execPpsOutPulse_only {s : State} : ∃ z, execPpsOutPulse s = .next z ∧ Only 0x2 s z := by
  unfold execPpsOutPulse
  repeat' first
    | with_reducible refine ⟨_, rfl, ?_⟩
    | split
  repeat' first
    | with_reducible exact Only.refl _ _
    | dsimp only [id]
    | split
    | ((with_reducible apply Only.upd ?_ ?h); case h => exact rfl)

theorem execPpsOutPulseEnd_only {s : State} : ∃ z, execPpsOutPulseEnd s = .next z ∧ Only 0x2 s z := by
  unfold execPpsOutPulseEnd
  repeat' first
    | with_reducible refine ⟨_, rfl, ?_⟩
    | split
  repeat' first
    | with_reducible exact Only.refl _ _
    | dsimp only [id]
    | split
    | ((with_reducible apply Only.upd ?_ ?h); case h => exact rfl)

theorem State.latchTime_only {s : State} {f : Fn} : Only 0x10010 s (State.latchTime s f) := by
  unfold State.latchTime
  repeat' first
    | with_reducible exact Only.refl _ _
    | ((with_reducible apply Only.step State.modFn_only ?_ ?k); case k => exact rfl)
    | dsimp only [id]
    | split
    | ((with_reducible apply Only.upd ?_ ?h); case h => exact rfl)

theorem State.timeTake_only {s : State} {f : Fn} {r : RdHalf} : Only 0x1000010010 s (State.timeTake s f r) := by
  unfold State.timeTake
  repeat' first
    | with_reducible exact Only.refl _ _
    | ((with_reducible apply Only.step State.answer_only ?_ ?k); case k => exact rfl)
    | ((with_reducible apply Only.step State.dropLatch_only ?_ ?k); case k => exact rfl)
    | ((with_reducible apply Only.step State.latchTime_only ?_ ?k); case k => exact rfl)
    | dsimp only [id]
    | split
    | ((with_reducible apply Only.upd ?_ ?h); case h => exact rfl)

theorem State.timeRead_only {s : State} {f : Fn} {r : RdHalf} : Only 0x1020011010 s (State.timeRead s f r) := by
  unfold State.timeRead
  repeat' first
    | with_reducible exact Only.refl _ _
    | ((with_reducible apply Only.step State.timeTake_only ?_ ?k); case k => exact rfl)
    | ((with_reducible apply State.front_only ?_ ?_ ?k); case k => exact rfl)
    | dsimp only [id]
    | split
    | ((with_reducible apply Only.upd ?_ ?h); case h => exact rfl)

theorem execGblTimeLowRead_only {r : TimeRead} {s : State} : ∃ z, execGblTimeLowRead r s = .next z ∧ Only 0x1020011010 s z := by
  unfold execGblTimeLowRead
  repeat' first
    | with_reducible refine ⟨_, rfl, ?_⟩
    | split
  repeat' first
    | with_reducible exact Only.refl _ _
    | ((with_reducible apply Only.step State.timeRead_only ?_ ?k); case k => exact rfl)
    | dsimp only [id]
    | split
    | ((with_reducible apply Only.upd ?_ ?h); case h => exact rfl)

theorem State.writeTimeStep_only {v : Word} {s : State} : Only 0x10240 s (State.writeTimeStep v s) := by
  unfold State.writeTimeStep
  repeat' first
    | with_reducible exact Only.refl _ _
    | ((with_reducible apply Only.step State.refuseWrite_only ?_ ?k); case k => exact rfl)
    | dsimp only [id]
    | split
    | ((with_reducible apply Only.upd ?_ ?h); case h => exact rfl)

theorem execGblTimeStep_only {a : WrAcc} {v : Word} {s : State} : ∃ z, execGblTimeStep a v s = .next z ∧ Only 0x1020011250 s z := by
  unfold execGblTimeStep
  repeat' first
    | with_reducible refine ⟨_, rfl, ?_⟩
    | split
  repeat' first
    | with_reducible exact Only.refl _ _
    | ((with_reducible apply Only.trans ?_ (State.regWrite_only (fun _ _ => ?_) ?k)); case k => exact rfl)
    | ((with_reducible apply Only.step State.writeTimeStep_only ?_ ?k); case k => exact rfl)
    | dsimp only [id]
    | split
    | ((with_reducible apply Only.upd ?_ ?h); case h => exact rfl)

theorem State.writeTimeCtl_only {v : Word} {s : State} : Only 0x200 s (State.writeTimeCtl v s) := by
  unfold State.writeTimeCtl
  repeat' first
    | with_reducible exact Only.refl _ _
    | dsimp only [id]
    | split
    | ((with_reducible apply Only.upd ?_ ?h); case h => exact rfl)

theorem State.applyStep_only {s : State} : Only 0x10300 s (State.applyStep s) := by
  unfold State.applyStep
  try dsimp only
  repeat' first
    | with_reducible exact Only.refl _ _
    | ((with_reducible apply Only.step State.notice_only ?_ ?k); case k => exact rfl)
    | with_reducible apply Only.foldl ?_ (fun _ _ => ?_)
    | dsimp only [id]
    | split
    | ((with_reducible apply Only.upd ?_ ?h); case h => exact rfl)

theorem State.modSluice_only {s : State} {p : PortId} {f : SluicePort → SluicePort} : Only 0x2000 s (State.modSluice s p f) := by
  unfold State.modSluice
  repeat' first
    | with_reducible exact Only.refl _ _
    | dsimp only [id]
    | split
    | ((with_reducible apply Only.upd ?_ ?h); case h => exact rfl)

theorem State.countGateMiss_only {s : State} {p : PortId} : Only 0x2000 s (State.countGateMiss s p) := by
  unfold State.countGateMiss
  repeat' first
    | with_reducible exact Only.refl _ _
    | ((with_reducible apply Only.step State.modSluice_only ?_ ?k); case k => exact rfl)
    | dsimp only [id]
    | split
    | ((with_reducible apply Only.upd ?_ ?h); case h => exact rfl)

theorem State.countEnergyMiss_only {s : State} : Only 0x4000 s (State.countEnergyMiss s) := by
  unfold State.countEnergyMiss
  repeat' first
    | with_reducible exact Only.refl _ _
    | dsimp only [id]
    | split
    | ((with_reducible apply Only.upd ?_ ?h); case h => exact rfl)

theorem State.tickPolicing_only {s : State} {n : Nat} : Only 0x10000 s (State.tickPolicing s n) := by
  unfold State.tickPolicing
  repeat' first
    | with_reducible exact Only.refl _ _
    | dsimp only [id]
    | split
    | ((with_reducible apply Only.upd ?_ ?h); case h => exact rfl)

theorem execPolicingTick_only {s : State} : ∃ z, execPolicingTick s = .next z ∧ Only 0x10000 s z := by
  unfold execPolicingTick
  repeat' first
    | with_reducible refine ⟨_, rfl, ?_⟩
    | split
  repeat' first
    | with_reducible exact Only.refl _ _
    | ((with_reducible apply Only.step State.tickPolicing_only ?_ ?k); case k => exact rfl)
    | dsimp only [id]
    | split
    | ((with_reducible apply Only.upd ?_ ?h); case h => exact rfl)

theorem execEnergyTick_only {s : State} : ∃ z, execEnergyTick s = .next z ∧ Only 0x4000 s z := by
  unfold execEnergyTick
  repeat' first
    | with_reducible refine ⟨_, rfl, ?_⟩
    | split
  repeat' first
    | with_reducible exact Only.refl _ _
    | dsimp only [id]
    | split
    | ((with_reducible apply Only.upd ?_ ?h); case h => exact rfl)

theorem State.chargeEnergy_only {s : State} {pj : Nat} : Only 0x4000 s (s.chargeEnergy pj) := by
  unfold State.chargeEnergy
  split
  · apply Only.of <;> intro h <;> first | exact absurd h (by decide) | rfl
  · exact Only.refl _ _

end Sys2Proof.Machine
end

