-- ==== Sys2Proof/Laws/OnlyUsb.lean ====
section
/-! SUPPORT. The frames of scheduling, transactions, sealing, Peat and the orders. -/

namespace Sys2Proof.Machine

theorem State.modSide_only {s : State} {p : PortId} {ss : Bool} {g : Side → Side} : Only 0x80000 s (State.modSide s p ss g) := by
  unfold State.modSide
  repeat' first
    | with_reducible exact Only.refl _ _
    | ((with_reducible apply Only.step State.modPort_only ?_ ?k); case k => exact rfl)
    | dsimp only [id]
    | split
    | ((with_reducible apply Only.upd ?_ ?h); case h => exact rfl)

theorem State.syncSide_only {s : State} {p : PortId} {ss : Bool} : Only 0x80000 s (State.syncSide s p ss) := by
  unfold State.syncSide
  try dsimp only
  repeat' first
    | with_reducible exact Only.refl _ _
    | ((with_reducible apply Only.step State.modSide_only ?_ ?k); case k => exact rfl)
    | dsimp only [id]
    | split
    | ((with_reducible apply Only.upd ?_ ?h); case h => exact rfl)

theorem State.beginRounds_only {s : State} {p : PortId} {ss : Bool} : Only 0x80000 s (State.beginRounds s p ss) := by
  unfold State.beginRounds
  try dsimp only
  repeat' first
    | with_reducible exact Only.refl _ _
    | ((with_reducible apply Only.step State.modSide_only ?_ ?k); case k => exact rfl)
    | with_reducible apply Only.foldl ?_ (fun _ _ => ?_)
    | dsimp only [id]
    | split
    | ((with_reducible apply Only.upd ?_ ?h); case h => exact rfl)

theorem State.settleDrr_only {s : State} : Only 0x80000 s (State.settleDrr s) := by
  unfold State.settleDrr
  try dsimp only
  repeat' first
    | with_reducible exact Only.refl _ _
    | ((with_reducible apply Only.step State.syncSide_only ?_ ?k); case k => exact rfl)
    | ((with_reducible apply Only.step State.beginRounds_only ?_ ?k); case k => exact rfl)
    | with_reducible apply Only.foldl ?_ (fun _ _ => ?_)
    | dsimp only [id]
    | split
    | ((with_reducible apply Only.upd ?_ ?h); case h => exact rfl)

theorem State.reserveEp_only {s x : State} {t : TenantId} {d : Dev} {e : EpDesc} {r : Option Resv} (h : s.reserveEp t d e = (r, x)) :
    Only 0x400 s x := by
  unfold State.reserveEp at h
  dsimp only at h
  split at h <;> cases h
  · exact Only.refl _ _
  repeat' first
    | with_reducible exact Only.refl _ _
    | with_reducible apply Only.foldl ?_ (fun _ _ => ?_)
    | dsimp only [id]
    | split
    | ((with_reducible apply Only.upd ?_ ?h); case h => exact rfl)

theorem State.modList_only {s : State} {l : Nat} {g : List Nat → List Nat} : Only 0x800 s (State.modList s l g) := by
  unfold State.modList
  repeat' first
    | with_reducible exact Only.refl _ _
    | dsimp only [id]
    | split
    | ((with_reducible apply Only.upd ?_ ?h); case h => exact rfl)

theorem State.listTask_only {s : State} {task : Nat} : Only 0x800 s (State.listTask s task) := by
  unfold State.listTask
  repeat' first
    | with_reducible exact Only.refl _ _
    | ((with_reducible apply Only.step State.modList_only ?_ ?k); case k => exact rfl)
    | dsimp only [id]
    | split
    | ((with_reducible apply Only.upd ?_ ?h); case h => exact rfl)

theorem State.dropLists_only {s : State} : Only 0x800 s (State.dropLists s) := by
  unfold State.dropLists
  repeat' first
    | with_reducible exact Only.refl _ _
    | ((with_reducible apply Only.step State.modList_only ?_ ?k); case k => exact rfl)
    | with_reducible apply Only.foldl ?_ (fun _ _ => ?_)
    | dsimp only [id]
    | split
    | ((with_reducible apply Only.upd ?_ ?h); case h => exact rfl)

theorem State.releaseOne_only {s : State} : Only 0x800 s (State.releaseOne s) := by
  unfold State.releaseOne
  repeat' first
    | with_reducible exact Only.refl _ _
    | ((with_reducible apply Only.step State.listTask_only ?_ ?k); case k => exact rfl)
    | ((with_reducible apply Only.step State.addWork_only ?_ ?k); case k => exact rfl)
    | dsimp only [id]
    | split
    | ((with_reducible apply Only.upd ?_ ?h); case h => exact rfl)

theorem State.refreshLists_only {s : State} : Only 0x800 s (State.refreshLists s) := by
  unfold State.refreshLists
  repeat' first
    | with_reducible exact Only.refl _ _
    | ((with_reducible apply Only.step State.listTask_only ?_ ?k); case k => exact rfl)
    | ((with_reducible apply Only.step State.releaseOne_only ?_ ?k); case k => exact rfl)
    | ((with_reducible apply Only.step State.dropLists_only ?_ ?k); case k => exact rfl)
    | with_reducible apply Only.foldl ?_ (fun _ _ => ?_)
    | dsimp only [id]
    | split
    | ((with_reducible apply Only.upd ?_ ?h); case h => exact rfl)

theorem State.traceDefers_only {s : State} : Only 0x1800 s (State.traceDefers s) := by
  unfold State.traceDefers
  try dsimp only
  repeat' first
    | with_reducible exact Only.refl _ _
    | ((with_reducible apply Only.step State.traceRec_only ?_ ?k); case k => exact rfl)
    | with_reducible apply Only.foldl ?_ (fun _ _ => ?_)
    | dsimp only [id]
    | split
    | ((with_reducible apply Only.upd ?_ ?h); case h => exact rfl)

theorem State.putOp_only {s : State} {at_ : SlotAt} {o : Op} : Only 0x800 s (State.putOp s at_ o) := by
  unfold State.putOp
  repeat' first
    | with_reducible exact Only.refl _ _
    | ((with_reducible apply Only.step State.modCore_only ?_ ?k); case k => exact rfl)
    | ((with_reducible apply Only.step State.modWorker_only ?_ ?k); case k => exact rfl)
    | dsimp only [id]
    | split
    | ((with_reducible apply Only.upd ?_ ?h); case h => exact rfl)

theorem State.markOp_only {s : State} {o : Op} {on : Bool} : Only 0x90100 s (State.markOp s o on) := by
  unfold State.markOp
  try dsimp only
  repeat' first
    | with_reducible exact Only.refl _ _
    | ((with_reducible apply Only.step State.modRings_only ?_ ?k); case k => exact rfl)
    | ((with_reducible apply Only.step State.modSide_only ?_ ?k); case k => exact rfl)
    | ((with_reducible apply Only.step State.modOrder_only ?_ ?k); case k => exact rfl)
    | dsimp only [id]
    | split
    | ((with_reducible apply Only.upd ?_ ?h); case h => exact rfl)

theorem State.noteOp_only {s : State} {o : Op} : Only 0x90100 s (State.noteOp s o) := by
  unfold State.noteOp
  repeat' first
    | with_reducible exact Only.refl _ _
    | ((with_reducible apply Only.step State.markOp_only ?_ ?k); case k => exact rfl)
    | dsimp only [id]
    | split
    | ((with_reducible apply Only.upd ?_ ?h); case h => exact rfl)

theorem State.crossOp_only {s : State} {at_ : SlotAt} : Only 0x20001000 s (State.crossOp s at_) := by
  unfold State.crossOp
  repeat' first
    | with_reducible exact Only.refl _ _
    | ((with_reducible apply State.passOp_only ?_ ?_ ?k); case k => exact rfl)
    | dsimp only [id]
    | split
    | ((with_reducible apply Only.upd ?_ ?h); case h => exact rfl)

theorem State.place_only {s : State} {at_ : SlotAt} {o : Op} : Only 0x20091900 s (State.place s at_ o) := by
  unfold State.place
  try dsimp only
  repeat' first
    | with_reducible exact Only.refl _ _
    | ((with_reducible apply Only.step State.noteOp_only ?_ ?k); case k => exact rfl)
    | ((with_reducible apply Only.step State.putOp_only ?_ ?k); case k => exact rfl)
    | ((with_reducible apply Only.step State.crossOp_only ?_ ?k); case k => exact rfl)
    | ((with_reducible apply Only.step State.traceRec_only ?_ ?k); case k => exact rfl)
    | dsimp only [id]
    | split
    | ((with_reducible apply Only.upd ?_ ?h); case h => exact rfl)

theorem State.takeWork_only {s : State} {z0 : Ready} : Only 0x800 s (State.takeWork s z0) := by
  unfold State.takeWork
  repeat' first
    | with_reducible exact Only.refl _ _
    | dsimp only [id]
    | split
    | ((with_reducible apply Only.upd ?_ ?h); case h => exact rfl)

theorem State.replace_only {s : State} {o : Op} {w : Nat} {a : SlotAt} : Only 0x20001800 s (State.replace s o w a) := by
  unfold State.replace
  try dsimp only
  repeat' first
    | with_reducible exact Only.refl _ _
    | ((with_reducible apply Only.step State.putOp_only ?_ ?k); case k => exact rfl)
    | ((with_reducible apply Only.step State.crossOp_only ?_ ?k); case k => exact rfl)
    | ((with_reducible apply Only.step State.traceRec_only ?_ ?k); case k => exact rfl)
    | dsimp only [id]
    | split
    | ((with_reducible apply Only.upd ?_ ?h); case h => exact rfl)

theorem State.placeFrom_only {s : State} {k : List Nat} : Only 0x20091900 s (State.placeFrom s k) := by
  induction k generalizing s with
  | nil => exact Only.refl _ _
  | cons l k ih =>
    unfold State.placeFrom
    repeat' first
      | with_reducible exact ih
      | with_reducible exact Only.refl _ _
      | ((with_reducible apply Only.step State.replace_only ?_ ?k); case k => exact rfl)
      | ((with_reducible apply Only.step State.modList_only ?_ ?k); case k => exact rfl)
      | ((with_reducible apply Only.step State.takeWork_only ?_ ?k); case k => exact rfl)
      | ((with_reducible apply Only.step State.place_only ?_ ?k); case k => exact rfl)
      | ((with_reducible apply Only.step State.listTask_only ?_ ?k); case k => exact rfl)
      | split

theorem State.erdys_only {s : State} : Only 0x2000020000 s (State.erdys s) := by
  unfold State.erdys
  try dsimp only [State.drawBool, State.drawRandom]
  repeat' first
    | with_reducible exact Only.refl _ _
    | ((with_reducible apply Only.step State.modFlow_only ?_ ?k); case k => exact rfl)
    | with_reducible apply Only.foldl ?_ (fun _ _ => ?_)
    | dsimp only [id]
    | split
    | ((with_reducible apply Only.upd ?_ ?h); case h => exact rfl)

theorem State.dispatch_only {s : State} : Only 0x20200B1900 s (State.dispatch s) := by
  unfold State.dispatch
  repeat' first
    | with_reducible exact Only.refl _ _
    | ((with_reducible apply Only.step State.traceDefers_only ?_ ?k); case k => exact rfl)
    | ((with_reducible apply Only.trans ?_ (State.cycle_only (fun _ => ?_) ?k)); case k => exact rfl)
    | ((with_reducible apply Only.step State.refreshLists_only ?_ ?k); case k => exact rfl)
    | ((with_reducible apply Only.step State.placeFrom_only ?_ ?k); case k => exact rfl)
    | ((with_reducible apply Only.step State.erdys_only ?_ ?k); case k => exact rfl)
    | ((with_reducible apply Only.step State.settleDrr_only ?_ ?k); case k => exact rfl)
    | dsimp only [id]
    | split
    | ((with_reducible apply Only.upd ?_ ?h); case h => exact rfl)

theorem execDispatch_only {s : State} : ∃ z, execDispatch s = .next z ∧ Only 0x20200B1900 s z := by
  unfold execDispatch
  repeat' first
    | with_reducible refine ⟨_, rfl, ?_⟩
    | split
  repeat' first
    | with_reducible exact Only.refl _ _
    | ((with_reducible apply Only.step State.rouse_only ?_ ?k); case k => exact rfl)
    | ((with_reducible apply Only.step State.refreshLists_only ?_ ?k); case k => exact rfl)
    | ((with_reducible apply Only.step State.dispatch_only ?_ ?k); case k => exact rfl)
    | dsimp only [id]
    | split
    | ((with_reducible apply Only.upd ?_ ?h); case h => exact rfl)

theorem State.noteFailure_only {s : State} {i : Identity} {t : TenantId} {h : Fin 1024} :
    Only 0x42000800 s (State.noteFailure s i t h) := by
  unfold State.noteFailure
  try dsimp only
  repeat' first
    | with_reducible exact Only.refl _ _
    | ((with_reducible apply Only.step State.queueRec_only ?_ ?k); case k => exact rfl)
    | dsimp only [id]
    | split
    | ((with_reducible apply Only.upd ?_ ?h); case h => exact rfl)

theorem State.dropFailures_only {s : State} : Only 0x2000000 s (State.dropFailures s) := by
  unfold State.dropFailures
  repeat' first
    | with_reducible exact Only.refl _ _
    | dsimp only [id]
    | split
    | ((with_reducible apply Only.upd ?_ ?h); case h => exact rfl)

theorem State.quarantine_only {s : State} {i : Identity} : Only 0x142030900 s (State.quarantine s i) := by
  unfold State.quarantine
  try dsimp only
  repeat' first
    | with_reducible exact Only.refl _ _
    | ((with_reducible apply Only.step State.logEvent_only ?_ ?k); case k => exact rfl)
    | ((with_reducible apply Only.step State.notice_only ?_ ?k); case k => exact rfl)
    | ((with_reducible apply Only.step State.tearDownAll_only ?_ ?k); case k => exact rfl)
    | dsimp only [id]
    | split
    | ((with_reducible apply Only.upd ?_ ?h); case h => exact rfl)

theorem State.lastFail_only {s : State} {t : TenantId} {h : Fin 1024} {detail : Nat} : Only 0x2000000 s (State.lastFail s t h detail) := by
  unfold State.lastFail
  try dsimp only
  repeat' first
    | with_reducible exact Only.refl _ _
    | dsimp only [id]
    | split
    | ((with_reducible apply Only.upd ?_ ?h); case h => exact rfl)

theorem State.endSeal_only {s : State} {t : TenantId} {h : Fin 1024} {st : Status} {detail : Nat} :
    Only 0x10100 s (State.endSeal s t h st detail) := by
  unfold State.endSeal
  repeat' first
    | with_reducible exact Only.refl _ _
    | ((with_reducible apply Only.step State.endOrder_only ?_ ?k); case k => exact rfl)
    | dsimp only [id]
    | split
    | ((with_reducible apply Only.upd ?_ ?h); case h => exact rfl)

theorem State.countFail_only {s : State} {t : TenantId} {h : Fin 1024} {detail : Nat} :
    Only 0x2000800 s (State.countFail s t h detail) := by
  unfold State.countFail
  try dsimp only
  repeat' first
    | with_reducible exact Only.refl _ _
    | ((with_reducible apply Only.step State.lastFail_only ?_ ?k); case k => exact rfl)
    | ((with_reducible apply Only.step State.dropHs_only ?_ ?k); case k => exact rfl)
    | dsimp only [id]
    | split
    | ((with_reducible apply Only.upd ?_ ?h); case h => exact rfl)

theorem State.failSeal_only {s : State} {t : TenantId} {h : Fin 1024} {detail : Nat} :
    Only 0x142030900 s (State.failSeal s t h detail) := by
  unfold State.failSeal
  try dsimp only
  repeat' first
    | with_reducible exact Only.refl _ _
    | ((with_reducible apply Only.step State.takePipes_only ?_ ?k); case k => exact rfl)
    | ((with_reducible apply Only.step State.tearDown_only ?_ ?k); case k => exact rfl)
    | ((with_reducible apply Only.step State.countFail_only ?_ ?k); case k => exact rfl)
    | ((with_reducible apply Only.step State.endSeal_only ?_ ?k); case k => exact rfl)
    | ((with_reducible apply Only.step State.noteFailure_only ?_ ?k); case k => exact rfl)
    | dsimp only [id]
    | split
    | ((with_reducible apply Only.upd ?_ ?h); case h => exact rfl)

theorem State.beginHs_only {s : State} {x : Handshake} : Only 0x2000000 s (State.beginHs s x) := by
  unfold State.beginHs
  repeat' first
    | with_reducible exact Only.refl _ _
    | dsimp only [id]
    | split
    | ((with_reducible apply Only.upd ?_ ?h); case h => exact rfl)

theorem execSealPipe_only {t : TenantId} {k : Nat} {s : State} : ∃ z, execSealPipe t k s = .next z ∧ Only 0x142030900 s z := by
  unfold execSealPipe
  try dsimp only
  repeat' first
    | with_reducible refine ⟨_, rfl, ?_⟩
    | split
  repeat' first
    | with_reducible exact Only.refl _ _
    | ((with_reducible apply Only.step State.beginHs_only ?_ ?k); case k => exact rfl)
    | ((with_reducible apply Only.step State.takePipes_only ?_ ?k); case k => exact rfl)
    | ((with_reducible apply State.withOrder_only ?_ (fun _ => ?_) ?k); case k => exact rfl)
    | ((with_reducible apply Only.step State.waitOrder_only ?_ ?k); case k => exact rfl)
    | ((with_reducible apply Only.step State.failSeal_only ?_ ?k); case k => exact rfl)
    | ((with_reducible apply Only.step State.endOrder_only ?_ ?k); case k => exact rfl)
    | dsimp only [id]
    | split
    | ((with_reducible apply Only.upd ?_ ?h); case h => exact rfl)

theorem State.wantArith_only {s : State} {x : Handshake} : Only 0x800 s (State.wantArith s x) := by
  unfold State.wantArith
  repeat' first
    | with_reducible exact Only.refl _ _
    | ((with_reducible apply Only.step State.wantItem_only ?_ ?k); case k => exact rfl)
    | dsimp only [id]
    | split
    | ((with_reducible apply Only.upd ?_ ?h); case h => exact rfl)

theorem State.withHs_only {s : State} {t : TenantId} {h : Fin 1024} {step : HsStep} {act : Handshake → Flow → State} {z : State} {m : Nat} (a :
    Only m z s) (hact : ∀ y0 y1, Only m z (act y0 y1)) (hk : 0x0 ||| m = m) :
    Only m z (State.withHs s t h step act) := by
  unfold State.withHs
  try dsimp only
  repeat' first
    | with_reducible exact Only.refl _ _
    | with_reducible exact hact _ _
    | with_reducible assumption
    | dsimp only [id]
    | split
    | ((with_reducible apply Only.updMono (m := 0x0) ?_ ?h ?k); (case h => exact rfl); case k => exact mask_sub rfl hk)

theorem execHello_only {t : TenantId} {h : Fin 1024} {r : ReqEnd} {m : HelloMsg} {s : State} :
    ∃ z, execHello t h r m s = .next z ∧ Only 0x142030900 s z := by
  unfold execHello
  try dsimp only
  repeat' first
    | with_reducible refine ⟨_, rfl, ?_⟩
    | split
  repeat' first
    | with_reducible exact Only.refl _ _
    | ((with_reducible apply Only.trans ?_ (State.endReq_only (fun _ _ => ?_) ?k)); case k => exact rfl)
    | ((with_reducible apply Only.step State.failSeal_only ?_ ?k); case k => exact rfl)
    | ((with_reducible apply Only.step State.modHs_only ?_ ?k); case k => exact rfl)
    | ((with_reducible apply Only.step State.wantArith_only ?_ ?k); case k => exact rfl)
    | ((with_reducible apply State.withHs_only ?_ (fun _ _ => ?_) ?k); case k => exact rfl)
    | dsimp only [id]
    | split
    | ((with_reducible apply Only.upd ?_ ?h); case h => exact rfl)

theorem State.arithHello_only {s : State} {t : TenantId} {h : Fin 1024} : Only 0x2142030900 s (State.arithHello s t h) := by
  unfold State.arithHello
  try dsimp only [State.drawBool, State.drawRandom]
  repeat' first
    | with_reducible exact Only.refl _ _
    | ((with_reducible apply Only.step State.failSeal_only ?_ ?k); case k => exact rfl)
    | ((with_reducible apply Only.step State.hsRequest_only ?_ ?k); case k => exact rfl)
    | ((with_reducible apply Only.step State.modHs_only ?_ ?k); case k => exact rfl)
    | ((with_reducible apply State.withHs_only ?_ (fun _ _ => ?_) ?k); case k => exact rfl)
    | ((with_reducible apply Only.step State.notice_only ?_ ?k); case k => exact rfl)
    | dsimp only [id]
    | split
    | ((with_reducible apply Only.upd ?_ ?h); case h => exact rfl)

theorem execKeyShare_only {t : TenantId} {h : Fin 1024} {r : ReqEnd} {s : State} :
    ∃ z, execKeyShare t h r s = .next z ∧ Only 0x142030900 s z := by
  unfold execKeyShare
  repeat' first
    | with_reducible refine ⟨_, rfl, ?_⟩
    | split
  repeat' first
    | with_reducible exact Only.refl _ _
    | ((with_reducible apply Only.trans ?_ (State.endReq_only (fun _ _ => ?_) ?k)); case k => exact rfl)
    | ((with_reducible apply Only.step State.failSeal_only ?_ ?k); case k => exact rfl)
    | ((with_reducible apply Only.step State.hsRequest_only ?_ ?k); case k => exact rfl)
    | ((with_reducible apply Only.step State.modHs_only ?_ ?k); case k => exact rfl)
    | ((with_reducible apply State.withHs_only ?_ (fun _ _ => ?_) ?k); case k => exact rfl)
    | dsimp only [id]
    | split
    | ((with_reducible apply Only.upd ?_ ?h); case h => exact rfl)

theorem execConfirm_only {t : TenantId} {h : Fin 1024} {r : ReqEnd} {message : List Byte} {s : State} :
    ∃ z, execConfirm t h r message s = .next z ∧ Only 0x142030900 s z := by
  unfold execConfirm
  repeat' first
    | with_reducible refine ⟨_, rfl, ?_⟩
    | split
  repeat' first
    | with_reducible exact Only.refl _ _
    | ((with_reducible apply Only.trans ?_ (State.endReq_only (fun _ _ => ?_) ?k)); case k => exact rfl)
    | ((with_reducible apply Only.step State.failSeal_only ?_ ?k); case k => exact rfl)
    | ((with_reducible apply Only.step State.modHs_only ?_ ?k); case k => exact rfl)
    | ((with_reducible apply Only.step State.wantArith_only ?_ ?k); case k => exact rfl)
    | ((with_reducible apply State.withHs_only ?_ (fun _ _ => ?_) ?k); case k => exact rfl)
    | dsimp only [id]
    | split
    | ((with_reducible apply Only.upd ?_ ?h); case h => exact rfl)

theorem State.arithVerify_only {s : State} {t : TenantId} {h : Fin 1024} : Only 0x142030900 s (State.arithVerify s t h) := by
  unfold State.arithVerify
  try dsimp only
  repeat' first
    | with_reducible exact Only.refl _ _
    | ((with_reducible apply Only.step State.failSeal_only ?_ ?k); case k => exact rfl)
    | ((with_reducible apply Only.step State.hsRequest_only ?_ ?k); case k => exact rfl)
    | ((with_reducible apply Only.step State.modHs_only ?_ ?k); case k => exact rfl)
    | ((with_reducible apply State.withHs_only ?_ (fun _ _ => ?_) ?k); case k => exact rfl)
    | dsimp only [id]
    | split
    | ((with_reducible apply Only.upd ?_ ?h); case h => exact rfl)

theorem State.arithHandshake_only {s : State} {t : TenantId} {h : Fin 1024} : Only 0x2142030900 s (State.arithHandshake s t h) := by
  unfold State.arithHandshake
  repeat' first
    | with_reducible exact Only.refl _ _
    | ((with_reducible apply Only.step State.arithHello_only ?_ ?k); case k => exact rfl)
    | ((with_reducible apply Only.step State.arithVerify_only ?_ ?k); case k => exact rfl)
    | dsimp only [id]
    | split
    | ((with_reducible apply Only.upd ?_ ?h); case h => exact rfl)

theorem State.wheelRekey_only {s : State} {t : TenantId} {h : Fin 1024} : Only 0x800 s (State.wheelRekey s t h) := by
  unfold State.wheelRekey
  repeat' first
    | with_reducible exact Only.refl _ _
    | ((with_reducible apply Only.step State.setDelay_only ?_ ?k); case k => exact rfl)
    | dsimp only [id]
    | split
    | ((with_reducible apply Only.upd ?_ ?h); case h => exact rfl)

theorem State.installKey_only {s : State} {x : Handshake} : Only 0x2030900 s (State.installKey s x) := by
  unfold State.installKey
  try dsimp only
  repeat' first
    | with_reducible exact Only.refl _ _
    | ((with_reducible apply Only.step State.takePipes_only ?_ ?k); case k => exact rfl)
    | ((with_reducible apply Only.step State.wheelRekey_only ?_ ?k); case k => exact rfl)
    | ((with_reducible apply Only.step State.modFlow_only ?_ ?k); case k => exact rfl)
    | ((with_reducible apply Only.step State.endSeal_only ?_ ?k); case k => exact rfl)
    | ((with_reducible apply Only.step State.dropHs_only ?_ ?k); case k => exact rfl)
    | ((with_reducible apply Only.step State.notice_only ?_ ?k); case k => exact rfl)
    | dsimp only [id]
    | split
    | ((with_reducible apply Only.upd ?_ ?h); case h => exact rfl)

theorem execFinish_only {t : TenantId} {h : Fin 1024} {r : ReqEnd} {s : State} :
    ∃ z, execFinish t h r s = .next z ∧ Only 0x142030900 s z := by
  unfold execFinish
  repeat' first
    | with_reducible refine ⟨_, rfl, ?_⟩
    | split
  repeat' first
    | with_reducible exact Only.refl _ _
    | ((with_reducible apply Only.trans ?_ (State.endReq_only (fun _ _ => ?_) ?k)); case k => exact rfl)
    | ((with_reducible apply Only.step State.failSeal_only ?_ ?k); case k => exact rfl)
    | ((with_reducible apply Only.step State.modHs_only ?_ ?k); case k => exact rfl)
    | ((with_reducible apply State.withHs_only ?_ (fun _ _ => ?_) ?k); case k => exact rfl)
    | ((with_reducible apply Only.step State.queueRec_only ?_ ?k); case k => exact rfl)
    | ((with_reducible apply Only.step State.installKey_only ?_ ?k); case k => exact rfl)
    | dsimp only [id]
    | split
    | ((with_reducible apply Only.upd ?_ ?h); case h => exact rfl)

theorem State.pinCommitted_only {s : State} {i : Identity} {old : Option (BitVec 256)} {leaf : BitVec 256} :
    Only 0x142030900 s (State.pinCommitted s i old leaf) := by
  unfold State.pinCommitted
  try dsimp only
  repeat' first
    | with_reducible exact Only.refl _ _
    | ((with_reducible apply Only.step State.installKey_only ?_ ?k); case k => exact rfl)
    | ((with_reducible apply Only.step State.logEvent_only ?_ ?k); case k => exact rfl)
    | with_reducible apply Only.foldl ?_ (fun _ _ => ?_)
    | dsimp only [id]
    | split
    | ((with_reducible apply Only.upd ?_ ?h); case h => exact rfl)

theorem State.startRekey_only {s : State} {t : TenantId} {h : Fin 1024} : Only 0x142030900 s (State.startRekey s t h) := by
  unfold State.startRekey
  try dsimp only
  repeat' first
    | with_reducible exact Only.refl _ _
    | ((with_reducible apply Only.step State.beginHs_only ?_ ?k); case k => exact rfl)
    | ((with_reducible apply Only.step State.takePipes_only ?_ ?k); case k => exact rfl)
    | ((with_reducible apply Only.step State.failSeal_only ?_ ?k); case k => exact rfl)
    | dsimp only [id]
    | split
    | ((with_reducible apply Only.upd ?_ ?h); case h => exact rfl)

theorem State.nextEpoch_only {s : State} {t : TenantId} {h : Fin 1024} : Only 0x30900 s (State.nextEpoch s t h) := by
  unfold State.nextEpoch
  repeat' first
    | with_reducible exact Only.refl _ _
    | ((with_reducible apply Only.step State.wheelRekey_only ?_ ?k); case k => exact rfl)
    | ((with_reducible apply Only.step State.modFlow_only ?_ ?k); case k => exact rfl)
    | ((with_reducible apply Only.step State.notice_only ?_ ?k); case k => exact rfl)
    | dsimp only [id]
    | split
    | ((with_reducible apply Only.upd ?_ ?h); case h => exact rfl)

theorem execRekey_only {t : TenantId} {h : Fin 1024} {r : ReqEnd} {s : State} : ∃ z, execRekey t h r s = .next z ∧ Only 0x20800 s z := by
  unfold execRekey
  repeat' first
    | with_reducible refine ⟨_, rfl, ?_⟩
    | split
  repeat' first
    | with_reducible exact Only.refl _ _
    | ((with_reducible apply Only.trans ?_ (State.endReq_only (fun _ _ => ?_) ?k)); case k => exact rfl)
    | ((with_reducible apply Only.step State.modFlow_only ?_ ?k); case k => exact rfl)
    | dsimp only [id]
    | split
    | ((with_reducible apply Only.upd ?_ ?h); case h => exact rfl)

theorem execTeardown_only {d : DevId} {r : ReqEnd} {s : State} : ∃ z, execTeardown d r s = .next z ∧ Only 0x800 s z := by
  unfold execTeardown
  repeat' first
    | with_reducible refine ⟨_, rfl, ?_⟩
    | split
  repeat' first
    | with_reducible exact Only.refl _ _
    | ((with_reducible apply Only.trans ?_ (State.endReq_only (fun _ _ => ?_) ?k)); case k => exact rfl)
    | dsimp only [id]
    | split
    | ((with_reducible apply Only.upd ?_ ?h); case h => exact rfl)

theorem execUnsealPipe_only {t : TenantId} {k : Nat} {s : State} : ∃ z, execUnsealPipe t k s = .next z ∧ Only 0x142030900 s z := by
  unfold execUnsealPipe
  try dsimp only
  repeat' first
    | with_reducible refine ⟨_, rfl, ?_⟩
    | split
  repeat' first
    | with_reducible exact Only.refl _ _
    | ((with_reducible apply Only.step State.tearDown_only ?_ ?k); case k => exact rfl)
    | ((with_reducible apply State.withOrder_only ?_ (fun _ => ?_) ?k); case k => exact rfl)
    | ((with_reducible apply Only.step State.endOrder_only ?_ ?k); case k => exact rfl)
    | dsimp only [id]
    | split
    | ((with_reducible apply Only.upd ?_ ?h); case h => exact rfl)

theorem execSealClearQuarantine_only {k : Nat} {s : State} : ∃ z, execSealClearQuarantine k s = .next z ∧ Only 0x42010100 s z := by
  unfold execSealClearQuarantine
  try dsimp only
  repeat' first
    | with_reducible refine ⟨_, rfl, ?_⟩
    | split
  repeat' first
    | with_reducible exact Only.refl _ _
    | ((with_reducible apply State.withOrder_only ?_ (fun _ => ?_) ?k); case k => exact rfl)
    | ((with_reducible apply Only.step State.queueRec_only ?_ ?k); case k => exact rfl)
    | ((with_reducible apply Only.step State.modOrder_only ?_ ?k); case k => exact rfl)
    | ((with_reducible apply Only.step State.endOrder_only ?_ ?k); case k => exact rfl)
    | with_reducible apply Only.foldl ?_ (fun _ _ => ?_)
    | dsimp only [id]
    | split
    | ((with_reducible apply Only.upd ?_ ?h); case h => exact rfl)

theorem State.clearsCommitted_only {s : State} : Only 0x10100 s (State.clearsCommitted s) := by
  unfold State.clearsCommitted
  repeat' first
    | with_reducible exact Only.refl _ _
    | ((with_reducible apply Only.step State.endWhere_only ?_ ?k); case k => exact rfl)
    | dsimp only [id]
    | split
    | ((with_reducible apply Only.upd ?_ ?h); case h => exact rfl)

theorem State.rejectUnit_only {s : State} {t : TenantId} {h : Fin 1024} : Only 0x2000000 s (State.rejectUnit s t h) := by
  unfold State.rejectUnit
  repeat' first
    | with_reducible exact Only.refl _ _
    | ((with_reducible apply Only.step State.lastFail_only ?_ ?k); case k => exact rfl)
    | dsimp only [id]
    | split
    | ((with_reducible apply Only.upd ?_ ?h); case h => exact rfl)

theorem State.failPipe_only {s : State} {t : TenantId} {h : Fin 1024} : Only 0x142030900 s (State.failPipe s t h) := by
  unfold State.failPipe
  try dsimp only
  repeat' first
    | with_reducible exact Only.refl _ _
    | ((with_reducible apply Only.step State.tearDown_only ?_ ?k); case k => exact rfl)
    | ((with_reducible apply Only.step State.noteFailure_only ?_ ?k); case k => exact rfl)
    | dsimp only [id]
    | split
    | ((with_reducible apply Only.upd ?_ ?h); case h => exact rfl)

theorem State.zeroise_only {s : State} : Only 0x142030900 s (State.zeroise s) := by
  unfold State.zeroise
  try dsimp only
  repeat' first
    | with_reducible exact Only.refl _ _
    | ((with_reducible apply Only.step State.failSeal_only ?_ ?k); case k => exact rfl)
    | ((with_reducible apply Only.step State.countFail_only ?_ ?k); case k => exact rfl)
    | ((with_reducible apply Only.step State.tearDownAll_only ?_ ?k); case k => exact rfl)
    | with_reducible apply Only.foldl ?_ (fun _ _ => ?_)
    | dsimp only [id]
    | split
    | ((with_reducible apply Only.upd ?_ ?h); case h => exact rfl)

theorem execAttest_only {t : TenantId} {k : Nat} {s : State} : ∃ z, execAttest t k s = .next z ∧ Only 0x10900 s z := by
  unfold execAttest
  repeat' first
    | with_reducible refine ⟨_, rfl, ?_⟩
    | split
  repeat' first
    | with_reducible exact Only.refl _ _
    | ((with_reducible apply Only.step State.wantItem_only ?_ ?k); case k => exact rfl)
    | ((with_reducible apply State.withOrder_only ?_ (fun _ => ?_) ?k); case k => exact rfl)
    | ((with_reducible apply Only.step State.waitOrder_only ?_ ?k); case k => exact rfl)
    | ((with_reducible apply Only.step State.endOrder_only ?_ ?k); case k => exact rfl)
    | dsimp only [id]
    | split
    | ((with_reducible apply Only.upd ?_ ?h); case h => exact rfl)

theorem State.arithAttest_only {s : State} {t : TenantId} {k : Nat} : Only 0x800011110 s (State.arithAttest s t k) := by
  unfold State.arithAttest
  try dsimp only
  repeat' first
    | with_reducible exact Only.refl _ _
    | ((with_reducible apply Only.step State.postData_only ?_ ?k); case k => exact rfl)
    | ((with_reducible apply Only.step State.endOrder_only ?_ ?k); case k => exact rfl)
    | dsimp only [id]
    | split
    | ((with_reducible apply Only.upd ?_ ?h); case h => exact rfl)

theorem State.wantLease_only {s : State} {i : Nat} : Only 0x10800 s (State.wantLease s i) := by
  unfold State.wantLease
  repeat' first
    | with_reducible exact Only.refl _ _
    | ((with_reducible apply Only.step State.wantItem_only ?_ ?k); case k => exact rfl)
    | ((with_reducible apply Only.step State.modCounter_only ?_ ?k); case k => exact rfl)
    | dsimp only [id]
    | split
    | ((with_reducible apply Only.upd ?_ ?h); case h => exact rfl)

theorem State.assignCount_only {s : State} {t : TenantId} {k : Nat} {o : Order} : Only 0x10900 s (State.assignCount s t k o) := by
  unfold State.assignCount
  try dsimp only
  repeat' first
    | with_reducible exact Only.refl _ _
    | ((with_reducible apply Only.step State.wantLease_only ?_ ?k); case k => exact rfl)
    | ((with_reducible apply Only.step State.modCounter_only ?_ ?k); case k => exact rfl)
    | ((with_reducible apply Only.step State.waitOrder_only ?_ ?k); case k => exact rfl)
    | ((with_reducible apply Only.step State.endOrderEv_only ?_ ?k); case k => exact rfl)
    | dsimp only [id]
    | split
    | ((with_reducible apply Only.upd ?_ ?h); case h => exact rfl)

theorem execNextCount_only {t : TenantId} {k : Nat} {s : State} : ∃ z, execNextCount t k s = .next z ∧ Only 0x10900 s z := by
  unfold execNextCount
  repeat' first
    | with_reducible refine ⟨_, rfl, ?_⟩
    | split
  repeat' first
    | with_reducible exact Only.refl _ _
    | ((with_reducible apply Only.step State.assignCount_only ?_ ?k); case k => exact rfl)
    | ((with_reducible apply State.withOrder_only ?_ (fun _ => ?_) ?k); case k => exact rfl)
    | ((with_reducible apply Only.step State.endOrder_only ?_ ?k); case k => exact rfl)
    | dsimp only [id]
    | split
    | ((with_reducible apply Only.upd ?_ ?h); case h => exact rfl)

theorem State.resumeCounts_only {s : State} {t : TenantId} : Only 0x10900 s (State.resumeCounts s t) := by
  unfold State.resumeCounts
  repeat' first
    | with_reducible exact Only.refl _ _
    | ((with_reducible apply Only.step State.assignCount_only ?_ ?k); case k => exact rfl)
    | with_reducible apply Only.foldl ?_ (fun _ _ => ?_)
    | dsimp only [id]
    | split
    | ((with_reducible apply Only.upd ?_ ?h); case h => exact rfl)

theorem execLeaseCommit_only {t : TenantId} {c : Fin 4} {s : State} : ∃ z, execLeaseCommit t c s = .next z ∧ Only 0x40001800 s z := by
  unfold execLeaseCommit
  try dsimp only
  repeat' first
    | with_reducible refine ⟨_, rfl, ?_⟩
    | split
  repeat' first
    | with_reducible exact Only.refl _ _
    | ((with_reducible apply Only.step State.queueRec_only ?_ ?k); case k => exact rfl)
    | ((with_reducible apply Only.step State.endItem_only ?_ ?k); case k => exact rfl)
    | dsimp only [id]
    | split
    | ((with_reducible apply Only.upd ?_ ?h); case h => exact rfl)

theorem State.retireSector_only {s : State} {i why : Nat} : Only 0x140000800 s (State.retireSector s i why) := by
  unfold State.retireSector
  try dsimp only
  repeat' first
    | with_reducible exact Only.refl _ _
    | ((with_reducible apply Only.step State.queueRec_only ?_ ?k); case k => exact rfl)
    | ((with_reducible apply Only.step State.logEvent_only ?_ ?k); case k => exact rfl)
    | dsimp only [id]
    | split
    | ((with_reducible apply Only.upd ?_ ?h); case h => exact rfl)

theorem State.actLifetime_only {s : State} {l : LifeRec} : Only 0x140000800 s (State.actLifetime s l) := by
  unfold State.actLifetime
  try dsimp only
  repeat' first
    | with_reducible exact Only.refl _ _
    | ((with_reducible apply Only.step State.logEvent_only ?_ ?k); case k => exact rfl)
    | dsimp only [id]
    | split
    | ((with_reducible apply Only.upd ?_ ?h); case h => exact rfl)

theorem State.actLease_only {s : State} {e : Nat × Nat × Nat} : Only 0x10900 s (State.actLease s e) := by
  unfold State.actLease
  try dsimp only
  repeat' first
    | with_reducible exact Only.refl _ _
    | ((with_reducible apply Only.step State.modCounter_only ?_ ?k); case k => exact rfl)
    | ((with_reducible apply Only.step State.resumeCounts_only ?_ ?k); case k => exact rfl)
    | dsimp only [id]
    | split
    | ((with_reducible apply Only.upd ?_ ?h); case h => exact rfl)

theorem State.actPin_only {s : State} {seq : Nat} {e : Identity × BitVec 256} : Only 0x142030900 s (State.actPin s seq e) := by
  unfold State.actPin
  try dsimp only
  repeat' first
    | with_reducible exact Only.refl _ _
    | ((with_reducible apply Only.step State.pinCommitted_only ?_ ?k); case k => exact rfl)
    | ((with_reducible apply Only.step State.logEvent_only ?_ ?k); case k => exact rfl)
    | dsimp only [id]
    | split
    | ((with_reducible apply Only.upd ?_ ?h); case h => exact rfl)

theorem State.actQuar_only {s : State} {seq : Nat} {e : Identity × Bool} : Only 0x142030900 s (State.actQuar s seq e) := by
  unfold State.actQuar
  try dsimp only
  repeat' first
    | with_reducible exact Only.refl _ _
    | ((with_reducible apply Only.step State.quarantine_only ?_ ?k); case k => exact rfl)
    | ((with_reducible apply Only.step State.logEvent_only ?_ ?k); case k => exact rfl)
    | dsimp only [id]
    | split
    | ((with_reducible apply Only.upd ?_ ?h); case h => exact rfl)

theorem State.actRecord_only {s : State} {q : QRec} {seq : Nat} {b : RecBody} : Only 0x142030900 s (State.actRecord s q seq b) := by
  unfold State.actRecord
  repeat' first
    | with_reducible exact Only.refl _ _
    | ((with_reducible apply Only.step State.actQuar_only ?_ ?k); case k => exact rfl)
    | ((with_reducible apply Only.step State.modCounter_only ?_ ?k); case k => exact rfl)
    | ((with_reducible apply Only.step State.actLease_only ?_ ?k); case k => exact rfl)
    | ((with_reducible apply Only.step State.actPin_only ?_ ?k); case k => exact rfl)
    | ((with_reducible apply Only.step State.queueRec_only ?_ ?k); case k => exact rfl)
    | ((with_reducible apply Only.step State.clearsCommitted_only ?_ ?k); case k => exact rfl)
    | ((with_reducible apply Only.step State.logEvent_only ?_ ?k); case k => exact rfl)
    | ((with_reducible apply Only.step State.actLifetime_only ?_ ?k); case k => exact rfl)
    | with_reducible apply Only.foldl ?_ (fun _ _ => ?_)
    | dsimp only [id]
    | split
    | ((with_reducible apply Only.upd ?_ ?h); case h => exact rfl)

theorem State.tornSlot_only {s : State} {i : Nat} {failed : Bool} : Only 0x140000800 s (State.tornSlot s i failed) := by
  unfold State.tornSlot
  try dsimp only
  repeat' first
    | with_reducible exact Only.refl _ _
    | ((with_reducible apply Only.step State.retireSector_only ?_ ?k); case k => exact rfl)
    | dsimp only [id]
    | split
    | ((with_reducible apply Only.upd ?_ ?h); case h => exact rfl)

theorem State.programPage_only {s : State} {i seq : Nat} {q : QRec} : Only 0x800000000 s (State.programPage s i seq q) := by
  unfold State.programPage
  repeat' first
    | with_reducible exact Only.refl _ _
    | ((with_reducible apply Only.step State.emitPage_only ?_ ?k); case k => exact rfl)
    | dsimp only [id]
    | split
    | ((with_reducible apply Only.upd ?_ ?h); case h => exact rfl)

theorem State.commitOk_only {s : State} {i seq : Nat} {q : QRec} : Only 0x942030900 s (State.commitOk s i seq q) := by
  unfold State.commitOk
  try dsimp only
  repeat' first
    | with_reducible exact Only.refl _ _
    | ((with_reducible apply Only.step State.emitCommit_only ?_ ?k); case k => exact rfl)
    | ((with_reducible apply Only.step State.actRecord_only ?_ ?k); case k => exact rfl)
    | dsimp only [id]
    | split
    | ((with_reducible apply Only.upd ?_ ?h); case h => exact rfl)

theorem State.emitHeader_only {s : State} {i : Nat} : Only 0x800000000 s (State.emitHeader s i) := by
  unfold State.emitHeader
  repeat' first
    | with_reducible exact Only.refl _ _
    | ((with_reducible apply Only.step State.emitOut_only ?_ ?k); case k => exact rfl)
    | dsimp only [id]
    | split
    | ((with_reducible apply Only.upd ?_ ?h); case h => exact rfl)

theorem State.badHeader_only {s : State} {i : Nat} : Only 0x40000000 s (State.badHeader s i) := by
  unfold State.badHeader
  repeat' first
    | with_reducible exact Only.refl _ _
    | dsimp only [id]
    | split
    | ((with_reducible apply Only.upd ?_ ?h); case h => exact rfl)

theorem State.commitNext_only {s : State} {r : ProgramEnd} : Only 0x942030900 s (State.commitNext s r) := by
  unfold State.commitNext
  try dsimp only
  repeat' first
    | with_reducible exact Only.refl _ _
    | ((with_reducible apply Only.step State.emitHeader_only ?_ ?k); case k => exact rfl)
    | ((with_reducible apply Only.step State.peatUpkeep_only ?_ ?k); case k => exact rfl)
    | ((with_reducible apply Only.step State.badHeader_only ?_ ?k); case k => exact rfl)
    | ((with_reducible apply Only.step State.updateDegraded_only ?_ ?k); case k => exact rfl)
    | ((with_reducible apply Only.step State.programPage_only ?_ ?k); case k => exact rfl)
    | ((with_reducible apply Only.step State.tornSlot_only ?_ ?k); case k => exact rfl)
    | ((with_reducible apply Only.step State.commitOk_only ?_ ?k); case k => exact rfl)
    | dsimp only [id]
    | split
    | ((with_reducible apply Only.upd ?_ ?h); case h => exact rfl)

theorem execRecordCommit_only {r : ProgramEnd} {s : State} : ∃ z, execRecordCommit r s = .next z ∧ Only 0x942030900 s z := by
  unfold execRecordCommit
  repeat' first
    | with_reducible refine ⟨_, rfl, ?_⟩
    | split
  repeat' first
    | with_reducible exact Only.refl _ _
    | ((with_reducible apply Only.step State.commitNext_only ?_ ?k); case k => exact rfl)
    | dsimp only [id]
    | split
    | ((with_reducible apply Only.upd ?_ ?h); case h => exact rfl)

theorem execCheckpointTimer_only {s : State} : ∃ z, execCheckpointTimer s = .next z ∧ Only 0x40000000 s z := by
  unfold execCheckpointTimer
  repeat' first
    | with_reducible refine ⟨_, rfl, ?_⟩
    | split
  repeat' first
    | with_reducible exact Only.refl _ _
    | ((with_reducible apply Only.step State.beginCheckpoint_only ?_ ?k); case k => exact rfl)
    | dsimp only [id]
    | split
    | ((with_reducible apply Only.upd ?_ ?h); case h => exact rfl)

theorem State.writeLog_only {s : State} : Only 0x40000000 s (State.writeLog s) := by
  unfold State.writeLog
  try dsimp only
  repeat' first
    | with_reducible exact Only.refl _ _
    | ((with_reducible apply Only.step State.queueRec_only ?_ ?k); case k => exact rfl)
    | dsimp only [id]
    | split
    | ((with_reducible apply Only.upd ?_ ?h); case h => exact rfl)

theorem execLogWrite_only {s : State} : ∃ z, execLogWrite s = .next z ∧ Only 0x40001800 s z := by
  unfold execLogWrite
  try dsimp only
  repeat' first
    | with_reducible refine ⟨_, rfl, ?_⟩
    | split
  repeat' first
    | with_reducible exact Only.refl _ _
    | ((with_reducible apply Only.step State.wantItem_only ?_ ?k); case k => exact rfl)
    | ((with_reducible apply Only.step State.writeLog_only ?_ ?k); case k => exact rfl)
    | ((with_reducible apply Only.step State.endItem_only ?_ ?k); case k => exact rfl)
    | dsimp only [id]
    | split
    | ((with_reducible apply Only.upd ?_ ?h); case h => exact rfl)

theorem execLogFlushTimer_only {s : State} : ∃ z, execLogFlushTimer s = .next z ∧ Only 0x800 s z := by
  unfold execLogFlushTimer
  repeat' first
    | with_reducible refine ⟨_, rfl, ?_⟩
    | split
  repeat' first
    | with_reducible exact Only.refl _ _
    | ((with_reducible apply Only.step State.wantItem_only ?_ ?k); case k => exact rfl)
    | dsimp only [id]
    | split
    | ((with_reducible apply Only.upd ?_ ?h); case h => exact rfl)

theorem execPeatExport_only {k : Nat} {s : State} : ∃ z, execPeatExport k s = .next z ∧ Only 0x800011110 s z := by
  unfold execPeatExport
  try dsimp only
  repeat' first
    | with_reducible refine ⟨_, rfl, ?_⟩
    | split
  repeat' first
    | with_reducible exact Only.refl _ _
    | ((with_reducible apply Only.step State.postData_only ?_ ?k); case k => exact rfl)
    | ((with_reducible apply State.withOrder_only ?_ (fun _ => ?_) ?k); case k => exact rfl)
    | ((with_reducible apply Only.step State.endOrder_only ?_ ?k); case k => exact rfl)
    | dsimp only [id]
    | split
    | ((with_reducible apply Only.upd ?_ ?h); case h => exact rfl)

theorem State.compactStep_only {s : State} : Only 0x140000800 s (State.compactStep s) := by
  unfold State.compactStep
  try dsimp only
  repeat' first
    | with_reducible exact Only.refl _ _
    | ((with_reducible apply Only.step State.beginCheckpoint_only ?_ ?k); case k => exact rfl)
    | ((with_reducible apply Only.step State.retireSector_only ?_ ?k); case k => exact rfl)
    | ((with_reducible apply Only.step State.queueRec_only ?_ ?k); case k => exact rfl)
    | with_reducible apply Only.foldl ?_ (fun _ _ => ?_)
    | dsimp only [id]
    | split
    | ((with_reducible apply Only.upd ?_ ?h); case h => exact rfl)

theorem execCompactStep_only {s : State} : ∃ z, execCompactStep s = .next z ∧ Only 0x140001800 s z := by
  unfold execCompactStep
  repeat' first
    | with_reducible refine ⟨_, rfl, ?_⟩
    | split
  repeat' first
    | with_reducible exact Only.refl _ _
    | ((with_reducible apply Only.step State.peatUpkeep_only ?_ ?k); case k => exact rfl)
    | ((with_reducible apply Only.step State.compactStep_only ?_ ?k); case k => exact rfl)
    | ((with_reducible apply Only.step State.endItem_only ?_ ?k); case k => exact rfl)
    | dsimp only [id]
    | split
    | ((with_reducible apply Only.upd ?_ ?h); case h => exact rfl)

theorem execFlashEraseDone_only {ok : Bool} {s : State} : ∃ z, execFlashEraseDone ok s = .next z ∧ Only 0x140010900 s z := by
  unfold execFlashEraseDone
  try dsimp only
  repeat' first
    | with_reducible refine ⟨_, rfl, ?_⟩
    | split
  repeat' first
    | with_reducible exact Only.refl _ _
    | ((with_reducible apply Only.step State.peatUpkeep_only ?_ ?k); case k => exact rfl)
    | ((with_reducible apply Only.step State.updateDegraded_only ?_ ?k); case k => exact rfl)
    | ((with_reducible apply Only.step State.retireSector_only ?_ ?k); case k => exact rfl)
    | dsimp only [id]
    | split
    | ((with_reducible apply Only.upd ?_ ?h); case h => exact rfl)

theorem State.peatLost_only {s : State} {st : PeatState} {why : PeatReason} : Only 0x142030900 s (State.peatLost s st why) := by
  unfold State.peatLost
  try dsimp only
  repeat' first
    | with_reducible exact Only.refl _ _
    | ((with_reducible apply Only.step State.failSeal_only ?_ ?k); case k => exact rfl)
    | ((with_reducible apply Only.step State.setPeat_only ?_ ?k); case k => exact rfl)
    | ((with_reducible apply Only.step State.endWhere_only ?_ ?k); case k => exact rfl)
    | with_reducible apply Only.foldl ?_ (fun _ _ => ?_)
    | dsimp only [id]
    | split
    | ((with_reducible apply Only.upd ?_ ?h); case h => exact rfl)

theorem execFlashNoAnswer_only {s : State} : ∃ z, execFlashNoAnswer s = .next z ∧ Only 0x142030900 s z := by
  unfold execFlashNoAnswer
  repeat' first
    | with_reducible refine ⟨_, rfl, ?_⟩
    | split
  repeat' first
    | with_reducible exact Only.refl _ _
    | ((with_reducible apply Only.step State.peatLost_only ?_ ?k); case k => exact rfl)
    | dsimp only [id]
    | split
    | ((with_reducible apply Only.upd ?_ ?h); case h => exact rfl)

theorem State.pwrfailFall_only {s : State} {tpp : Nat} {starts : List Nat} : Only 0x40000002 s (State.pwrfailFall s tpp starts) := by
  unfold State.pwrfailFall
  try dsimp only
  repeat' first
    | with_reducible exact Only.refl _ _
    | dsimp only [id]
    | split
    | ((with_reducible apply Only.upd ?_ ?h); case h => exact rfl)

theorem execPwrfailNRise_only {s : State} : ∃ z, execPwrfailNRise s = .next z ∧ Only 0x40010902 s z := by
  unfold execPwrfailNRise
  try dsimp only
  repeat' first
    | with_reducible refine ⟨_, rfl, ?_⟩
    | split
  repeat' first
    | with_reducible exact Only.refl _ _
    | ((with_reducible apply Only.step State.resumeCounts_only ?_ ?k); case k => exact rfl)
    | with_reducible apply Only.foldl ?_ (fun _ _ => ?_)
    | dsimp only [id]
    | split
    | ((with_reducible apply Only.upd ?_ ?h); case h => exact rfl)

theorem State.applyRec_only {s : State} {r : PRec} : Only 0x40010000 s (State.applyRec s r) := by
  unfold State.applyRec
  repeat' first
    | with_reducible exact Only.refl _ _
    | ((with_reducible apply Only.step State.modCounter_only ?_ ?k); case k => exact rfl)
    | with_reducible apply Only.foldl ?_ (fun _ _ => ?_)
    | dsimp only [id]
    | split
    | ((with_reducible apply Only.upd ?_ ?h); case h => exact rfl)

theorem State.resumeAll_only {s : State} : Only 0x10000 s (State.resumeAll s) := by
  unfold State.resumeAll
  repeat' first
    | with_reducible exact Only.refl _ _
    | dsimp only [id]
    | split
    | ((with_reducible apply Only.upd ?_ ?h); case h => exact rfl)

theorem State.readJournal_only {s : State} : Only 0x40010000 s (State.readJournal s) := by
  unfold State.readJournal
  try dsimp only
  repeat' first
    | with_reducible exact Only.refl _ _
    | ((with_reducible apply Only.step State.resumeAll_only ?_ ?k); case k => exact rfl)
    | ((with_reducible apply Only.step State.applyRec_only ?_ ?k); case k => exact rfl)
    | with_reducible apply Only.foldl ?_ (fun _ _ => ?_)
    | dsimp only [id]
    | split
    | ((with_reducible apply Only.upd ?_ ?h); case h => exact rfl)

theorem State.advanceEpoch_only {s x : State} {b : Bool} (h : s.advanceEpoch b = some x) : Only 0x4 s x := by
  unfold State.advanceEpoch at h
  split at h
  · cases h
    exact Only.refl _ _
  split at h
  · cases h
    repeat' first
      | with_reducible exact Only.refl _ _
      | with_reducible apply Only.foldl ?_ (fun _ _ => ?_)
      | dsimp only [id]
      | split
      | ((with_reducible apply Only.upd ?_ ?h); case h => exact rfl)
  · cases h

theorem State.dropAbsorbed_only {s : State} : Only 0x40000000 s (State.dropAbsorbed s) := by
  unfold State.dropAbsorbed
  repeat' first
    | with_reducible exact Only.refl _ _
    | dsimp only [id]
    | split
    | ((with_reducible apply Only.upd ?_ ?h); case h => exact rfl)

theorem State.mountWrites_only {s : State} : Only 0x140000800 s (State.mountWrites s) := by
  unfold State.mountWrites
  try dsimp only
  repeat' first
    | with_reducible exact Only.refl _ _
    | ((with_reducible apply Only.step State.writeLog_only ?_ ?k); case k => exact rfl)
    | ((with_reducible apply Only.step State.queueRec_only ?_ ?k); case k => exact rfl)
    | ((with_reducible apply Only.step State.logEvent_only ?_ ?k); case k => exact rfl)
    | with_reducible apply Only.foldl ?_ (fun _ _ => ?_)
    | dsimp only [id]
    | split
    | ((with_reducible apply Only.upd ?_ ?h); case h => exact rfl)

theorem State.setMounted_only {s : State} : Only 0x140010900 s (State.setMounted s) := by
  unfold State.setMounted
  try dsimp only
  repeat' first
    | with_reducible exact Only.refl _ _
    | ((with_reducible apply Only.step State.setPeat_only ?_ ?k); case k => exact rfl)
    | dsimp only [id]
    | split
    | ((with_reducible apply Only.upd ?_ ?h); case h => exact rfl)

theorem State.mountJournal_only {s : State} {fuseOk : Bool} : Only 0x140010904 s (State.mountJournal s fuseOk) := by
  unfold State.mountJournal
  try dsimp only
  repeat' first
    | with_reducible exact Only.refl _ _
    | ((with_reducible apply Only.step (State.advanceEpoch_only ?h) ?_ ?k); (case h => with_reducible assumption); case k => exact rfl)
    | ((with_reducible apply Only.step State.mountWrites_only ?_ ?k); case k => exact rfl)
    | ((with_reducible apply Only.step State.dropAbsorbed_only ?_ ?k); case k => exact rfl)
    | ((with_reducible apply Only.step State.setPeat_only ?_ ?k); case k => exact rfl)
    | ((with_reducible apply Only.step State.setMounted_only ?_ ?k); case k => exact rfl)
    | ((with_reducible apply Only.step State.beginCheckpoint_only ?_ ?k); case k => exact rfl)
    | ((with_reducible apply Only.step State.readJournal_only ?_ ?k); case k => exact rfl)
    | ((with_reducible apply Only.step State.queueRec_only ?_ ?k); case k => exact rfl)
    | with_reducible apply Only.foldl ?_ (fun _ _ => ?_)
    | dsimp only [id]
    | split
    | ((with_reducible apply Only.upd ?_ ?h); case h => exact rfl)

theorem State.mount_only {s : State} {d : SfdpInfo} {fuseOk : Bool} : Only 0x140010904 s (State.mount s d fuseOk) := by
  unfold State.mount
  try dsimp only
  repeat' first
    | with_reducible exact Only.refl _ _
    | ((with_reducible apply Only.step State.setPeat_only ?_ ?k); case k => exact rfl)
    | ((with_reducible apply Only.step State.mountJournal_only ?_ ?k); case k => exact rfl)
    | dsimp only [id]
    | split
    | ((with_reducible apply Only.upd ?_ ?h); case h => exact rfl)

theorem execPeatMount_only {cs0 cs1 : SfdpInfo} {m : MountRead} {scanUs : Nat} {s : State} :
    ∃ z, execPeatMount cs0 cs1 m scanUs s = .next z ∧ Only 0x14001190E s z := by
  unfold execPeatMount
  try dsimp only
  repeat' first
    | with_reducible refine ⟨_, rfl, ?_⟩
    | split
  repeat' first
    | with_reducible exact Only.refl _ _
    | ((with_reducible apply Only.step State.mount_only ?_ ?k); case k => exact rfl)
    | ((with_reducible apply Only.step State.addItem_only ?_ ?k); case k => exact rfl)
    | ((with_reducible apply Only.step State.endItem_only ?_ ?k); case k => exact rfl)
    | dsimp only [id]
    | split
    | ((with_reducible apply Only.upd ?_ ?h); case h => exact rfl)

theorem State.commitAll_only {s : State} {k : Nat} : Only 0x942030900 s (State.commitAll k s) := by
  induction k generalizing s with
  | zero => exact Only.refl _ _
  | succ k ih =>
    unfold State.commitAll
    split
    · exact Only.refl _ _
    · exact (State.commitNext_only.mono rfl).trans ih

theorem execPeatFormat_only {ok : Bool} {fuseOk : Bool} {s : State} :
    ∃ z, execPeatFormat ok fuseOk s = .next z ∧ Only 0x2942030904 s z := by
  unfold execPeatFormat
  try dsimp only [State.drawBool, State.drawRandom]
  repeat' first
    | with_reducible refine ⟨_, rfl, ?_⟩
    | split
  repeat' first
    | with_reducible exact Only.refl _ _
    | ((with_reducible apply Only.step (State.advanceEpoch_only ?h) ?_ ?k); (case h => with_reducible assumption); case k => exact rfl)
    | ((with_reducible apply Only.step State.peatLost_only ?_ ?k); case k => exact rfl)
    | ((with_reducible apply Only.step State.commitAll_only ?_ ?k); case k => exact rfl)
    | ((with_reducible apply Only.step State.setMounted_only ?_ ?k); case k => exact rfl)
    | ((with_reducible apply Only.step State.emitOut_only ?_ ?k); case k => exact rfl)
    | with_reducible apply Only.foldl ?_ (fun _ _ => ?_)
    | dsimp only [id]
    | split
    | ((with_reducible apply Only.upd ?_ ?h); case h => exact rfl)

theorem State.promote_only {s : State} {w : WorkerId} {o : Op} : Only 0x90900 s (State.promote s w o) := by
  unfold State.promote
  try dsimp only
  repeat' first
    | with_reducible exact Only.refl _ _
    | ((with_reducible apply Only.step State.markOp_only ?_ ?k); case k => exact rfl)
    | ((with_reducible apply Only.step State.modWorker_only ?_ ?k); case k => exact rfl)
    | dsimp only [id]
    | split
    | ((with_reducible apply Only.upd ?_ ?h); case h => exact rfl)

theorem State.endSlot_only {s : State} {z0 : UnitId} : Only 0x90900 s (State.endSlot s z0) := by
  unfold State.endSlot
  try dsimp only
  repeat' first
    | with_reducible exact Only.refl _ _
    | ((with_reducible apply Only.step State.modCore_only ?_ ?k); case k => exact rfl)
    | ((with_reducible apply Only.step State.promote_only ?_ ?k); case k => exact rfl)
    | ((with_reducible apply Only.step State.modWorker_only ?_ ?k); case k => exact rfl)
    | dsimp only [id]
    | split
    | ((with_reducible apply Only.upd ?_ ?h); case h => exact rfl)

theorem State.settleFlow_only {s : State} {t : TenantId} {h : Fin 1024} : Only 0xA0000 s (State.settleFlow s t h) := by
  unfold State.settleFlow
  try dsimp only
  repeat' first
    | with_reducible exact Only.refl _ _
    | ((with_reducible apply Only.step State.syncSide_only ?_ ?k); case k => exact rfl)
    | ((with_reducible apply Only.step State.modFlow_only ?_ ?k); case k => exact rfl)
    | with_reducible apply Only.foldl ?_ (fun _ _ => ?_)
    | dsimp only [id]
    | split
    | ((with_reducible apply Only.upd ?_ ?h); case h => exact rfl)

theorem State.report_only {s : State} {u : UnitId} {n : Node} {act : State → Op → State} {k : OpKind} {m : Nat} (hact : ∀ y0 y1, Only m y0 (act y0 y1)) (hk : 0x20091900 ||| m = m) :
    Only m s (State.report s u n act k) := by
  unfold State.report
  try dsimp only
  repeat' first
    | with_reducible exact Only.refl _ _
    | with_reducible apply Only.trans ?_ (hact _ _)
    | ((with_reducible apply State.passOp_only ?_ ?_ ?k); case k => exact mask_sub rfl hk)
    | ((with_reducible apply Only.step State.endSlot_only ?_ ?k); case k => exact mask_sub rfl hk)
    | dsimp only [id]
    | split
    | ((with_reducible apply Only.updMono (m := 0x20091900) ?_ ?h ?k); (case h => exact rfl); case k => exact mask_sub rfl hk)

theorem State.onDelay_only {s : State} {w : DelayFor} {act : State → State} {m : Nat} (hact : ∀ y0, Only m y0 (act y0)) (hk : 0x20091900 ||| m = m) :
    Only m s (State.onDelay s w act) := by
  unfold State.onDelay
  try dsimp only
  repeat' first
    | with_reducible exact Only.refl _ _
    | with_reducible apply Only.trans ?_ (hact _)
    | ((with_reducible apply Only.trans ?_ (State.report_only (fun _ _ => ?_) ?k)); case k => exact mask_sub rfl hk)
    | dsimp only [id]
    | split
    | ((with_reducible apply Only.updMono (m := 0x20091900) ?_ ?h ?k); (case h => exact rfl); case k => exact mask_sub rfl hk)

theorem State.onFlow_only {s : State} {o : Op} {act : State → Flow → State} {m : Nat} (hact : ∀ y0 y1, Only m y0 (act y0 y1)) (hk : 0x20A0800 ||| m = m) :
    Only m s (State.onFlow s o act) := by
  unfold State.onFlow
  try dsimp only
  repeat' first
    | with_reducible exact Only.refl _ _
    | with_reducible apply Only.trans ?_ (hact _ _)
    | ((with_reducible apply Only.step State.takePipes_only ?_ ?k); case k => exact mask_sub rfl hk)
    | ((with_reducible apply Only.step State.settleFlow_only ?_ ?k); case k => exact mask_sub rfl hk)
    | ((with_reducible apply Only.step State.syncSide_only ?_ ?k); case k => exact mask_sub rfl hk)
    | dsimp only [id]
    | split
    | ((with_reducible apply Only.updMono (m := 0x20A0800) ?_ ?h ?k); (case h => exact rfl); case k => exact mask_sub rfl hk)

theorem State.aer_only {s : State} {f : Fn} {b : BitVec 32} : Only 0x10010 s (State.aer s f b) := by
  unfold State.aer
  try dsimp only
  repeat' first
    | with_reducible exact Only.refl _ _
    | ((with_reducible apply Only.step State.modFn_only ?_ ?k); case k => exact rfl)
    | dsimp only [id]
    | split
    | ((with_reducible apply Only.upd ?_ ?h); case h => exact rfl)

theorem State.timeoutError_only {s : State} {f : Fn} : Only 0x10010 s (State.timeoutError s f) := by
  unfold State.timeoutError
  repeat' first
    | with_reducible exact Only.refl _ _
    | ((with_reducible apply Only.step State.aer_only ?_ ?k); case k => exact rfl)
    | dsimp only [id]
    | split
    | ((with_reducible apply Only.upd ?_ ?h); case h => exact rfl)

theorem State.readError_only {s : State} {f : Fn} {answered : Bool} : Only 0x2000010010 s (State.readError s f answered) := by
  unfold State.readError
  try dsimp only [State.drawBool, State.drawRandom]
  repeat' first
    | with_reducible exact Only.refl _ _
    | ((with_reducible apply Only.step State.aer_only ?_ ?k); case k => exact rfl)
    | ((with_reducible apply Only.step State.timeoutError_only ?_ ?k); case k => exact rfl)
    | ((with_reducible apply Only.step State.modFn_only ?_ ?k); case k => exact rfl)
    | dsimp only [id]
    | split
    | ((with_reducible apply Only.upd ?_ ?h); case h => exact rfl)

theorem State.takeOrders_only {s : State} {f : Fn} {l : List (List Word)} : Only 0x10100 s (State.takeOrders s f l) := by
  unfold State.takeOrders
  repeat' first
    | with_reducible exact Only.refl _ _
    | ((with_reducible apply Only.step State.modRings_only ?_ ?k); case k => exact rfl)
    | dsimp only [id]
    | split
    | ((with_reducible apply Only.upd ?_ ?h); case h => exact rfl)

theorem State.failOrders_only {s : State} {f : Fn} {n : Nat} : Only 0x10100 s (State.failOrders s f n) := by
  unfold State.failOrders
  try dsimp only
  repeat' first
    | with_reducible exact Only.refl _ _
    | ((with_reducible apply Only.step State.modRings_only ?_ ?k); case k => exact rfl)
    | dsimp only [id]
    | split
    | ((with_reducible apply Only.upd ?_ ?h); case h => exact rfl)

theorem State.fetched_only {s : State} {o : Op} {r : Option (List (List Word))} {log : State → Fn → State} {m : Nat} (hlog : ∀ y0 y1, Only m y0 (log y0 y1)) (hk : 0x8020B0900 ||| m = m) :
    Only m s (State.fetched s o r log) := by
  unfold State.fetched
  try dsimp only
  repeat' first
    | with_reducible exact Only.refl _ _
    | with_reducible apply Only.trans ?_ (hlog _ _)
    | ((with_reducible apply Only.step State.takeOrders_only ?_ ?k); case k => exact mask_sub rfl hk)
    | ((with_reducible apply Only.step State.failOrders_only ?_ ?k); case k => exact mask_sub rfl hk)
    | ((with_reducible apply Only.trans ?_ (State.onFlow_only (fun _ _ => ?_) ?k)); case k => exact mask_sub rfl hk)
    | ((with_reducible apply Only.step State.modFlow_only ?_ ?k); case k => exact mask_sub rfl hk)
    | ((with_reducible apply Only.step State.sendRead_only ?_ ?k); case k => exact mask_sub rfl hk)
    | dsimp only [id]
    | split
    | ((with_reducible apply Only.updMono (m := 0x8020B0900) ?_ ?h ?k); (case h => exact rfl); case k => exact mask_sub rfl hk)

theorem execFetch_only {u : UnitId} {r : Option (List (List Word))} {s : State} :
    ∃ z, execFetch u r s = .next z ∧ Only 0x28220B1910 s z := by
  unfold execFetch
  repeat' first
    | with_reducible refine ⟨_, rfl, ?_⟩
    | split
  repeat' first
    | with_reducible exact Only.refl _ _
    | ((with_reducible apply Only.trans ?_ (State.fetched_only (fun _ _ => ?_) ?k)); case k => exact rfl)
    | ((with_reducible apply Only.trans ?_ (State.report_only (fun _ _ => ?_) ?k)); case k => exact rfl)
    | ((with_reducible apply Only.step State.readError_only ?_ ?k); case k => exact rfl)
    | dsimp only [id]
    | split
    | ((with_reducible apply Only.upd ?_ ?h); case h => exact rfl)

theorem State.movePiece_only {s : State} {f : Flow} {o : Op} {readOk : Bool} {log : State → Fn → State} {m : Nat} (hlog : ∀ y0 y1, Only m y0 (log y0 y1)) (hk : 0x800031110 ||| m = m) :
    Only m s (State.movePiece s f o readOk log) := by
  unfold State.movePiece
  try dsimp only
  repeat' first
    | with_reducible exact Only.refl _ _
    | with_reducible apply Only.trans ?_ (hlog _ _)
    | ((with_reducible apply Only.step State.postPayload_only ?_ ?k); case k => exact mask_sub rfl hk)
    | ((with_reducible apply Only.step State.modFlow_only ?_ ?k); case k => exact mask_sub rfl hk)
    | ((with_reducible apply Only.step State.sendRead_only ?_ ?k); case k => exact mask_sub rfl hk)
    | dsimp only [id]
    | split
    | ((with_reducible apply Only.updMono (m := 0x800031110) ?_ ?h ?k); (case h => exact rfl); case k => exact mask_sub rfl hk)

theorem execMove_only {u : UnitId} {readOk : Bool} {s : State} : ∃ z, execMove u readOk s = .next z ∧ Only 0x28220B1910 s z := by
  unfold execMove
  repeat' first
    | with_reducible refine ⟨_, rfl, ?_⟩
    | split
  repeat' first
    | with_reducible exact Only.refl _ _
    | ((with_reducible apply Only.trans ?_ (State.movePiece_only (fun _ _ => ?_) ?k)); case k => exact rfl)
    | ((with_reducible apply Only.trans ?_ (State.report_only (fun _ _ => ?_) ?k)); case k => exact rfl)
    | ((with_reducible apply Only.trans ?_ (State.onFlow_only (fun _ _ => ?_) ?k)); case k => exact rfl)
    | ((with_reducible apply Only.step State.readError_only ?_ ?k); case k => exact rfl)
    | dsimp only [id]
    | split
    | ((with_reducible apply Only.upd ?_ ?h); case h => exact rfl)

theorem State.chargeSeal_only {s : State} {bytes : Nat} : Only 0x4000 s (State.chargeSeal s bytes) := by
  unfold State.chargeSeal
  repeat' first
    | with_reducible exact Only.refl _ _
    | ((with_reducible apply Only.step State.chargeEnergy_only ?_ ?k); case k => exact rfl)
    | dsimp only [id]
    | split
    | ((with_reducible apply Only.upd ?_ ?h); case h => exact rfl)

theorem State.sendUnit_only {s : State} {t : TenantId} {h : Fin 1024} {id : Nat} {text : List Byte} :
    Only 0x142030900 s (State.sendUnit s t h id text) := by
  unfold State.sendUnit
  try dsimp only
  repeat' first
    | with_reducible exact Only.refl _ _
    | ((with_reducible apply Only.step State.startRekey_only ?_ ?k); case k => exact rfl)
    | ((with_reducible apply Only.step State.modFlow_only ?_ ?k); case k => exact rfl)
    | dsimp only [id]
    | split
    | ((with_reducible apply Only.upd ?_ ?h); case h => exact rfl)

theorem State.sealUnit_only {s : State} {f : Flow} {o : Op} {text : List Byte} : Only 0x142034900 s (State.sealUnit s f o text) := by
  unfold State.sealUnit
  repeat' first
    | with_reducible exact Only.refl _ _
    | ((with_reducible apply Only.step State.sendUnit_only ?_ ?k); case k => exact rfl)
    | ((with_reducible apply Only.step State.chargeSeal_only ?_ ?k); case k => exact rfl)
    | ((with_reducible apply Only.step State.nextEpoch_only ?_ ?k); case k => exact rfl)
    | dsimp only [id]
    | split
    | ((with_reducible apply Only.upd ?_ ?h); case h => exact rfl)

theorem execSeal_only {e : SealEnd} {s : State} : ∃ z, execSeal e s = .next z ∧ Only 0x1620B5900 s z := by
  unfold execSeal
  repeat' first
    | with_reducible refine ⟨_, rfl, ?_⟩
    | split
  repeat' first
    | with_reducible exact Only.refl _ _
    | ((with_reducible apply Only.step State.sealUnit_only ?_ ?k); case k => exact rfl)
    | ((with_reducible apply Only.trans ?_ (State.report_only (fun _ _ => ?_) ?k)); case k => exact rfl)
    | ((with_reducible apply Only.trans ?_ (State.onFlow_only (fun _ _ => ?_) ?k)); case k => exact rfl)
    | dsimp only [id]
    | split
    | ((with_reducible apply Only.upd ?_ ?h); case h => exact rfl)

theorem State.acceptUnit_only {s : State} {f : Flow} {x : Xfer} {next : Bool} {seq plain : Nat} :
    Only 0x30900 s (State.acceptUnit s f x next seq plain) := by
  unfold State.acceptUnit
  try dsimp only
  repeat' first
    | with_reducible exact Only.refl _ _
    | ((with_reducible apply Only.step State.nextEpoch_only ?_ ?k); case k => exact rfl)
    | ((with_reducible apply Only.step State.modFlow_only ?_ ?k); case k => exact rfl)
    | dsimp only [id]
    | split
    | ((with_reducible apply Only.upd ?_ ?h); case h => exact rfl)

theorem State.refuseUnit_only {s : State} {f : Flow} {x : Xfer} : Only 0x142030900 s (State.refuseUnit s f x) := by
  unfold State.refuseUnit
  try dsimp only
  repeat' first
    | with_reducible exact Only.refl _ _
    | ((with_reducible apply Only.step State.rejectUnit_only ?_ ?k); case k => exact rfl)
    | ((with_reducible apply Only.step State.modFlow_only ?_ ?k); case k => exact rfl)
    | ((with_reducible apply Only.step State.failPipe_only ?_ ?k); case k => exact rfl)
    | dsimp only [id]
    | split
    | ((with_reducible apply Only.upd ?_ ?h); case h => exact rfl)

theorem State.unsealUnit_only {s : State} {f : Flow} {o : Op} {unit : List Byte} : Only 0x142034900 s (State.unsealUnit s f o unit) := by
  unfold State.unsealUnit
  try dsimp only
  repeat' first
    | with_reducible exact Only.refl _ _
    | ((with_reducible apply Only.step State.chargeSeal_only ?_ ?k); case k => exact rfl)
    | ((with_reducible apply Only.step State.acceptUnit_only ?_ ?k); case k => exact rfl)
    | ((with_reducible apply Only.step State.refuseUnit_only ?_ ?k); case k => exact rfl)
    | dsimp only [id]
    | split
    | ((with_reducible apply Only.upd ?_ ?h); case h => exact rfl)

theorem execUnseal_only {u : UnitId} {epoch : Byte} {seq cipher tag : List Byte} {s : State} :
    ∃ z, execUnseal u epoch seq cipher tag s = .next z ∧ Only 0x1620B5900 s z := by
  unfold execUnseal
  repeat' first
    | with_reducible refine ⟨_, rfl, ?_⟩
    | split
  repeat' first
    | with_reducible exact Only.refl _ _
    | ((with_reducible apply Only.trans ?_ (State.report_only (fun _ _ => ?_) ?k)); case k => exact rfl)
    | ((with_reducible apply Only.step State.unsealUnit_only ?_ ?k); case k => exact rfl)
    | ((with_reducible apply Only.trans ?_ (State.onFlow_only (fun _ _ => ?_) ?k)); case k => exact rfl)
    | dsimp only [id]
    | split
    | ((with_reducible apply Only.upd ?_ ?h); case h => exact rfl)

theorem execRekeyDeadline_only {t : TenantId} {h : Fin 1024} {s : State} :
    ∃ z, execRekeyDeadline t h s = .next z ∧ Only 0x1620B1900 s z := by
  unfold execRekeyDeadline
  try dsimp only
  repeat' first
    | with_reducible refine ⟨_, rfl, ?_⟩
    | split
  repeat' first
    | with_reducible exact Only.refl _ _
    | ((with_reducible apply Only.step State.startRekey_only ?_ ?k); case k => exact rfl)
    | ((with_reducible apply Only.trans ?_ (State.onDelay_only (fun _ => ?_) ?k)); case k => exact rfl)
    | ((with_reducible apply Only.step State.request_only ?_ ?k); case k => exact rfl)
    | ((with_reducible apply Only.step State.modFlow_only ?_ ?k); case k => exact rfl)
    | dsimp only [id]
    | split
    | ((with_reducible apply Only.upd ?_ ?h); case h => exact rfl)

theorem execDmaCompletionTimeout_only {u : UnitId} {s : State} : ∃ z, execDmaCompletionTimeout u s = .next z ∧ Only 0x8220B1910 s z := by
  unfold execDmaCompletionTimeout
  try dsimp only
  repeat' first
    | with_reducible refine ⟨_, rfl, ?_⟩
    | split
  repeat' first
    | with_reducible exact Only.refl _ _
    | ((with_reducible apply Only.trans ?_ (State.fetched_only (fun _ _ => ?_) ?k)); case k => exact rfl)
    | ((with_reducible apply Only.step State.timeoutError_only ?_ ?k); case k => exact rfl)
    | ((with_reducible apply Only.trans ?_ (State.movePiece_only (fun _ _ => ?_) ?k)); case k => exact rfl)
    | ((with_reducible apply Only.trans ?_ (State.report_only (fun _ _ => ?_) ?k)); case k => exact rfl)
    | ((with_reducible apply Only.trans ?_ (State.onFlow_only (fun _ _ => ?_) ?k)); case k => exact rfl)
    | dsimp only [id]
    | split
    | ((with_reducible apply Only.upd ?_ ?h); case h => exact rfl)

theorem State.judge_only {s : State} {f : Flow} {x : Xfer} {d : Td} : Only 0x30000 s (s.judge f x d).2.2 := by
  unfold State.judge
  dsimp only
  repeat' first
    | with_reducible exact Only.refl _ _
    | ((with_reducible apply Only.step State.setFence_only ?_ ?k); case k => exact rfl)
    | ((with_reducible apply Only.step State.modTenant_only ?_ ?k); case k => exact rfl)
    | with_reducible apply Only.foldl ?_ (fun _ _ => ?_)
    | dsimp only [id]
    | split
    | ((with_reducible apply Only.upd ?_ ?h); case h => exact rfl)

theorem State.checkTd_only {s : State} {f : Flow} {d : Td} : Only 0x31000 s (State.checkTd s f d) := by
  unfold State.checkTd
  dsimp only
  repeat' first
    | with_reducible exact Only.refl _ _
    | ((with_reducible apply Only.step State.judge_only ?_ ?k); case k => exact rfl)
    | ((with_reducible apply Only.step State.modFlow_only ?_ ?k); case k => exact rfl)
    | ((with_reducible apply Only.step State.traceRec_only ?_ ?k); case k => exact rfl)
    | with_reducible apply Only.foldl ?_ (fun _ _ => ?_)
    | dsimp only [id]
    | split
    | ((with_reducible apply Only.upd ?_ ?h); case h => exact rfl)

theorem State.checkOrder_only {s : State} {f : Fn} {k : Nat} : Only 0x10100 s (State.checkOrder s f k) := by
  unfold State.checkOrder
  try dsimp only
  repeat' first
    | with_reducible exact Only.refl _ _
    | ((with_reducible apply Only.step State.modOrder_only ?_ ?k); case k => exact rfl)
    | dsimp only [id]
    | split
    | ((with_reducible apply Only.upd ?_ ?h); case h => exact rfl)

theorem execCheck_only {u : UnitId} {s : State} : ∃ z, execCheck u s = .next z ∧ Only 0x220B1900 s z := by
  unfold execCheck
  repeat' first
    | with_reducible refine ⟨_, rfl, ?_⟩
    | split
  repeat' first
    | with_reducible exact Only.refl _ _
    | ((with_reducible apply Only.step State.checkTd_only ?_ ?k); case k => exact rfl)
    | ((with_reducible apply Only.trans ?_ (State.report_only (fun _ _ => ?_) ?k)); case k => exact rfl)
    | ((with_reducible apply Only.step State.checkOrder_only ?_ ?k); case k => exact rfl)
    | ((with_reducible apply Only.trans ?_ (State.onFlow_only (fun _ _ => ?_) ?k)); case k => exact rfl)
    | dsimp only [id]
    | split
    | ((with_reducible apply Only.upd ?_ ?h); case h => exact rfl)

theorem State.wantTtClear_only {s : State} {t : TenantId} {h : Fin 1024} : Only 0x800 s (State.wantTtClear s t h) := by
  unfold State.wantTtClear
  repeat' first
    | with_reducible exact Only.refl _ _
    | ((with_reducible apply Only.step State.request_only ?_ ?k); case k => exact rfl)
    | dsimp only [id]
    | split
    | ((with_reducible apply Only.upd ?_ ?h); case h => exact rfl)

theorem State.testTimeout_only {s : State} {f : Flow} {id : Nat} {ended : Bool} : Only 0x21800 s (State.testTimeout s f id ended) := by
  unfold State.testTimeout
  try dsimp only
  repeat' first
    | with_reducible exact Only.refl _ _
    | ((with_reducible apply Only.step State.wantTtClear_only ?_ ?k); case k => exact rfl)
    | ((with_reducible apply Only.step State.modFlow_only ?_ ?k); case k => exact rfl)
    | ((with_reducible apply Only.step State.traceRec_only ?_ ?k); case k => exact rfl)
    | dsimp only [id]
    | split
    | ((with_reducible apply Only.upd ?_ ?h); case h => exact rfl)

theorem State.endOverrun_only {s : State} {d : DevId} : Only 0x2000 s (State.endOverrun s d) := by
  unfold State.endOverrun
  repeat' first
    | with_reducible exact Only.refl _ _
    | ((with_reducible apply Only.step State.modSluice_only ?_ ?k); case k => exact rfl)
    | dsimp only [id]
    | split
    | ((with_reducible apply Only.upd ?_ ?h); case h => exact rfl)

theorem State.chargeTx_only {s : State} {f : Flow} {tx : Tx} {base : TxKind} {out : BusOutcome} :
    Only 0x4000 s (State.chargeTx s f tx base out) := by
  unfold State.chargeTx
  try dsimp only
  repeat' first
    | with_reducible exact Only.refl _ _
    | ((with_reducible apply Only.step State.chargeEnergy_only ?_ ?k); case k => exact rfl)
    | dsimp only [id]
    | split
    | ((with_reducible apply Only.upd ?_ ?h); case h => exact rfl)

theorem State.applyOutcome_only {s : State} {f : Flow} {id : Nat} {tx : Tx} {x : Xfer} {base : TxKind} {out : BusOutcome} :
    Only 0x20000 s (State.applyOutcome s f id tx x base out) := by
  unfold State.applyOutcome
  try dsimp only
  repeat' first
    | with_reducible exact Only.refl _ _
    | ((with_reducible apply Only.step State.modFlow_only ?_ ?k); case k => exact rfl)
    | dsimp only [id]
    | split
    | ((with_reducible apply Only.upd ?_ ?h); case h => exact rfl)

theorem State.traceParked_only {s : State} {f : Flow} {o : Op} : Only 0x1000 s (State.traceParked s f o) := by
  unfold State.traceParked
  repeat' first
    | with_reducible exact Only.refl _ _
    | ((with_reducible apply Only.step State.traceRec_only ?_ ?k); case k => exact rfl)
    | dsimp only [id]
    | split
    | ((with_reducible apply Only.upd ?_ ?h); case h => exact rfl)

theorem State.clearAfterError_only {s : State} {f : Flow} {id : Nat} {x : Xfer} : Only 0x800 s (State.clearAfterError s f id x) := by
  unfold State.clearAfterError
  repeat' first
    | with_reducible exact Only.refl _ _
    | ((with_reducible apply Only.step State.wantTtClear_only ?_ ?k); case k => exact rfl)
    | dsimp only [id]
    | split
    | ((with_reducible apply Only.upd ?_ ?h); case h => exact rfl)

theorem State.retestFlow_only {s : State} {f : Flow} : Only 0x20000 s (State.retestFlow s f) := by
  unfold State.retestFlow
  try dsimp only
  repeat' first
    | with_reducible exact Only.refl _ _
    | ((with_reducible apply Only.step State.modFlow_only ?_ ?k); case k => exact rfl)
    | with_reducible apply Only.foldl ?_ (fun _ _ => ?_)
    | dsimp only [id]
    | split
    | ((with_reducible apply Only.upd ?_ ?h); case h => exact rfl)

theorem State.retest_only {s : State} {p : Flow → Bool} : Only 0x20000 s (State.retest s p) := by
  unfold State.retest
  repeat' first
    | with_reducible exact Only.refl _ _
    | ((with_reducible apply Only.step State.retestFlow_only ?_ ?k); case k => exact rfl)
    | with_reducible apply Only.foldl ?_ (fun _ _ => ?_)
    | dsimp only [id]
    | split
    | ((with_reducible apply Only.upd ?_ ?h); case h => exact rfl)

theorem State.retestDue_only {s : State} {t : TenantId} {h : Fin 1024} : Only 0x20000 s (State.retestDue s t h) := by
  unfold State.retestDue
  repeat' first
    | with_reducible exact Only.refl _ _
    | ((with_reducible apply Only.step State.retestFlow_only ?_ ?k); case k => exact rfl)
    | dsimp only [id]
    | split
    | ((with_reducible apply Only.upd ?_ ?h); case h => exact rfl)

theorem State.issueEnd_only {s : State} {f : Flow} {o : Op} {out : BusOutcome} : Only 0xE5800 s (State.issueEnd s f o out) := by
  unfold State.issueEnd
  try dsimp only
  repeat' first
    | with_reducible exact Only.refl _ _
    | ((with_reducible apply Only.step State.modDev_only ?_ ?k); case k => exact rfl)
    | ((with_reducible apply Only.step State.traceParked_only ?_ ?k); case k => exact rfl)
    | ((with_reducible apply Only.step State.retestDue_only ?_ ?k); case k => exact rfl)
    | ((with_reducible apply Only.step State.chargeTx_only ?_ ?k); case k => exact rfl)
    | ((with_reducible apply Only.step State.modSide_only ?_ ?k); case k => exact rfl)
    | ((with_reducible apply Only.step State.testTimeout_only ?_ ?k); case k => exact rfl)
    | ((with_reducible apply Only.step State.applyOutcome_only ?_ ?k); case k => exact rfl)
    | ((with_reducible apply Only.step State.clearAfterError_only ?_ ?k); case k => exact rfl)
    | dsimp only [id]
    | split
    | ((with_reducible apply Only.upd ?_ ?h); case h => exact rfl)

theorem State.lpmEnd_only {s : State} {q : Req} {out : BusOutcome} : Only 0x40000 s (State.lpmEnd s q out) := by
  unfold State.lpmEnd
  repeat' first
    | with_reducible exact Only.refl _ _
    | ((with_reducible apply Only.step State.modDev_only ?_ ?k); case k => exact rfl)
    | dsimp only [id]
    | split
    | ((with_reducible apply Only.upd ?_ ?h); case h => exact rfl)

theorem State.stepReq_only {s : State} {q : Req} {out : BusOutcome} : Only 0x800 s (State.stepReq s q out) := by
  unfold State.stepReq
  try dsimp only
  repeat' first
    | with_reducible exact Only.refl _ _
    | ((with_reducible apply Only.step State.modReq_only ?_ ?k); case k => exact rfl)
    | dsimp only [id]
    | split
    | ((with_reducible apply Only.upd ?_ ?h); case h => exact rfl)

theorem State.reqEnd_only {s : State} {o : Op} {out : BusOutcome} : Only 0x800044800 s (State.reqEnd s o out) := by
  unfold State.reqEnd
  try dsimp only
  repeat' first
    | with_reducible exact Only.refl _ _
    | ((with_reducible apply Only.step State.stepReq_only ?_ ?k); case k => exact rfl)
    | ((with_reducible apply Only.step State.chargeEnergy_only ?_ ?k); case k => exact rfl)
    | ((with_reducible apply Only.step State.modDev_only ?_ ?k); case k => exact rfl)
    | ((with_reducible apply Only.step State.lpmEnd_only ?_ ?k); case k => exact rfl)
    | ((with_reducible apply Only.step State.emitOut_only ?_ ?k); case k => exact rfl)
    | dsimp only [id]
    | split
    | ((with_reducible apply Only.upd ?_ ?h); case h => exact rfl)

theorem State.suspendsDue_only {s : State} : Only 0x50900 s (State.suspendsDue s) := by
  unfold State.suspendsDue
  repeat' first
    | with_reducible exact Only.refl _ _
    | ((with_reducible apply Only.step State.suspendDue_only ?_ ?k); case k => exact rfl)
    | with_reducible apply Only.foldl ?_ (fun _ _ => ?_)
    | dsimp only [id]
    | split
    | ((with_reducible apply Only.upd ?_ ?h); case h => exact rfl)

theorem execTransferTimeout_only {t : TenantId} {h : Fin 1024} {s : State} :
    ∃ z, execTransferTimeout t h s = .next z ∧ Only 0x20A1800 s z := by
  unfold execTransferTimeout
  repeat' first
    | with_reducible refine ⟨_, rfl, ?_⟩
    | split
  repeat' first
    | with_reducible exact Only.refl _ _
    | ((with_reducible apply Only.step State.takePipes_only ?_ ?k); case k => exact rfl)
    | ((with_reducible apply Only.step State.settleFlow_only ?_ ?k); case k => exact rfl)
    | ((with_reducible apply Only.step State.testTimeout_only ?_ ?k); case k => exact rfl)
    | dsimp only [id]
    | split
    | ((with_reducible apply Only.upd ?_ ?h); case h => exact rfl)

theorem State.modDevFlows_only {s : State} {d : DevId} {g : Flow → Flow} : Only 0x20000 s (State.modDevFlows s d g) := by
  unfold State.modDevFlows
  repeat' first
    | with_reducible exact Only.refl _ _
    | dsimp only [id]
    | split
    | ((with_reducible apply Only.upd ?_ ?h); case h => exact rfl)

theorem State.askU1U2_only {s : State} {d : DevId} : Only 0x40800 s (State.askU1U2 s d) := by
  unfold State.askU1U2
  try dsimp only
  repeat' first
    | with_reducible exact Only.refl _ _
    | ((with_reducible apply Only.step State.modDev_only ?_ ?k); case k => exact rfl)
    | ((with_reducible apply Only.step State.request_only ?_ ?k); case k => exact rfl)
    | dsimp only [id]
    | split
    | ((with_reducible apply Only.upd ?_ ?h); case h => exact rfl)

theorem State.snoop_only {s : State} {f : Flow} {d : Td} {caps : List (List Byte)} : Only 0x60800 s (State.snoop s f d caps) := by
  unfold State.snoop
  try dsimp only
  repeat' first
    | with_reducible exact Only.refl _ _
    | ((with_reducible apply Only.step State.askU1U2_only ?_ ?k); case k => exact rfl)
    | ((with_reducible apply Only.step State.modDev_only ?_ ?k); case k => exact rfl)
    | ((with_reducible apply Only.step State.modDevFlows_only ?_ ?k); case k => exact rfl)
    | dsimp only [id]
    | split
    | ((with_reducible apply Only.upd ?_ ?h); case h => exact rfl)

theorem State.endTransfer_only {s : State} {f : Flow} {x : Xfer} {caps : List (List Byte)} :
    Only 0x142072900 s (State.endTransfer s f x caps) := by
  unfold State.endTransfer
  try dsimp only
  repeat' first
    | with_reducible exact Only.refl _ _
    | ((with_reducible apply Only.step State.snoop_only ?_ ?k); case k => exact rfl)
    | ((with_reducible apply Only.step State.tearDown_only ?_ ?k); case k => exact rfl)
    | ((with_reducible apply Only.step State.modFlow_only ?_ ?k); case k => exact rfl)
    | ((with_reducible apply Only.step State.modSluice_only ?_ ?k); case k => exact rfl)
    | dsimp only [id]
    | split
    | ((with_reducible apply Only.upd ?_ ?h); case h => exact rfl)

theorem State.retireTd_only {s : State} {f : Flow} {d : Td} {caps : List (List Byte)} : Only 0x142072900 s (State.retireTd s f d caps) := by
  unfold State.retireTd
  try dsimp only
  repeat' first
    | with_reducible exact Only.refl _ _
    | ((with_reducible apply Only.step State.modFlow_only ?_ ?k); case k => exact rfl)
    | ((with_reducible apply Only.step State.endTransfer_only ?_ ?k); case k => exact rfl)
    | dsimp only [id]
    | split
    | ((with_reducible apply Only.upd ?_ ?h); case h => exact rfl)

theorem State.quiesceHead_only {s : State} {t : TenantId} {h : Fin 1024} : Only 0x142072900 s (State.quiesceHead s t h) := by
  unfold State.quiesceHead
  try dsimp only
  repeat' first
    | with_reducible exact Only.refl _ _
    | ((with_reducible apply Only.step State.wantTtClear_only ?_ ?k); case k => exact rfl)
    | ((with_reducible apply Only.step State.modFlow_only ?_ ?k); case k => exact rfl)
    | ((with_reducible apply Only.step State.endTransfer_only ?_ ?k); case k => exact rfl)
    | dsimp only [id]
    | split
    | ((with_reducible apply Only.upd ?_ ?h); case h => exact rfl)

theorem State.quiesceDue_only {s : State} : Only 0x142072900 s (State.quiesceDue s) := by
  unfold State.quiesceDue
  repeat' first
    | with_reducible exact Only.refl _ _
    | ((with_reducible apply Only.step State.quiesceHead_only ?_ ?k); case k => exact rfl)
    | with_reducible apply Only.foldl ?_ (fun _ _ => ?_)
    | dsimp only [id]
    | split
    | ((with_reducible apply Only.upd ?_ ?h); case h => exact rfl)

theorem State.retireOrder_only {s : State} {f : Fn} {k : Nat} : Only 0x10100 s (State.retireOrder s f k) := by
  unfold State.retireOrder
  repeat' first
    | with_reducible exact Only.refl _ _
    | ((with_reducible apply Only.step State.modOrder_only ?_ ?k); case k => exact rfl)
    | dsimp only [id]
    | split
    | ((with_reducible apply Only.upd ?_ ?h); case h => exact rfl)

theorem State.endIssue_only {s : State} {u : UnitId} {out : BusOutcome} : Only 0x9620F7900 s (State.endIssue s u out) := by
  unfold State.endIssue
  repeat' first
    | with_reducible exact Only.refl _ _
    | ((with_reducible apply Only.step State.reqEnd_only ?_ ?k); case k => exact rfl)
    | ((with_reducible apply Only.step State.quiesceDue_only ?_ ?k); case k => exact rfl)
    | ((with_reducible apply Only.trans ?_ (State.report_only (fun _ _ => ?_) ?k)); case k => exact rfl)
    | ((with_reducible apply Only.step State.suspendsDue_only ?_ ?k); case k => exact rfl)
    | ((with_reducible apply Only.step State.endOverrun_only ?_ ?k); case k => exact rfl)
    | ((with_reducible apply Only.trans ?_ (State.onFlow_only (fun _ _ => ?_) ?k)); case k => exact rfl)
    | ((with_reducible apply Only.step State.issueEnd_only ?_ ?k); case k => exact rfl)
    | dsimp only [id]
    | split
    | ((with_reducible apply Only.upd ?_ ?h); case h => exact rfl)

theorem execIssue_only {u : UnitId} {out : BusOutcome} {s : State} : ∃ z, execIssue u out s = .next z ∧ Only 0x9620F7900 s z := by
  unfold execIssue
  repeat' first
    | with_reducible refine ⟨_, rfl, ?_⟩
    | split
  repeat' first
    | with_reducible exact Only.refl _ _
    | ((with_reducible apply Only.step State.endIssue_only ?_ ?k); case k => exact rfl)
    | dsimp only [id]
    | split
    | ((with_reducible apply Only.upd ?_ ?h); case h => exact rfl)

theorem execRetire_only {e : RetireEnd} {s : State} : ∃ z, execRetire e s = .next z ∧ Only 0x1620F3900 s z := by
  unfold execRetire
  repeat' first
    | with_reducible refine ⟨_, rfl, ?_⟩
    | split
  repeat' first
    | with_reducible exact Only.refl _ _
    | ((with_reducible apply Only.step State.retireOrder_only ?_ ?k); case k => exact rfl)
    | ((with_reducible apply Only.step State.quiesceDue_only ?_ ?k); case k => exact rfl)
    | ((with_reducible apply Only.step State.retireTd_only ?_ ?k); case k => exact rfl)
    | ((with_reducible apply Only.trans ?_ (State.report_only (fun _ _ => ?_) ?k)); case k => exact rfl)
    | ((with_reducible apply Only.trans ?_ (State.onFlow_only (fun _ _ => ?_) ?k)); case k => exact rfl)
    | dsimp only [id]
    | split
    | ((with_reducible apply Only.upd ?_ ?h); case h => exact rfl)

theorem execU1U2Enable_only {d : DevId} {u1 u2 : ReqEnd} {s : State} : ∃ z, execU1U2Enable d u1 u2 s = .next z ∧ Only 0x40800 s z := by
  unfold execU1U2Enable
  try dsimp only
  repeat' first
    | with_reducible refine ⟨_, rfl, ?_⟩
    | split
  repeat' first
    | with_reducible exact Only.refl _ _
    | ((with_reducible apply Only.step State.modDev_only ?_ ?k); case k => exact rfl)
    | ((with_reducible apply Only.step State.setTimeouts_only ?_ ?k); case k => exact rfl)
    | ((with_reducible apply Only.step State.dropReqs_only ?_ ?k); case k => exact rfl)
    | dsimp only [id]
    | split
    | ((with_reducible apply Only.upd ?_ ?h); case h => exact rfl)

theorem State.releaseFlows_only {s : State} {t : TenantId} {k : Nat} : Only 0x31100 s (State.releaseFlows s t k) := by
  induction k generalizing s with
  | zero => exact Only.refl _ _
  | succ k ih =>
    unfold State.releaseFlows
    split
    · exact (State.releaseFlow_only.mono rfl).trans ih
    · exact Only.refl _ _

theorem State.releaseOrders_only {s : State} {f : Fn} {k : Nat} : Only 0x11100 s (State.releaseOrders s f k) := by
  induction k generalizing s with
  | zero => exact Only.refl _ _
  | succ k ih =>
    unfold State.releaseOrders
    dsimp only
    split
    · split
      · exact (((State.modRings_only.mono rfl).trans (State.traceRec_only.mono rfl)).trans (State.complete_only.mono rfl)).trans ih
      · exact Only.refl _ _
    · exact Only.refl _ _

theorem State.finishClose_only {s : State} {t : TenantId} {h : Fin 1024} : Only 0x70900 s (State.finishClose s t h) := by
  unfold State.finishClose
  repeat' first
    | with_reducible exact Only.refl _ _
    | ((with_reducible apply Only.step State.syncU2_only ?_ ?k); case k => exact rfl)
    | ((with_reducible apply Only.step State.endOrder_only ?_ ?k); case k => exact rfl)
    | dsimp only [id]
    | split
    | ((with_reducible apply Only.upd ?_ ?h); case h => exact rfl)

theorem State.finishCloses_only {s : State} {t : TenantId} : Only 0x70900 s (State.finishCloses s t) := by
  unfold State.finishCloses
  repeat' first
    | with_reducible exact Only.refl _ _
    | ((with_reducible apply Only.step State.finishClose_only ?_ ?k); case k => exact rfl)
    | with_reducible apply Only.foldl ?_ (fun _ _ => ?_)
    | dsimp only [id]
    | split
    | ((with_reducible apply Only.upd ?_ ?h); case h => exact rfl)

theorem State.finishStops_only {s : State} : Only 0x10100 s (State.finishStops s) := by
  unfold State.finishStops
  repeat' first
    | with_reducible exact Only.refl _ _
    | ((with_reducible apply Only.step State.endWhere_only ?_ ?k); case k => exact rfl)
    | dsimp only [id]
    | split
    | ((with_reducible apply Only.upd ?_ ?h); case h => exact rfl)

theorem execRelease_only {f : Fn} {s : State} : ∃ z, execRelease f s = .next z ∧ Only 0x71900 s z := by
  unfold execRelease
  try dsimp only
  repeat' first
    | with_reducible refine ⟨_, rfl, ?_⟩
    | split
  repeat' first
    | with_reducible exact Only.refl _ _
    | ((with_reducible apply Only.step State.finishStops_only ?_ ?k); case k => exact rfl)
    | ((with_reducible apply Only.step State.releaseOrders_only ?_ ?k); case k => exact rfl)
    | ((with_reducible apply Only.step State.releaseFlows_only ?_ ?k); case k => exact rfl)
    | ((with_reducible apply Only.step State.finishCloses_only ?_ ?k); case k => exact rfl)
    | dsimp only [id]
    | split
    | ((with_reducible apply Only.upd ?_ ?h); case h => exact rfl)

theorem State.writeEvent_only {s : State} {f : Fn} {n : NotifyOp} {time : Nat} : Only 0x800011110 s (State.writeEvent s f n time) := by
  unfold State.writeEvent
  try dsimp only
  repeat' first
    | with_reducible exact Only.refl _ _
    | ((with_reducible apply Only.step State.modRings_only ?_ ?k); case k => exact rfl)
    | ((with_reducible apply Only.step State.postWrite_only ?_ ?k); case k => exact rfl)
    | dsimp only [id]
    | split
    | ((with_reducible apply Only.upd ?_ ?h); case h => exact rfl)

theorem execNotify_only {u : UnitId} {s : State} : ∃ z, execNotify u s = .next z ∧ Only 0x820091910 s z := by
  unfold execNotify
  repeat' first
    | with_reducible refine ⟨_, rfl, ?_⟩
    | split
  repeat' first
    | with_reducible exact Only.refl _ _
    | ((with_reducible apply Only.trans ?_ (State.report_only (fun _ _ => ?_) ?k)); case k => exact rfl)
    | ((with_reducible apply Only.step State.writeEvent_only ?_ ?k); case k => exact rfl)
    | dsimp only [id]
    | split
    | ((with_reducible apply Only.upd ?_ ?h); case h => exact rfl)

theorem execFrameTrim_only {u : UnitId} {s : State} : ∃ z, execFrameTrim u s = .next z ∧ Only 0x20091D00 s z := by
  unfold execFrameTrim
  repeat' first
    | with_reducible refine ⟨_, rfl, ?_⟩
    | split
  repeat' first
    | with_reducible exact Only.refl _ _
    | ((with_reducible apply Only.trans ?_ (State.report_only (fun _ _ => ?_) ?k)); case k => exact rfl)
    | dsimp only [id]
    | split
    | ((with_reducible apply Only.upd ?_ ?h); case h => exact rfl)

theorem State.spill_only {s : State} : Only 0x800011110 s (State.spill s) := by
  unfold State.spill
  try dsimp only
  repeat' first
    | with_reducible exact Only.refl _ _
    | ((with_reducible apply Only.step State.postWrite_only ?_ ?k); case k => exact rfl)
    | dsimp only [id]
    | split
    | ((with_reducible apply Only.upd ?_ ?h); case h => exact rfl)

theorem execTraceSpill_only {u : UnitId} {s : State} : ∃ z, execTraceSpill u s = .next z ∧ Only 0x820091910 s z := by
  unfold execTraceSpill
  repeat' first
    | with_reducible refine ⟨_, rfl, ?_⟩
    | split
  repeat' first
    | with_reducible exact Only.refl _ _
    | ((with_reducible apply Only.step State.spill_only ?_ ?k); case k => exact rfl)
    | ((with_reducible apply Only.trans ?_ (State.report_only (fun _ _ => ?_) ?k)); case k => exact rfl)
    | dsimp only [id]
    | split
    | ((with_reducible apply Only.upd ?_ ?h); case h => exact rfl)

theorem State.stepTime_only {s : State} : Only 0xB0700 s (State.stepTime s) := by
  unfold State.stepTime
  try dsimp only
  repeat' first
    | with_reducible exact Only.refl _ _
    | ((with_reducible apply Only.step State.settleFlow_only ?_ ?k); case k => exact rfl)
    | ((with_reducible apply Only.step State.applyStep_only ?_ ?k); case k => exact rfl)
    | with_reducible apply Only.foldl ?_ (fun _ _ => ?_)
    | dsimp only [id]
    | split
    | ((with_reducible apply Only.upd ?_ ?h); case h => exact rfl)

theorem State.swapDone_only {s : State} {t : TenantId} {code : Nat} : Only 0x10100 s (State.swapDone s t code) := by
  unfold State.swapDone
  repeat' first
    | with_reducible exact Only.refl _ _
    | ((with_reducible apply Only.step State.endWaiting_only ?_ ?k); case k => exact rfl)
    | dsimp only [id]
    | split
    | ((with_reducible apply Only.upd ?_ ?h); case h => exact rfl)

theorem State.activate_only {s : State} {t : TenantId} {r : ShareRec} : Only 0x10100 s (State.activate s t r) := by
  unfold State.activate
  try dsimp only
  repeat' first
    | with_reducible exact Only.refl _ _
    | ((with_reducible apply Only.step State.drainRing_only ?_ ?k); case k => exact rfl)
    | ((with_reducible apply Only.step State.modTenant_only ?_ ?k); case k => exact rfl)
    | ((with_reducible apply Only.step State.swapDone_only ?_ ?k); case k => exact rfl)
    | dsimp only [id]
    | split
    | ((with_reducible apply Only.upd ?_ ?h); case h => exact rfl)

theorem State.changeShare_only {s : State} {t : TenantId} {r : ShareRec} : Only 0x30100 s (State.changeShare s t r) := by
  unfold State.changeShare
  try dsimp only
  repeat' first
    | with_reducible exact Only.refl _ _
    | ((with_reducible apply Only.step State.retest_only ?_ ?k); case k => exact rfl)
    | ((with_reducible apply Only.step State.modTenant_only ?_ ?k); case k => exact rfl)
    | ((with_reducible apply Only.step State.swapDone_only ?_ ?k); case k => exact rfl)
    | ((with_reducible apply Only.step State.tenantNotice_only ?_ ?k); case k => exact rfl)
    | dsimp only [id]
    | split
    | ((with_reducible apply Only.upd ?_ ?h); case h => exact rfl)

theorem State.swapTenant_only {s : State} {t : TenantId} : Only 0x30100 s (State.swapTenant s t) := by
  unfold State.swapTenant
  repeat' first
    | with_reducible exact Only.refl _ _
    | ((with_reducible apply Only.step State.changeShare_only ?_ ?k); case k => exact rfl)
    | ((with_reducible apply Only.step State.activate_only ?_ ?k); case k => exact rfl)
    | dsimp only [id]
    | split
    | ((with_reducible apply Only.upd ?_ ?h); case h => exact rfl)

theorem State.policySwap_only {s : State} : Only 0x34900 s (State.policySwap s) := by
  unfold State.policySwap
  repeat' first
    | with_reducible exact Only.refl _ _
    | ((with_reducible apply Only.step State.swapTenant_only ?_ ?k); case k => exact rfl)
    | with_reducible apply Only.foldl ?_ (fun _ _ => ?_)
    | dsimp only [id]
    | split
    | ((with_reducible apply Only.upd ?_ ?h); case h => exact rfl)

theorem State.missSlot_only {s : State} {f : Flow} {id : Nat} {gate : Bool} : Only 0x26000 s (State.missSlot s f id gate) := by
  unfold State.missSlot
  try dsimp only
  repeat' first
    | with_reducible exact Only.refl _ _
    | ((with_reducible apply Only.step State.countGateMiss_only ?_ ?k); case k => exact rfl)
    | ((with_reducible apply Only.step State.countEnergyMiss_only ?_ ?k); case k => exact rfl)
    | ((with_reducible apply Only.step State.modFlow_only ?_ ?k); case k => exact rfl)
    | dsimp only [id]
    | split
    | ((with_reducible apply Only.upd ?_ ?h); case h => exact rfl)

theorem State.openSlot_only {s : State} {f : Flow} {r : Resv} {n : Nat} : Only 0x26000 s (State.openSlot s f r n) := by
  unfold State.openSlot
  try dsimp only
  repeat' first
    | with_reducible exact Only.refl _ _
    | ((with_reducible apply Only.step State.missSlot_only ?_ ?k); case k => exact rfl)
    | ((with_reducible apply Only.step State.modFlow_only ?_ ?k); case k => exact rfl)
    | dsimp only [id]
    | split
    | ((with_reducible apply Only.upd ?_ ?h); case h => exact rfl)

theorem State.closeSlot_only {s : State} {f : Flow} {n : Nat} : Only 0x26000 s (State.closeSlot s f n) := by
  unfold State.closeSlot
  try dsimp only
  repeat' first
    | with_reducible exact Only.refl _ _
    | ((with_reducible apply Only.step State.missSlot_only ?_ ?k); case k => exact rfl)
    | ((with_reducible apply Only.step State.modFlow_only ?_ ?k); case k => exact rfl)
    | dsimp only [id]
    | split
    | ((with_reducible apply Only.upd ?_ ?h); case h => exact rfl)

theorem State.slotFlow_only {s : State} {n : Nat} {t : TenantId} {h : Fin 1024} : Only 0x26000 s (State.slotFlow s n t h) := by
  unfold State.slotFlow
  try dsimp only
  repeat' first
    | with_reducible exact Only.refl _ _
    | ((with_reducible apply Only.step State.openSlot_only ?_ ?k); case k => exact rfl)
    | ((with_reducible apply Only.step State.closeSlot_only ?_ ?k); case k => exact rfl)
    | dsimp only [id]
    | split
    | ((with_reducible apply Only.upd ?_ ?h); case h => exact rfl)

theorem State.sendLtr_only {s : State} : Only 0x800000400 s (State.sendLtr s) := by
  unfold State.sendLtr
  try dsimp only
  repeat' first
    | with_reducible exact Only.refl _ _
    | ((with_reducible apply Only.step State.emitOut_only ?_ ?k); case k => exact rfl)
    | dsimp only [id]
    | split
    | ((with_reducible apply Only.upd ?_ ?h); case h => exact rfl)

theorem State.unpark_only {s : State} : Only 0x20000 s (State.unpark s) := by
  unfold State.unpark
  repeat' first
    | with_reducible exact Only.refl _ _
    | dsimp only [id]
    | split
    | ((with_reducible apply Only.upd ?_ ?h); case h => exact rfl)

theorem State.sofOf_only {s : State} {x : Dev} : Only 0x800000000 s (State.sofOf s x) := by
  unfold State.sofOf
  try dsimp only
  repeat' first
    | with_reducible exact Only.refl _ _
    | ((with_reducible apply Only.step State.emitOut_only ?_ ?k); case k => exact rfl)
    | dsimp only [id]
    | split
    | ((with_reducible apply Only.upd ?_ ?h); case h => exact rfl)

theorem State.wantTrim_only {s : State} : Only 0x800 s (State.wantTrim s) := by
  unfold State.wantTrim
  repeat' first
    | with_reducible exact Only.refl _ _
    | ((with_reducible apply Only.step State.addWork_only ?_ ?k); case k => exact rfl)
    | dsimp only [id]
    | split
    | ((with_reducible apply Only.upd ?_ ?h); case h => exact rfl)

theorem State.drift_only {s : State} : Only 0x400 s (State.drift s) := by
  unfold State.drift
  repeat' first
    | with_reducible exact Only.refl _ _
    | dsimp only [id]
    | split
    | ((with_reducible apply Only.upd ?_ ?h); case h => exact rfl)

theorem State.boundary_only {s : State} : Only 0x8000B6F00 s (State.boundary s) := by
  unfold State.boundary
  try dsimp only
  repeat' first
    | with_reducible exact Only.refl _ _
    | ((with_reducible apply Only.step State.drift_only ?_ ?k); case k => exact rfl)
    | ((with_reducible apply Only.step State.sendLtr_only ?_ ?k); case k => exact rfl)
    | ((with_reducible apply Only.step State.policySwap_only ?_ ?k); case k => exact rfl)
    | ((with_reducible apply Only.step State.unpark_only ?_ ?k); case k => exact rfl)
    | ((with_reducible apply Only.step State.sofOf_only ?_ ?k); case k => exact rfl)
    | ((with_reducible apply Only.step State.stepTime_only ?_ ?k); case k => exact rfl)
    | ((with_reducible apply Only.step State.wantTrim_only ?_ ?k); case k => exact rfl)
    | ((with_reducible apply Only.step State.slotFlow_only ?_ ?k); case k => exact rfl)
    | with_reducible apply Only.foldl ?_ (fun _ _ => ?_)
    | dsimp only [id]
    | split
    | ((with_reducible apply Only.upd ?_ ?h); case h => exact rfl)

theorem execMicroframeBoundary_only {s : State} : ∃ z, execMicroframeBoundary s = .next z ∧ Only 0x8000B6F00 s z := by
  unfold execMicroframeBoundary
  repeat' first
    | with_reducible refine ⟨_, rfl, ?_⟩
    | split
  repeat' first
    | with_reducible exact Only.refl _ _
    | ((with_reducible apply Only.step State.boundary_only ?_ ?k); case k => exact rfl)
    | dsimp only [id]
    | split
    | ((with_reducible apply Only.upd ?_ ?h); case h => exact rfl)

theorem State.releaseDelays_only {s : State} {start : Nat} {slept : Option Nat} : Only 0x2000800 s (State.releaseDelays s start slept) := by
  unfold State.releaseDelays
  try dsimp only
  repeat' first
    | with_reducible exact Only.refl _ _
    | ((with_reducible apply Only.step State.dropFailures_only ?_ ?k); case k => exact rfl)
    | dsimp only [id]
    | split
    | ((with_reducible apply Only.upd ?_ ?h); case h => exact rfl)

theorem execWheelTick_only {s : State} : ∃ z, execWheelTick s = .next z ∧ Only 0x2000800 s z := by
  unfold execWheelTick
  repeat' first
    | with_reducible refine ⟨_, rfl, ?_⟩
    | split
  repeat' first
    | with_reducible exact Only.refl _ _
    | ((with_reducible apply Only.step State.releaseDelays_only ?_ ?k); case k => exact rfl)
    | dsimp only [id]
    | split
    | ((with_reducible apply Only.upd ?_ ?h); case h => exact rfl)

theorem execGateEdge_only {p : PortId} {s : State} : ∃ z, execGateEdge p s = .next z ∧ Only 0x2000 s z := by
  unfold execGateEdge
  repeat' first
    | with_reducible refine ⟨_, rfl, ?_⟩
    | split
  repeat' first
    | with_reducible exact Only.refl _ _
    | ((with_reducible apply Only.step State.modSluice_only ?_ ?k); case k => exact rfl)
    | dsimp only [id]
    | split
    | ((with_reducible apply Only.upd ?_ ?h); case h => exact rfl)

theorem State.switchover_only {s : State} {p : PortId} : Only 0x22000 s (State.switchover s p) := by
  unfold State.switchover
  try dsimp only
  repeat' first
    | with_reducible exact Only.refl _ _
    | ((with_reducible apply Only.step State.retest_only ?_ ?k); case k => exact rfl)
    | ((with_reducible apply Only.step State.modSluice_only ?_ ?k); case k => exact rfl)
    | dsimp only [id]
    | split
    | ((with_reducible apply Only.upd ?_ ?h); case h => exact rfl)

theorem execSluiceSwitchover_only {p : PortId} {s : State} : ∃ z, execSluiceSwitchover p s = .next z ∧ Only 0x22000 s z := by
  unfold execSluiceSwitchover
  try dsimp only
  repeat' first
    | with_reducible refine ⟨_, rfl, ?_⟩
    | split
  repeat' first
    | with_reducible exact Only.refl _ _
    | ((with_reducible apply Only.step State.switchover_only ?_ ?k); case k => exact rfl)
    | dsimp only [id]
    | split
    | ((with_reducible apply Only.upd ?_ ?h); case h => exact rfl)

theorem execNoop_only {f : Fn} {k : Nat} {s : State} : ∃ z, execNoop f k s = .next z ∧ Only 0x10100 s z := by
  unfold execNoop
  repeat' first
    | with_reducible refine ⟨_, rfl, ?_⟩
    | split
  repeat' first
    | with_reducible exact Only.refl _ _
    | ((with_reducible apply State.withOrder_only ?_ (fun _ => ?_) ?k); case k => exact rfl)
    | ((with_reducible apply Only.step State.endOrder_only ?_ ?k); case k => exact rfl)
    | dsimp only [id]
    | split
    | ((with_reducible apply Only.upd ?_ ?h); case h => exact rfl)

theorem State.admitEp_only {s x : State} {t : TenantId} {d : Dev} {e : EpDesc} {r : Option (Option Resv)}
    (h : s.admitEp t d e = (r, x)) : Only 0x400 s x := by
  unfold State.admitEp at h
  split at h
  · split at h <;> cases h <;> exact State.reserveEp_only ‹_›
  · cases h
    exact Only.refl _ _

theorem State.openFlow_only {s : State} {t : TenantId} {o : Order} {d : Dev} {e : EpDesc} {r : Option Resv} {entry : Nat} :
    Only 0x20000 s (State.openFlow s t o d e r entry) := by
  unfold State.openFlow
  try dsimp only
  repeat' first
    | with_reducible exact Only.refl _ _
    | dsimp only [id]
    | split
    | ((with_reducible apply Only.upd ?_ ?h); case h => exact rfl)

theorem State.openEp_only {s : State} {t : TenantId} {k : Nat} {o : Order} {cfg : List AltSetting} :
    Only 0x70D00 s (State.openEp s t k o cfg) := by
  unfold State.openEp
  try dsimp only
  repeat' first
    | with_reducible exact Only.refl _ _
    | ((with_reducible apply Only.step State.openFlow_only ?_ ?k); case k => exact rfl)
    | ((with_reducible apply Only.step State.syncU2_only ?_ ?k); case k => exact rfl)
    | ((with_reducible apply Only.step (State.admitEp_only ?h) ?_ ?k); (case h => with_reducible assumption); case k => exact rfl)
    | ((with_reducible apply Only.step State.endOrder_only ?_ ?k); case k => exact rfl)
    | dsimp only [id]
    | split
    | ((with_reducible apply Only.upd ?_ ?h); case h => exact rfl)

theorem execOpenEp_only {t : TenantId} {k : Nat} {cfg : List AltSetting} {s : State} :
    ∃ z, execOpenEp t k cfg s = .next z ∧ Only 0x70D00 s z := by
  unfold execOpenEp
  repeat' first
    | with_reducible refine ⟨_, rfl, ?_⟩
    | split
  repeat' first
    | with_reducible exact Only.refl _ _
    | ((with_reducible apply State.withOrder_only ?_ (fun _ => ?_) ?k); case k => exact rfl)
    | ((with_reducible apply Only.step State.openEp_only ?_ ?k); case k => exact rfl)
    | dsimp only [id]
    | split
    | ((with_reducible apply Only.upd ?_ ?h); case h => exact rfl)

theorem State.cutSplits_only {s : State} {p : Flow → Bool} : Only 0x800 s (State.cutSplits s p) := by
  unfold State.cutSplits
  repeat' first
    | with_reducible exact Only.refl _ _
    | ((with_reducible apply Only.step State.wantTtClear_only ?_ ?k); case k => exact rfl)
    | with_reducible apply Only.foldl ?_ (fun _ _ => ?_)
    | dsimp only [id]
    | split
    | ((with_reducible apply Only.upd ?_ ?h); case h => exact rfl)

theorem State.closeFlow_only {s : State} {t : TenantId} {h : Fin 1024} {k : Nat} : Only 0x142030900 s (State.closeFlow s t h k) := by
  unfold State.closeFlow
  try dsimp only
  repeat' first
    | with_reducible exact Only.refl _ _
    | ((with_reducible apply Only.step State.tearDown_only ?_ ?k); case k => exact rfl)
    | ((with_reducible apply Only.step State.modFlow_only ?_ ?k); case k => exact rfl)
    | ((with_reducible apply Only.step State.dropHs_only ?_ ?k); case k => exact rfl)
    | ((with_reducible apply Only.step State.cutSplits_only ?_ ?k); case k => exact rfl)
    | dsimp only [id]
    | split
    | ((with_reducible apply Only.upd ?_ ?h); case h => exact rfl)

theorem execCloseEp_only {t : TenantId} {k : Nat} {s : State} : ∃ z, execCloseEp t k s = .next z ∧ Only 0x142070900 s z := by
  unfold execCloseEp
  repeat' first
    | with_reducible refine ⟨_, rfl, ?_⟩
    | split
  repeat' first
    | with_reducible exact Only.refl _ _
    | ((with_reducible apply State.withOrder_only ?_ (fun _ => ?_) ?k); case k => exact rfl)
    | ((with_reducible apply Only.step State.waitOrder_only ?_ ?k); case k => exact rfl)
    | ((with_reducible apply Only.step State.finishClose_only ?_ ?k); case k => exact rfl)
    | ((with_reducible apply Only.step State.closeFlow_only ?_ ?k); case k => exact rfl)
    | ((with_reducible apply Only.step State.endOrder_only ?_ ?k); case k => exact rfl)
    | dsimp only [id]
    | split
    | ((with_reducible apply Only.upd ?_ ?h); case h => exact rfl)

theorem execResetEp_only {t : TenantId} {k : Nat} {s : State} : ∃ z, execResetEp t k s = .next z ∧ Only 0x30100 s z := by
  unfold execResetEp
  repeat' first
    | with_reducible refine ⟨_, rfl, ?_⟩
    | split
  repeat' first
    | with_reducible exact Only.refl _ _
    | ((with_reducible apply State.withOrder_only ?_ (fun _ => ?_) ?k); case k => exact rfl)
    | ((with_reducible apply Only.step State.rejoin_only ?_ ?k); case k => exact rfl)
    | ((with_reducible apply Only.step State.modFlow_only ?_ ?k); case k => exact rfl)
    | ((with_reducible apply Only.step State.endOrder_only ?_ ?k); case k => exact rfl)
    | dsimp only [id]
    | split
    | ((with_reducible apply Only.upd ?_ ?h); case h => exact rfl)

theorem execSetDequeue_only {t : TenantId} {k : Nat} {s : State} : ∃ z, execSetDequeue t k s = .next z ∧ Only 0x30100 s z := by
  unfold execSetDequeue
  try dsimp only
  repeat' first
    | with_reducible refine ⟨_, rfl, ?_⟩
    | split
  repeat' first
    | with_reducible exact Only.refl _ _
    | ((with_reducible apply State.withOrder_only ?_ (fun _ => ?_) ?k); case k => exact rfl)
    | ((with_reducible apply Only.step State.rejoin_only ?_ ?k); case k => exact rfl)
    | ((with_reducible apply Only.step State.modFlow_only ?_ ?k); case k => exact rfl)
    | ((with_reducible apply Only.step State.endOrder_only ?_ ?k); case k => exact rfl)
    | dsimp only [id]
    | split
    | ((with_reducible apply Only.upd ?_ ?h); case h => exact rfl)

theorem execSetGroup_only {t : TenantId} {k : Nat} {s : State} : ∃ z, execSetGroup t k s = .next z ∧ Only 0x30100 s z := by
  unfold execSetGroup
  try dsimp only
  repeat' first
    | with_reducible refine ⟨_, rfl, ?_⟩
    | split
  repeat' first
    | with_reducible exact Only.refl _ _
    | ((with_reducible apply State.withOrder_only ?_ (fun _ => ?_) ?k); case k => exact rfl)
    | ((with_reducible apply Only.step State.rejoin_only ?_ ?k); case k => exact rfl)
    | ((with_reducible apply Only.step State.modFlow_only ?_ ?k); case k => exact rfl)
    | ((with_reducible apply Only.step State.endOrder_only ?_ ?k); case k => exact rfl)
    | dsimp only [id]
    | split
    | ((with_reducible apply Only.upd ?_ ?h); case h => exact rfl)

theorem State.onVp_only {s : State} {t : TenantId} {k code : Nat} {free : Dev → Bool} {act : Order → Dev → State} {z : State} {m : Nat} (a :
    Only m z s) (hact : ∀ y0 y1, Only m z (act y0 y1)) (hk : 0x10100 ||| m = m) :
    Only m z (State.onVp s t k code free act) := by
  unfold State.onVp
  try dsimp only
  repeat' first
    | with_reducible exact Only.refl _ _
    | with_reducible exact hact _ _
    | with_reducible assumption
    | ((with_reducible apply State.withOrder_only ?_ (fun _ => ?_) ?k); case k => exact mask_sub rfl hk)
    | ((with_reducible apply Only.step State.endOrder_only ?_ ?k); case k => exact mask_sub rfl hk)
    | dsimp only [id]
    | split
    | ((with_reducible apply Only.updMono (m := 0x10100) ?_ ?h ?k); (case h => exact rfl); case k => exact mask_sub rfl hk)

theorem State.resetHandles_only {s : State} {t : TenantId} {vp : Nat} : Only 0x20000 s (State.resetHandles s t vp) := by
  unfold State.resetHandles
  repeat' first
    | with_reducible exact Only.refl _ _
    | dsimp only [id]
    | split
    | ((with_reducible apply Only.upd ?_ ?h); case h => exact rfl)

theorem State.resetVp_only {s : State} {t : TenantId} {d : Dev} {k : Nat} : Only 0x21420F0900 s (State.resetVp s t d k) := by
  unfold State.resetVp
  try dsimp only
  repeat' first
    | with_reducible exact Only.refl _ _
    | ((with_reducible apply Only.step State.resetHandles_only ?_ ?k); case k => exact rfl)
    | ((with_reducible apply Only.step State.beginReset_only ?_ ?k); case k => exact rfl)
    | ((with_reducible apply Only.step State.waitOrder_only ?_ ?k); case k => exact rfl)
    | ((with_reducible apply Only.step State.cutSplits_only ?_ ?k); case k => exact rfl)
    | ((with_reducible apply Only.step State.tearDownAll_only ?_ ?k); case k => exact rfl)
    | dsimp only [id]
    | split
    | ((with_reducible apply Only.upd ?_ ?h); case h => exact rfl)

theorem execPortReset_only {t : TenantId} {k : Nat} {s : State} : ∃ z, execPortReset t k s = .next z ∧ Only 0x21420F0900 s z := by
  unfold execPortReset
  repeat' first
    | with_reducible refine ⟨_, rfl, ?_⟩
    | split
  repeat' first
    | with_reducible exact Only.refl _ _
    | ((with_reducible apply Only.step State.resetVp_only ?_ ?k); case k => exact rfl)
    | ((with_reducible apply State.onVp_only ?_ (fun _ _ => ?_) ?k); case k => exact rfl)
    | dsimp only [id]
    | split
    | ((with_reducible apply Only.upd ?_ ?h); case h => exact rfl)

theorem execPortSuspend_only {t : TenantId} {k : Nat} {s : State} : ∃ z, execPortSuspend t k s = .next z ∧ Only 0x50900 s z := by
  unfold execPortSuspend
  repeat' first
    | with_reducible refine ⟨_, rfl, ?_⟩
    | split
  repeat' first
    | with_reducible exact Only.refl _ _
    | ((with_reducible apply Only.step State.waitOrder_only ?_ ?k); case k => exact rfl)
    | ((with_reducible apply Only.step State.modDev_only ?_ ?k); case k => exact rfl)
    | ((with_reducible apply State.onVp_only ?_ (fun _ _ => ?_) ?k); case k => exact rfl)
    | ((with_reducible apply Only.step State.suspendDue_only ?_ ?k); case k => exact rfl)
    | ((with_reducible apply Only.step State.endOrder_only ?_ ?k); case k => exact rfl)
    | dsimp only [id]
    | split
    | ((with_reducible apply Only.upd ?_ ?h); case h => exact rfl)

theorem execPortResume_only {t : TenantId} {k : Nat} {s : State} : ∃ z, execPortResume t k s = .next z ∧ Only 0x50900 s z := by
  unfold execPortResume
  repeat' first
    | with_reducible refine ⟨_, rfl, ?_⟩
    | split
  repeat' first
    | with_reducible exact Only.refl _ _
    | ((with_reducible apply Only.step State.waitOrder_only ?_ ?k); case k => exact rfl)
    | ((with_reducible apply Only.step State.modDev_only ?_ ?k); case k => exact rfl)
    | ((with_reducible apply State.onVp_only ?_ (fun _ _ => ?_) ?k); case k => exact rfl)
    | ((with_reducible apply Only.step State.beginResume_only ?_ ?k); case k => exact rfl)
    | ((with_reducible apply Only.step State.endOrder_only ?_ ?k); case k => exact rfl)
    | dsimp only [id]
    | split
    | ((with_reducible apply Only.upd ?_ ?h); case h => exact rfl)

theorem State.endTen_only {s : State} {k : Nat} {t : TenantId} {st : Status} {detail : Nat} :
    Only 0x10100 s (State.endTen s k t st detail) := by
  unfold State.endTen
  repeat' first
    | with_reducible exact Only.refl _ _
    | ((with_reducible apply Only.step State.endOrder_only ?_ ?k); case k => exact rfl)
    | dsimp only [id]
    | split
    | ((with_reducible apply Only.upd ?_ ?h); case h => exact rfl)

theorem State.endEnable_only {s : State} {k : Nat} {t : TenantId} {st : Status} {detail : Nat} :
    Only 0x10100 s (State.endEnable s k t st detail) := by
  unfold State.endEnable
  repeat' first
    | with_reducible exact Only.refl _ _
    | ((with_reducible apply Only.step State.modTenant_only ?_ ?k); case k => exact rfl)
    | ((with_reducible apply Only.step State.endTen_only ?_ ?k); case k => exact rfl)
    | dsimp only [id]
    | split
    | ((with_reducible apply Only.upd ?_ ?h); case h => exact rfl)

theorem execTenEnable_only {k : Nat} {s : State} : ∃ z, execTenEnable k s = .next z ∧ Only 0x10100 s z := by
  unfold execTenEnable
  try dsimp only
  repeat' first
    | with_reducible refine ⟨_, rfl, ?_⟩
    | split
  repeat' first
    | with_reducible exact Only.refl _ _
    | ((with_reducible apply State.withOrder_only ?_ (fun _ => ?_) ?k); case k => exact rfl)
    | ((with_reducible apply Only.step State.waitOrder_only ?_ ?k); case k => exact rfl)
    | ((with_reducible apply Only.step State.drainRing_only ?_ ?k); case k => exact rfl)
    | ((with_reducible apply Only.step State.modTenant_only ?_ ?k); case k => exact rfl)
    | ((with_reducible apply Only.step State.endEnable_only ?_ ?k); case k => exact rfl)
    | dsimp only [id]
    | split
    | ((with_reducible apply Only.upd ?_ ?h); case h => exact rfl)

theorem State.quiesceReturn_only {s : State} {t : TenantId} : Only 0x30100 s (State.quiesceReturn s t) := by
  unfold State.quiesceReturn
  try dsimp only
  repeat' first
    | with_reducible exact Only.refl _ _
    | ((with_reducible apply Only.step State.modRings_only ?_ ?k); case k => exact rfl)
    | dsimp only [id]
    | split
    | ((with_reducible apply Only.upd ?_ ?h); case h => exact rfl)

theorem execTenQuiesce_only {k : Nat} {s : State} : ∃ z, execTenQuiesce k s = .next z ∧ Only 0x142072900 s z := by
  unfold execTenQuiesce
  try dsimp only
  repeat' first
    | with_reducible refine ⟨_, rfl, ?_⟩
    | split
  repeat' first
    | with_reducible exact Only.refl _ _
    | ((with_reducible apply Only.step State.quiesceDue_only ?_ ?k); case k => exact rfl)
    | ((with_reducible apply State.withOrder_only ?_ (fun _ => ?_) ?k); case k => exact rfl)
    | ((with_reducible apply Only.step State.waitOrder_only ?_ ?k); case k => exact rfl)
    | ((with_reducible apply Only.step State.modTenant_only ?_ ?k); case k => exact rfl)
    | ((with_reducible apply Only.step State.tenantNotice_only ?_ ?k); case k => exact rfl)
    | ((with_reducible apply Only.step State.endTen_only ?_ ?k); case k => exact rfl)
    | ((with_reducible apply Only.step State.quiesceReturn_only ?_ ?k); case k => exact rfl)
    | dsimp only [id]
    | split
    | ((with_reducible apply Only.upd ?_ ?h); case h => exact rfl)

theorem execQuiesceDrainEnd_only {t : TenantId} {s : State} : ∃ z, execQuiesceDrainEnd t s = .next z ∧ Only 0x10100 s z := by
  unfold execQuiesceDrainEnd
  try dsimp only
  repeat' first
    | with_reducible refine ⟨_, rfl, ?_⟩
    | split
  repeat' first
    | with_reducible exact Only.refl _ _
    | ((with_reducible apply Only.step State.modTenant_only ?_ ?k); case k => exact rfl)
    | ((with_reducible apply Only.step State.endWaiting_only ?_ ?k); case k => exact rfl)
    | dsimp only [id]
    | split
    | ((with_reducible apply Only.upd ?_ ?h); case h => exact rfl)

theorem State.whenQuiesced_only {s : State} {k code : Nat} {act : TenantId → State} {z : State} {m : Nat} (a :
    Only m z s) (hact : ∀ y0, Only m z (act y0)) (hk : 0x10100 ||| m = m) :
    Only m z (State.whenQuiesced s k code act) := by
  unfold State.whenQuiesced
  try dsimp only
  repeat' first
    | with_reducible exact Only.refl _ _
    | with_reducible exact hact _
    | with_reducible assumption
    | ((with_reducible apply State.withOrder_only ?_ (fun _ => ?_) ?k); case k => exact mask_sub rfl hk)
    | ((with_reducible apply Only.step State.endTen_only ?_ ?k); case k => exact mask_sub rfl hk)
    | dsimp only [id]
    | split
    | ((with_reducible apply Only.updMono (m := 0x10100) ?_ ?h ?k); (case h => exact rfl); case k => exact mask_sub rfl hk)

theorem execTenReset_only {k : Nat} {s : State} : ∃ z, execTenReset k s = .next z ∧ Only 0x142030900 s z := by
  unfold execTenReset
  repeat' first
    | with_reducible refine ⟨_, rfl, ?_⟩
    | split
  repeat' first
    | with_reducible exact Only.refl _ _
    | ((with_reducible apply State.whenQuiesced_only ?_ (fun _ => ?_) ?k); case k => exact rfl)
    | ((with_reducible apply Only.step State.wipe_only ?_ ?k); case k => exact rfl)
    | ((with_reducible apply Only.step State.modTenant_only ?_ ?k); case k => exact rfl)
    | ((with_reducible apply Only.step State.endTen_only ?_ ?k); case k => exact rfl)
    | dsimp only [id]
    | split
    | ((with_reducible apply Only.upd ?_ ?h); case h => exact rfl)

theorem State.ownReset_only {s : State} {d : DevId} {why : ResetFor} : Only 0x20000D0900 s (State.ownReset s d why) := by
  unfold State.ownReset
  repeat' first
    | with_reducible exact Only.refl _ _
    | ((with_reducible apply Only.step State.beginReset_only ?_ ?k); case k => exact rfl)
    | ((with_reducible apply Only.step State.modDev_only ?_ ?k); case k => exact rfl)
    | dsimp only [id]
    | split
    | ((with_reducible apply Only.upd ?_ ?h); case h => exact rfl)

theorem State.releaseDev_only {s : State} {t : TenantId} {n : Nat} {d : DevId} : Only 0x21420F0900 s (State.releaseDev s t n d) := by
  unfold State.releaseDev
  try dsimp only
  repeat' first
    | with_reducible exact Only.refl _ _
    | ((with_reducible apply Only.step State.ownReset_only ?_ ?k); case k => exact rfl)
    | ((with_reducible apply Only.step State.mgrPortNotice_only ?_ ?k); case k => exact rfl)
    | ((with_reducible apply Only.step State.endGrant_only ?_ ?k); case k => exact rfl)
    | dsimp only [id]
    | split
    | ((with_reducible apply Only.upd ?_ ?h); case h => exact rfl)

theorem execTenRelease_only {k : Nat} {s : State} : ∃ z, execTenRelease k s = .next z ∧ Only 0x21420F0900 s z := by
  unfold execTenRelease
  try dsimp only
  repeat' first
    | with_reducible refine ⟨_, rfl, ?_⟩
    | split
  repeat' first
    | with_reducible exact Only.refl _ _
    | ((with_reducible apply State.whenQuiesced_only ?_ (fun _ => ?_) ?k); case k => exact rfl)
    | ((with_reducible apply Only.step State.releaseDev_only ?_ ?k); case k => exact rfl)
    | ((with_reducible apply Only.step State.waitOrder_only ?_ ?k); case k => exact rfl)
    | ((with_reducible apply Only.step State.resetOver_only ?_ ?k); case k => exact rfl)
    | ((with_reducible apply Only.step State.wipe_only ?_ ?k); case k => exact rfl)
    | ((with_reducible apply Only.step State.modTenant_only ?_ ?k); case k => exact rfl)
    | with_reducible apply Only.foldl ?_ (fun _ _ => ?_)
    | dsimp only [id]
    | split
    | ((with_reducible apply Only.upd ?_ ?h); case h => exact rfl)

theorem execSetShare_only {k : Nat} {s : State} : ∃ z, execSetShare k s = .next z ∧ Only 0x10100 s z := by
  unfold execSetShare
  try dsimp only
  repeat' first
    | with_reducible refine ⟨_, rfl, ?_⟩
    | split
  repeat' first
    | with_reducible exact Only.refl _ _
    | ((with_reducible apply State.withOrder_only ?_ (fun _ => ?_) ?k); case k => exact rfl)
    | ((with_reducible apply Only.step State.waitOrder_only ?_ ?k); case k => exact rfl)
    | ((with_reducible apply Only.step State.modTenant_only ?_ ?k); case k => exact rfl)
    | ((with_reducible apply Only.step State.endTen_only ?_ ?k); case k => exact rfl)
    | dsimp only [id]
    | split
    | ((with_reducible apply Only.upd ?_ ?h); case h => exact rfl)

theorem execGrant_only {k : Nat} {s : State} : ∃ z, execGrant k s = .next z ∧ Only 0x50900 s z := by
  unfold execGrant
  try dsimp only
  repeat' first
    | with_reducible refine ⟨_, rfl, ?_⟩
    | split
  repeat' first
    | with_reducible exact Only.refl _ _
    | ((with_reducible apply Only.step State.present_only ?_ ?k); case k => exact rfl)
    | ((with_reducible apply State.withOrder_only ?_ (fun _ => ?_) ?k); case k => exact rfl)
    | ((with_reducible apply Only.step State.beginResume_only ?_ ?k); case k => exact rfl)
    | ((with_reducible apply Only.step State.endOrder_only ?_ ?k); case k => exact rfl)
    | dsimp only [id]
    | split
    | ((with_reducible apply Only.upd ?_ ?h); case h => exact rfl)

theorem execRevoke_only {k : Nat} {s : State} : ∃ z, execRevoke k s = .next z ∧ Only 0x21420F0900 s z := by
  unfold execRevoke
  try dsimp only
  repeat' first
    | with_reducible refine ⟨_, rfl, ?_⟩
    | split
  repeat' first
    | with_reducible exact Only.refl _ _
    | ((with_reducible apply Only.step State.mgrPortNotice_only ?_ ?k); case k => exact rfl)
    | ((with_reducible apply State.withOrder_only ?_ (fun _ => ?_) ?k); case k => exact rfl)
    | ((with_reducible apply Only.step State.beginReset_only ?_ ?k); case k => exact rfl)
    | ((with_reducible apply Only.step State.waitOrder_only ?_ ?k); case k => exact rfl)
    | ((with_reducible apply Only.step State.endGrant_only ?_ ?k); case k => exact rfl)
    | ((with_reducible apply Only.step State.beginResume_only ?_ ?k); case k => exact rfl)
    | ((with_reducible apply Only.step State.endOrder_only ?_ ?k); case k => exact rfl)
    | dsimp only [id]
    | split
    | ((with_reducible apply Only.upd ?_ ?h); case h => exact rfl)

theorem execSluiceStage_only {k : Nat} {buf : Option (List Word)} {s : State} :
    ∃ z, execSluiceStage k buf s = .next z ∧ Only 0x2800012110 s z := by
  unfold execSluiceStage
  try dsimp only
  repeat' first
    | with_reducible refine ⟨_, rfl, ?_⟩
    | split
  repeat' first
    | with_reducible exact Only.refl _ _
    | ((with_reducible apply State.withOrder_only ?_ (fun _ => ?_) ?k); case k => exact rfl)
    | ((with_reducible apply Only.step State.modSluice_only ?_ ?k); case k => exact rfl)
    | ((with_reducible apply Only.step State.readError_only ?_ ?k); case k => exact rfl)
    | ((with_reducible apply Only.step State.sendRead_only ?_ ?k); case k => exact rfl)
    | ((with_reducible apply Only.step State.endOrder_only ?_ ?k); case k => exact rfl)
    | dsimp only [id]
    | split
    | ((with_reducible apply Only.upd ?_ ?h); case h => exact rfl)

theorem execSluiceCommit_only {k : Nat} {s : State} : ∃ z, execSluiceCommit k s = .next z ∧ Only 0x12100 s z := by
  unfold execSluiceCommit
  try dsimp only
  repeat' first
    | with_reducible refine ⟨_, rfl, ?_⟩
    | split
  repeat' first
    | with_reducible exact Only.refl _ _
    | ((with_reducible apply State.withOrder_only ?_ (fun _ => ?_) ?k); case k => exact rfl)
    | ((with_reducible apply Only.step State.modSluice_only ?_ ?k); case k => exact rfl)
    | ((with_reducible apply Only.step State.endOrder_only ?_ ?k); case k => exact rfl)
    | with_reducible apply Only.foldl ?_ (fun _ _ => ?_)
    | dsimp only [id]
    | split
    | ((with_reducible apply Only.upd ?_ ?h); case h => exact rfl)

theorem execSluiceCancel_only {k : Nat} {s : State} : ∃ z, execSluiceCancel k s = .next z ∧ Only 0x12100 s z := by
  unfold execSluiceCancel
  try dsimp only
  repeat' first
    | with_reducible refine ⟨_, rfl, ?_⟩
    | split
  repeat' first
    | with_reducible exact Only.refl _ _
    | ((with_reducible apply State.withOrder_only ?_ (fun _ => ?_) ?k); case k => exact rfl)
    | ((with_reducible apply Only.step State.modSluice_only ?_ ?k); case k => exact rfl)
    | ((with_reducible apply Only.step State.endOrder_only ?_ ?k); case k => exact rfl)
    | dsimp only [id]
    | split
    | ((with_reducible apply Only.upd ?_ ?h); case h => exact rfl)

theorem State.writeIdle_only {s : State} : Only 0x8 s (State.writeIdle s) := by
  unfold State.writeIdle
  repeat' first
    | with_reducible exact Only.refl _ _
    | dsimp only [id]
    | split
    | ((with_reducible apply Only.upd ?_ ?h); case h => exact rfl)

theorem State.writeChunk_only {s : State} {k : Nat} {o : Order} {slot : Fin 2} {l : List Byte} {flash : ProgramEnd} :
    Only 0x140010908 s (State.writeChunk s k o slot l flash) := by
  unfold State.writeChunk
  try dsimp only
  repeat' first
    | with_reducible exact Only.refl _ _
    | ((with_reducible apply Only.step State.writeIdle_only ?_ ?k); case k => exact rfl)
    | ((with_reducible apply Only.step State.logEvent_only ?_ ?k); case k => exact rfl)
    | ((with_reducible apply Only.step State.endOrder_only ?_ ?k); case k => exact rfl)
    | dsimp only [id]
    | split
    | ((with_reducible apply Only.upd ?_ ?h); case h => exact rfl)

theorem execImageWrite_only {k : Nat} {data : Option (List Byte)} {flash : ProgramEnd} {s : State} :
    ∃ z, execImageWrite k data flash s = .next z ∧ Only 0x2940010918 s z := by
  unfold execImageWrite
  try dsimp only
  repeat' first
    | with_reducible refine ⟨_, rfl, ?_⟩
    | split
  repeat' first
    | with_reducible exact Only.refl _ _
    | ((with_reducible apply State.withOrder_only ?_ (fun _ => ?_) ?k); case k => exact rfl)
    | ((with_reducible apply Only.step State.writeChunk_only ?_ ?k); case k => exact rfl)
    | ((with_reducible apply Only.step State.writeIdle_only ?_ ?k); case k => exact rfl)
    | ((with_reducible apply Only.step State.readError_only ?_ ?k); case k => exact rfl)
    | ((with_reducible apply Only.step State.sendRead_only ?_ ?k); case k => exact rfl)
    | ((with_reducible apply Only.step State.endOrder_only ?_ ?k); case k => exact rfl)
    | dsimp only [id]
    | split
    | ((with_reducible apply Only.upd ?_ ?h); case h => exact rfl)

theorem execProvisionClaim_only {k : Nat} {hash : Option (BitVec 256)} {readBack : BitVec 256} {s : State} :
    ∃ z, execProvisionClaim k hash readBack s = .next z ∧ Only 0x2800010114 s z := by
  unfold execProvisionClaim
  try dsimp only
  repeat' first
    | with_reducible refine ⟨_, rfl, ?_⟩
    | split
  repeat' first
    | with_reducible exact Only.refl _ _
    | ((with_reducible apply State.withOrder_only ?_ (fun _ => ?_) ?k); case k => exact rfl)
    | ((with_reducible apply Only.step State.readError_only ?_ ?k); case k => exact rfl)
    | ((with_reducible apply Only.step State.sendRead_only ?_ ?k); case k => exact rfl)
    | ((with_reducible apply Only.step State.endOrder_only ?_ ?k); case k => exact rfl)
    | dsimp only [id]
    | split
    | ((with_reducible apply Only.upd ?_ ?h); case h => exact rfl)

theorem State.traceCtl_only {s : State} {k action : Nat} {act : Order → State} {z : State} {m : Nat} (a :
    Only m z s) (hact : ∀ y0, Only m z (act y0)) (hk : 0x10100 ||| m = m) :
    Only m z (State.traceCtl s k action act) := by
  unfold State.traceCtl
  try dsimp only
  repeat' first
    | with_reducible exact Only.refl _ _
    | with_reducible exact hact _
    | with_reducible assumption
    | ((with_reducible apply State.withOrder_only ?_ (fun _ => ?_) ?k); case k => exact mask_sub rfl hk)
    | ((with_reducible apply Only.step State.endOrder_only ?_ ?k); case k => exact mask_sub rfl hk)
    | dsimp only [id]
    | split
    | ((with_reducible apply Only.updMono (m := 0x10100) ?_ ?h ?k); (case h => exact rfl); case k => exact mask_sub rfl hk)

theorem execTraceStart_only {k : Nat} {s : State} : ∃ z, execTraceStart k s = .next z ∧ Only 0x11100 s z := by
  unfold execTraceStart
  repeat' first
    | with_reducible refine ⟨_, rfl, ?_⟩
    | split
  repeat' first
    | with_reducible exact Only.refl _ _
    | ((with_reducible apply State.traceCtl_only ?_ (fun _ => ?_) ?k); case k => exact rfl)
    | ((with_reducible apply Only.step State.endOrder_only ?_ ?k); case k => exact rfl)
    | dsimp only [id]
    | split
    | ((with_reducible apply Only.upd ?_ ?h); case h => exact rfl)

theorem execTraceStop_only {k : Nat} {s : State} : ∃ z, execTraceStop k s = .next z ∧ Only 0x11100 s z := by
  unfold execTraceStop
  repeat' first
    | with_reducible refine ⟨_, rfl, ?_⟩
    | split
  repeat' first
    | with_reducible exact Only.refl _ _
    | ((with_reducible apply Only.step State.finishStops_only ?_ ?k); case k => exact rfl)
    | ((with_reducible apply Only.step State.waitOrder_only ?_ ?k); case k => exact rfl)
    | ((with_reducible apply State.traceCtl_only ?_ (fun _ => ?_) ?k); case k => exact rfl)
    | ((with_reducible apply Only.step State.endOrder_only ?_ ?k); case k => exact rfl)
    | dsimp only [id]
    | split
    | ((with_reducible apply Only.upd ?_ ?h); case h => exact rfl)

theorem execTraceClear_only {k : Nat} {s : State} : ∃ z, execTraceClear k s = .next z ∧ Only 0x11100 s z := by
  unfold execTraceClear
  repeat' first
    | with_reducible refine ⟨_, rfl, ?_⟩
    | split
  repeat' first
    | with_reducible exact Only.refl _ _
    | ((with_reducible apply State.traceCtl_only ?_ (fun _ => ?_) ?k); case k => exact rfl)
    | ((with_reducible apply Only.step State.endOrder_only ?_ ?k); case k => exact rfl)
    | dsimp only [id]
    | split
    | ((with_reducible apply Only.upd ?_ ?h); case h => exact rfl)

end Sys2Proof.Machine
end

