-- ==== Sys2Proof/Laws/OnlyRest.lean ====
section
/-! SUPPORT. The frames of ports, topology, faults, power, start-up, the service port, the TAP and the register map. -/

namespace Sys2Proof.Machine

theorem State.ocSet_only {s : State} {o : OcSt} {z0 : OcRef} : Only 0x2C0000 s (State.ocSet s o z0) := by
  unfold State.ocSet
  repeat' first
    | with_reducible exact Only.refl _ _
    | ((with_reducible apply Only.step State.modDev_only ?_ ?k); case k => exact rfl)
    | ((with_reducible apply Only.step State.setOc_only ?_ ?k); case k => exact rfl)
    | dsimp only [id]
    | split
    | ((with_reducible apply Only.upd ?_ ?h); case h => exact rfl)

theorem State.ocCut_only {s : State} {z0 : OcRef} : Only 0x21630F0902 s (State.ocCut s z0) := by
  unfold State.ocCut
  repeat' first
    | with_reducible exact Only.refl _ _
    | ((with_reducible apply Only.step State.dropDelays_only ?_ ?k); case k => exact rfl)
    | ((with_reducible apply Only.step State.cutPower_only ?_ ?k); case k => exact rfl)
    | ((with_reducible apply Only.step State.request_only ?_ ?k); case k => exact rfl)
    | ((with_reducible apply Only.step State.detach_only ?_ ?k); case k => exact rfl)
    | with_reducible apply Only.foldl ?_ (fun _ _ => ?_)
    | dsimp only [id]
    | split
    | ((with_reducible apply Only.upd ?_ ?h); case h => exact rfl)

theorem State.ocRaise_only {s : State} {z0 : OcRef} : Only 0x21630F0902 s (State.ocRaise s z0) := by
  unfold State.ocRaise
  try dsimp only
  repeat' first
    | with_reducible exact Only.refl _ _
    | ((with_reducible apply Only.step State.setDelay_only ?_ ?k); case k => exact rfl)
    | ((with_reducible apply Only.step State.request_only ?_ ?k); case k => exact rfl)
    | ((with_reducible apply Only.step State.drivePower_only ?_ ?k); case k => exact rfl)
    | with_reducible apply Only.foldl ?_ (fun _ _ => ?_)
    | dsimp only [id]
    | split
    | ((with_reducible apply Only.upd ?_ ?h); case h => exact rfl)

theorem State.ocNotice_only {s : State} {bit : Nat} {z0 : OcRef} : Only 0x10100 s (State.ocNotice s bit z0) := by
  unfold State.ocNotice
  repeat' first
    | with_reducible exact Only.refl _ _
    | ((with_reducible apply Only.step State.mgrPortNotice_only ?_ ?k); case k => exact rfl)
    | with_reducible apply Only.foldl ?_ (fun _ _ => ?_)
    | dsimp only [id]
    | split
    | ((with_reducible apply Only.upd ?_ ?h); case h => exact rfl)

theorem State.ocTrip_only {s : State} {r : OcRef} : Only 0x21632F0902 s (State.ocTrip s r) := by
  unfold State.ocTrip
  try dsimp only
  repeat' first
    | with_reducible exact Only.refl _ _
    | ((with_reducible apply Only.step State.setDelay_only ?_ ?k); case k => exact rfl)
    | ((with_reducible apply Only.step State.ocNotice_only ?_ ?k); case k => exact rfl)
    | ((with_reducible apply Only.step State.ocSet_only ?_ ?k); case k => exact rfl)
    | ((with_reducible apply Only.step State.ocCut_only ?_ ?k); case k => exact rfl)
    | dsimp only [id]
    | split
    | ((with_reducible apply Only.upd ?_ ?h); case h => exact rfl)

theorem State.overCurrent_only {s : State} {r : OcRef} : Only 0x21632F0902 s (State.overCurrent s r) := by
  unfold State.overCurrent
  try dsimp only
  repeat' first
    | with_reducible exact Only.refl _ _
    | ((with_reducible apply Only.step State.modPort_only ?_ ?k); case k => exact rfl)
    | ((with_reducible apply Only.step State.ocTrip_only ?_ ?k); case k => exact rfl)
    | dsimp only [id]
    | split
    | ((with_reducible apply Only.upd ?_ ?h); case h => exact rfl)

theorem State.onOcDelay_only {s : State} {w : OcRef → DelayFor} {r : OcRef} {act : State → State} {m : Nat} (hact : ∀ y0, Only m y0 (act y0)) (hk : 0x20091900 ||| m = m) :
    Only m s (State.onOcDelay s w r act) := by
  unfold State.onOcDelay
  try dsimp only
  repeat' first
    | with_reducible exact Only.refl _ _
    | with_reducible apply Only.trans ?_ (hact _)
    | ((with_reducible apply Only.trans ?_ (State.onDelay_only (fun _ => ?_) ?k)); case k => exact mask_sub rfl hk)
    | dsimp only [id]
    | split
    | ((with_reducible apply Only.updMono (m := 0x20091900) ?_ ?h ?k); (case h => exact rfl); case k => exact mask_sub rfl hk)

theorem execOcRetry_only {r : OcRef} {s : State} : ∃ z, execOcRetry r s = .next z ∧ Only 0x21632F1902 s z := by
  unfold execOcRetry
  try dsimp only
  repeat' first
    | with_reducible refine ⟨_, rfl, ?_⟩
    | split
  repeat' first
    | with_reducible exact Only.refl _ _
    | ((with_reducible apply Only.step State.ocRaise_only ?_ ?k); case k => exact rfl)
    | ((with_reducible apply Only.trans ?_ (State.onOcDelay_only (fun _ => ?_) ?k)); case k => exact rfl)
    | ((with_reducible apply Only.step State.ocSet_only ?_ ?k); case k => exact rfl)
    | dsimp only [id]
    | split
    | ((with_reducible apply Only.upd ?_ ?h); case h => exact rfl)

theorem State.ocCalm_only {s pre : State} {z : State} {m : Nat} (a : Only m z s) (bpre : Only m z pre) (hk : 0x10100 ||| m = m) :
    Only m z (State.ocCalm s pre) := by
  unfold State.ocCalm
  try dsimp only
  repeat' first
    | with_reducible exact Only.refl _ _
    | with_reducible assumption
    | ((with_reducible apply Only.step State.vpEvent_only ?_ ?k); case k => exact mask_sub rfl hk)
    | with_reducible apply Only.foldl ?_ (fun _ _ => ?_)
    | dsimp only [id]
    | split
    | ((with_reducible apply Only.updMono (m := 0x10100) ?_ ?h ?k); (case h => exact rfl); case k => exact mask_sub rfl hk)

theorem execOcRetryCountClear_only {r : OcRef} {s : State} : ∃ z, execOcRetryCountClear r s = .next z ∧ Only 0x202D1900 s z := by
  unfold execOcRetryCountClear
  try dsimp only
  repeat' first
    | with_reducible refine ⟨_, rfl, ?_⟩
    | split
  repeat' first
    | with_reducible exact Only.refl _ _
    | ((with_reducible apply State.ocCalm_only ?_ ?_ ?k); case k => exact rfl)
    | ((with_reducible apply Only.trans ?_ (State.onOcDelay_only (fun _ => ?_) ?k)); case k => exact rfl)
    | ((with_reducible apply Only.step State.ocSet_only ?_ ?k); case k => exact rfl)
    | dsimp only [id]
    | split
    | ((with_reducible apply Only.upd ?_ ?h); case h => exact rfl)

theorem execPocNDeassert_only {p : PortId} {s : State} : ∃ z, execPocNDeassert p s = .next z ∧ Only 0x80002 s z := by
  unfold execPocNDeassert
  repeat' first
    | with_reducible refine ⟨_, rfl, ?_⟩
    | split
  repeat' first
    | with_reducible exact Only.refl _ _
    | ((with_reducible apply Only.step State.modPort_only ?_ ?k); case k => exact rfl)
    | dsimp only [id]
    | split
    | ((with_reducible apply Only.upd ?_ ?h); case h => exact rfl)

theorem State.ocClear_only {s : State} {p : PortId} : Only 0x21632F0902 s (State.ocClear s p) := by
  unfold State.ocClear
  try dsimp only
  repeat' first
    | with_reducible exact Only.refl _ _
    | ((with_reducible apply Only.step State.ocRaise_only ?_ ?k); case k => exact rfl)
    | ((with_reducible apply Only.step State.setOc_only ?_ ?k); case k => exact rfl)
    | ((with_reducible apply Only.step State.ocSet_only ?_ ?k); case k => exact rfl)
    | with_reducible apply Only.foldl ?_ (fun _ _ => ?_)
    | dsimp only [id]
    | split
    | ((with_reducible apply Only.upd ?_ ?h); case h => exact rfl)

theorem State.powerOff_only {s : State} {p : PortId} {on : Bool} : Only 0x21630F0902 s (State.powerOff s p on) := by
  unfold State.powerOff
  try dsimp only
  repeat' first
    | with_reducible exact Only.refl _ _
    | ((with_reducible apply Only.step State.modPort_only ?_ ?k); case k => exact rfl)
    | ((with_reducible apply Only.step State.drivePower_only ?_ ?k); case k => exact rfl)
    | dsimp only [id]
    | split
    | ((with_reducible apply Only.upd ?_ ?h); case h => exact rfl)

theorem State.writePortCtl_only {p : PortId} {v : Word} {s : State} : Only 0x21632F0902 s (State.writePortCtl p v s) := by
  unfold State.writePortCtl
  try dsimp only
  repeat' first
    | with_reducible exact Only.refl _ _
    | ((with_reducible apply Only.step State.powerOff_only ?_ ?k); case k => exact rfl)
    | ((with_reducible apply Only.step State.ocClear_only ?_ ?k); case k => exact rfl)
    | dsimp only [id]
    | split
    | ((with_reducible apply Only.upd ?_ ?h); case h => exact rfl)

theorem State.portCtlWrite_only {s : State} {p : PortId} {a : WrAcc} {v : Word} : Only 0x31632F1952 s (State.portCtlWrite s p a v) := by
  unfold State.portCtlWrite
  repeat' first
    | with_reducible exact Only.refl _ _
    | ((with_reducible apply Only.step State.writePortCtl_only ?_ ?k); case k => exact rfl)
    | ((with_reducible apply Only.trans ?_ (State.regWrite_only (fun _ _ => ?_) ?k)); case k => exact rfl)
    | dsimp only [id]
    | split
    | ((with_reducible apply Only.upd ?_ ?h); case h => exact rfl)

theorem execOcClear_only {p : PortId} {a : WrAcc} {v : Word} {s : State} : ∃ z, execOcClear p a v s = .next z ∧ Only 0x31632F1952 s z := by
  unfold execOcClear
  repeat' first
    | with_reducible refine ⟨_, rfl, ?_⟩
    | split
  repeat' first
    | with_reducible exact Only.refl _ _
    | ((with_reducible apply Only.step State.portCtlWrite_only ?_ ?k); case k => exact rfl)
    | dsimp only [id]
    | split
    | ((with_reducible apply Only.upd ?_ ?h); case h => exact rfl)

theorem execPowerOff_only {p : PortId} {a : WrAcc} {v : Word} {s : State} :
    ∃ z, execPowerOff p a v s = .next z ∧ Only 0x31632F1952 s z := by
  unfold execPowerOff
  repeat' first
    | with_reducible refine ⟨_, rfl, ?_⟩
    | split
  repeat' first
    | with_reducible exact Only.refl _ _
    | ((with_reducible apply Only.step State.portCtlWrite_only ?_ ?k); case k => exact rfl)
    | dsimp only [id]
    | split
    | ((with_reducible apply Only.upd ?_ ?h); case h => exact rfl)

theorem execPortPowerStep_only {s : State} : ∃ z, execPortPowerStep s = .next z ∧ Only 0x21630F090A s z := by
  unfold execPortPowerStep
  try dsimp only
  repeat' first
    | with_reducible refine ⟨_, rfl, ?_⟩
    | split
  repeat' first
    | with_reducible exact Only.refl _ _
    | ((with_reducible apply Only.step State.drivePower_only ?_ ?k); case k => exact rfl)
    | dsimp only [id]
    | split
    | ((with_reducible apply Only.upd ?_ ?h); case h => exact rfl)

theorem State.attach_only {s : State} {d : DevId} {sp : Speed} : Only 0x40800 s (State.attach s d sp) := by
  unfold State.attach
  repeat' first
    | with_reducible exact Only.refl _ _
    | ((with_reducible apply Only.step State.setDelay_only ?_ ?k); case k => exact rfl)
    | dsimp only [id]
    | split
    | ((with_reducible apply Only.upd ?_ ?h); case h => exact rfl)

theorem execEnumerateStart_only {p : PortId} {found : Option Speed} {s : State} :
    ∃ z, execEnumerateStart p found s = .next z ∧ Only 0x200D1900 s z := by
  unfold execEnumerateStart
  try dsimp only
  repeat' first
    | with_reducible refine ⟨_, rfl, ?_⟩
    | split
  repeat' first
    | with_reducible exact Only.refl _ _
    | ((with_reducible apply Only.step State.modPort_only ?_ ?k); case k => exact rfl)
    | ((with_reducible apply Only.trans ?_ (State.onDelay_only (fun _ => ?_) ?k)); case k => exact rfl)
    | ((with_reducible apply Only.step State.addWork_only ?_ ?k); case k => exact rfl)
    | ((with_reducible apply Only.step State.attach_only ?_ ?k); case k => exact rfl)
    | dsimp only [id]
    | split
    | ((with_reducible apply Only.upd ?_ ?h); case h => exact rfl)

theorem execEnumerate_only {p : PortId} {s : State} : ∃ z, execEnumerate p s = .next z ∧ Only 0x20091900 s z := by
  unfold execEnumerate
  repeat' first
    | with_reducible refine ⟨_, rfl, ?_⟩
    | split
  repeat' first
    | with_reducible exact Only.refl _ _
    | ((with_reducible apply Only.trans ?_ (State.onDelay_only (fun _ => ?_) ?k)); case k => exact rfl)
    | dsimp only [id]
    | split
    | ((with_reducible apply Only.upd ?_ ?h); case h => exact rfl)

theorem State.onDev_only {s : State} {d : DevId} {p : Dev → Bool} {act : Dev → State} {z : State} {m : Nat} (a :
    Only m z s) (hact : ∀ y0, Only m z (act y0)) (hk : 0x0 ||| m = m) :
    Only m z (State.onDev s d p act) := by
  unfold State.onDev
  try dsimp only
  repeat' first
    | with_reducible exact Only.refl _ _
    | with_reducible exact hact _
    | with_reducible assumption
    | dsimp only [id]
    | split
    | ((with_reducible apply Only.updMono (m := 0x0) ?_ ?h ?k); (case h => exact rfl); case k => exact mask_sub rfl hk)

theorem execDebounceEnd_only {d : DevId} {s : State} : ∃ z, execDebounceEnd d s = .next z ∧ Only 0x20200D1900 s z := by
  unfold execDebounceEnd
  repeat' first
    | with_reducible refine ⟨_, rfl, ?_⟩
    | split
  repeat' first
    | with_reducible exact Only.refl _ _
    | ((with_reducible apply Only.step State.askDefault_only ?_ ?k); case k => exact rfl)
    | ((with_reducible apply State.onDev_only ?_ (fun _ => ?_) ?k); case k => exact rfl)
    | ((with_reducible apply Only.trans ?_ (State.onDelay_only (fun _ => ?_) ?k)); case k => exact rfl)
    | dsimp only [id]
    | split
    | ((with_reducible apply Only.upd ?_ ?h); case h => exact rfl)

theorem execResetRecoveryEnd_only {d : DevId} {s : State} : ∃ z, execResetRecoveryEnd d s = .next z ∧ Only 0x200D1900 s z := by
  unfold execResetRecoveryEnd
  repeat' first
    | with_reducible refine ⟨_, rfl, ?_⟩
    | split
  repeat' first
    | with_reducible exact Only.refl _ _
    | ((with_reducible apply State.onDev_only ?_ (fun _ => ?_) ?k); case k => exact rfl)
    | ((with_reducible apply Only.trans ?_ (State.onDelay_only (fun _ => ?_) ?k)); case k => exact rfl)
    | ((with_reducible apply Only.step State.modDev_only ?_ ?k); case k => exact rfl)
    | ((with_reducible apply Only.step State.request_only ?_ ?k); case k => exact rfl)
    | dsimp only [id]
    | split
    | ((with_reducible apply Only.upd ?_ ?h); case h => exact rfl)

theorem State.disablePort_only {s : State} {d : DevId} : Only 0x20000C0800 s (State.disablePort s d) := by
  unfold State.disablePort
  repeat' first
    | with_reducible exact Only.refl _ _
    | ((with_reducible apply Only.step State.dropDefault_only ?_ ?k); case k => exact rfl)
    | ((with_reducible apply Only.step State.modDev_only ?_ ?k); case k => exact rfl)
    | ((with_reducible apply Only.step State.request_only ?_ ?k); case k => exact rfl)
    | ((with_reducible apply Only.step State.dropReqs_only ?_ ?k); case k => exact rfl)
    | dsimp only [id]
    | split
    | ((with_reducible apply Only.upd ?_ ?h); case h => exact rfl)

theorem State.failDev_only {s : State} {x : Dev} : Only 0x21430F0900 s (State.failDev s x) := by
  unfold State.failDev
  try dsimp only
  repeat' first
    | with_reducible exact Only.refl _ _
    | ((with_reducible apply Only.step State.mgrPortNotice_only ?_ ?k); case k => exact rfl)
    | ((with_reducible apply Only.step State.modDev_only ?_ ?k); case k => exact rfl)
    | ((with_reducible apply Only.step State.resetOver_only ?_ ?k); case k => exact rfl)
    | ((with_reducible apply Only.step State.disablePort_only ?_ ?k); case k => exact rfl)
    | ((with_reducible apply Only.step State.freeTts_only ?_ ?k); case k => exact rfl)
    | ((with_reducible apply Only.step State.endGrant_only ?_ ?k); case k => exact rfl)
    | dsimp only [id]
    | split
    | ((with_reducible apply Only.upd ?_ ?h); case h => exact rfl)

theorem State.failStep_only {s : State} {x : Dev} : Only 0x21430F0900 s (State.failStep s x) := by
  unfold State.failStep
  try dsimp only
  repeat' first
    | with_reducible exact Only.refl _ _
    | ((with_reducible apply Only.step State.askDefault_only ?_ ?k); case k => exact rfl)
    | ((with_reducible apply Only.step State.failDev_only ?_ ?k); case k => exact rfl)
    | ((with_reducible apply Only.step State.modDev_only ?_ ?k); case k => exact rfl)
    | dsimp only [id]
    | split
    | ((with_reducible apply Only.upd ?_ ?h); case h => exact rfl)

theorem State.limitDev_only {s : State} {d : DevId} {bit : Nat} : Only 0x20000D0900 s (State.limitDev s d bit) := by
  unfold State.limitDev
  repeat' first
    | with_reducible exact Only.refl _ _
    | ((with_reducible apply Only.step State.mgrPortNotice_only ?_ ?k); case k => exact rfl)
    | ((with_reducible apply Only.step State.disablePort_only ?_ ?k); case k => exact rfl)
    | dsimp only [id]
    | split
    | ((with_reducible apply Only.upd ?_ ?h); case h => exact rfl)

theorem execEnumResetEnd_only {e : ResetEnd} {s : State} : ∃ z, execEnumResetEnd e s = .next z ∧ Only 0x21430F0900 s z := by
  unfold execEnumResetEnd
  try dsimp only
  repeat' first
    | with_reducible refine ⟨_, rfl, ?_⟩
    | split
  repeat' first
    | with_reducible exact Only.refl _ _
    | ((with_reducible apply State.onDev_only ?_ (fun _ => ?_) ?k); case k => exact rfl)
    | ((with_reducible apply Only.step State.failStep_only ?_ ?k); case k => exact rfl)
    | ((with_reducible apply Only.trans ?_ (State.endReq_only (fun _ _ => ?_) ?k)); case k => exact rfl)
    | ((with_reducible apply Only.step State.setDelay_only ?_ ?k); case k => exact rfl)
    | ((with_reducible apply Only.step State.modDev_only ?_ ?k); case k => exact rfl)
    | dsimp only [id]
    | split
    | ((with_reducible apply Only.upd ?_ ?h); case h => exact rfl)

theorem State.sendAddress_only {s : State} {d : DevId} {a : Nat} : Only 0x40800 s (State.sendAddress s d a) := by
  unfold State.sendAddress
  repeat' first
    | with_reducible exact Only.refl _ _
    | ((with_reducible apply Only.step State.modDev_only ?_ ?k); case k => exact rfl)
    | ((with_reducible apply Only.step State.request_only ?_ ?k); case k => exact rfl)
    | dsimp only [id]
    | split
    | ((with_reducible apply Only.upd ?_ ?h); case h => exact rfl)

theorem State.gotMps0_only {s : State} {x : Dev} {n : Nat} : Only 0x20010D0900 s (State.gotMps0 s x n) := by
  unfold State.gotMps0
  try dsimp only
  repeat' first
    | with_reducible exact Only.refl _ _
    | ((with_reducible apply Only.step State.modDev_only ?_ ?k); case k => exact rfl)
    | ((with_reducible apply Only.step State.sendAddress_only ?_ ?k); case k => exact rfl)
    | ((with_reducible apply Only.step State.limitDev_only ?_ ?k); case k => exact rfl)
    | dsimp only [id]
    | split
    | ((with_reducible apply Only.upd ?_ ?h); case h => exact rfl)

theorem State.readNext_only {s : State} {x : Dev} : Only 0x800 s (State.readNext s x) := by
  unfold State.readNext
  repeat' first
    | with_reducible exact Only.refl _ _
    | ((with_reducible apply Only.step State.request_only ?_ ?k); case k => exact rfl)
    | dsimp only [id]
    | split
    | ((with_reducible apply Only.upd ?_ ?h); case h => exact rfl)

theorem State.gotAddress_only {s : State} {x : Dev} : Only 0x20000C0800 s (State.gotAddress s x) := by
  unfold State.gotAddress
  try dsimp only
  repeat' first
    | with_reducible exact Only.refl _ _
    | ((with_reducible apply Only.step State.readNext_only ?_ ?k); case k => exact rfl)
    | ((with_reducible apply Only.step State.dropDefault_only ?_ ?k); case k => exact rfl)
    | ((with_reducible apply Only.step State.modDev_only ?_ ?k); case k => exact rfl)
    | dsimp only [id]
    | split
    | ((with_reducible apply Only.upd ?_ ?h); case h => exact rfl)

theorem State.evaluate_only {s : State} {x : Dev} {e : DevDesc} : Only 0x50100 s (State.evaluate s x e) := by
  unfold State.evaluate
  try dsimp only
  repeat' first
    | with_reducible exact Only.refl _ _
    | ((with_reducible apply Only.step State.present_only ?_ ?k); case k => exact rfl)
    | ((with_reducible apply Only.step State.mgrPortNotice_only ?_ ?k); case k => exact rfl)
    | ((with_reducible apply Only.step State.modDev_only ?_ ?k); case k => exact rfl)
    | dsimp only [id]
    | split
    | ((with_reducible apply Only.upd ?_ ?h); case h => exact rfl)

theorem State.endReset_only {s : State} {x : Dev} : Only 0x20000F0900 s (State.endReset s x) := by
  unfold State.endReset
  try dsimp only
  repeat' first
    | with_reducible exact Only.refl _ _
    | ((with_reducible apply Only.step State.beginReset_only ?_ ?k); case k => exact rfl)
    | ((with_reducible apply Only.step State.modDev_only ?_ ?k); case k => exact rfl)
    | ((with_reducible apply Only.step State.resetOver_only ?_ ?k); case k => exact rfl)
    | ((with_reducible apply Only.step State.modDevFlows_only ?_ ?k); case k => exact rfl)
    | ((with_reducible apply Only.step State.endOrder_only ?_ ?k); case k => exact rfl)
    | ((with_reducible apply Only.step State.vpEvent_only ?_ ?k); case k => exact rfl)
    | dsimp only [id]
    | split
    | ((with_reducible apply Only.upd ?_ ?h); case h => exact rfl)

theorem State.stepNine_only {s : State} {x : Dev} {e : DevDesc} : Only 0x20000F0900 s (State.stepNine s x e) := by
  unfold State.stepNine
  try dsimp only
  repeat' first
    | with_reducible exact Only.refl _ _
    | ((with_reducible apply Only.step State.mgrPortNotice_only ?_ ?k); case k => exact rfl)
    | ((with_reducible apply Only.step State.modDev_only ?_ ?k); case k => exact rfl)
    | ((with_reducible apply Only.step State.endReset_only ?_ ?k); case k => exact rfl)
    | ((with_reducible apply Only.step State.evaluate_only ?_ ?k); case k => exact rfl)
    | ((with_reducible apply Only.step State.request_only ?_ ?k); case k => exact rfl)
    | dsimp only [id]
    | split
    | ((with_reducible apply Only.upd ?_ ?h); case h => exact rfl)

theorem State.stepEight_only {s : State} {x : Dev} {e : DevDesc} : Only 0x21430F0900 s (State.stepEight s x e) := by
  unfold State.stepEight
  repeat' first
    | with_reducible exact Only.refl _ _
    | ((with_reducible apply Only.step State.modDev_only ?_ ?k); case k => exact rfl)
    | ((with_reducible apply Only.step State.request_only ?_ ?k); case k => exact rfl)
    | ((with_reducible apply Only.step State.detach_only ?_ ?k); case k => exact rfl)
    | ((with_reducible apply Only.step State.stepNine_only ?_ ?k); case k => exact rfl)
    | ((with_reducible apply Only.step State.attach_only ?_ ?k); case k => exact rfl)
    | dsimp only [id]
    | split
    | ((with_reducible apply Only.upd ?_ ?h); case h => exact rfl)

theorem State.gotRead_only {s : State} {x : Dev} {r : EnumReply} : Only 0x21430F0900 s (State.gotRead s x r) := by
  unfold State.gotRead
  try dsimp only
  repeat' first
    | with_reducible exact Only.refl _ _
    | ((with_reducible apply Only.step State.readNext_only ?_ ?k); case k => exact rfl)
    | ((with_reducible apply Only.step State.stepEight_only ?_ ?k); case k => exact rfl)
    | ((with_reducible apply Only.step State.modDev_only ?_ ?k); case k => exact rfl)
    | dsimp only [id]
    | split
    | ((with_reducible apply Only.upd ?_ ?h); case h => exact rfl)

theorem State.nextStep_only {s : State} {x : Dev} {k : EnumStep} {r : UsbReq} : Only 0x40800 s (State.nextStep s x k r) := by
  unfold State.nextStep
  repeat' first
    | with_reducible exact Only.refl _ _
    | ((with_reducible apply Only.step State.modDev_only ?_ ?k); case k => exact rfl)
    | ((with_reducible apply Only.step State.request_only ?_ ?k); case k => exact rfl)
    | dsimp only [id]
    | split
    | ((with_reducible apply Only.upd ?_ ?h); case h => exact rfl)

theorem State.powerHub_only {s : State} {x : Dev} {n : Nat} : Only 0x40800 s (State.powerHub s x n) := by
  unfold State.powerHub
  repeat' first
    | with_reducible exact Only.refl _ _
    | ((with_reducible apply Only.step State.nextStep_only ?_ ?k); case k => exact rfl)
    | ((with_reducible apply Only.step State.setDelay_only ?_ ?k); case k => exact rfl)
    | ((with_reducible apply Only.step State.modDev_only ?_ ?k); case k => exact rfl)
    | dsimp only [id]
    | split
    | ((with_reducible apply Only.upd ?_ ?h); case h => exact rfl)

theorem execEnumRequestDone_only {d : DevId} {r : EnumReply} {s : State} :
    ∃ z, execEnumRequestDone d r s = .next z ∧ Only 0x21430F0900 s z := by
  unfold execEnumRequestDone
  try dsimp only
  repeat' first
    | with_reducible refine ⟨_, rfl, ?_⟩
    | split
  repeat' first
    | with_reducible exact Only.refl _ _
    | ((with_reducible apply Only.step State.nextStep_only ?_ ?k); case k => exact rfl)
    | ((with_reducible apply Only.step State.gotMps0_only ?_ ?k); case k => exact rfl)
    | ((with_reducible apply Only.step State.gotAddress_only ?_ ?k); case k => exact rfl)
    | ((with_reducible apply State.onDev_only ?_ (fun _ => ?_) ?k); case k => exact rfl)
    | ((with_reducible apply Only.step State.failStep_only ?_ ?k); case k => exact rfl)
    | ((with_reducible apply Only.trans ?_ (State.endReq_only (fun _ _ => ?_) ?k)); case k => exact rfl)
    | ((with_reducible apply Only.step State.modDev_only ?_ ?k); case k => exact rfl)
    | ((with_reducible apply Only.step State.powerHub_only ?_ ?k); case k => exact rfl)
    | ((with_reducible apply Only.step State.gotRead_only ?_ ?k); case k => exact rfl)
    | ((with_reducible apply Only.step State.stepNine_only ?_ ?k); case k => exact rfl)
    | dsimp only [id]
    | split
    | ((with_reducible apply Only.upd ?_ ?h); case h => exact rfl)

theorem State.pollLater_only {s : State} {x : Dev} : Only 0x800 s (State.pollLater s x) := by
  unfold State.pollLater
  repeat' first
    | with_reducible exact Only.refl _ _
    | ((with_reducible apply Only.step State.setDelay_only ?_ ?k); case k => exact rfl)
    | dsimp only [id]
    | split
    | ((with_reducible apply Only.upd ?_ ?h); case h => exact rfl)

theorem execHubPowerWaitEnd_only {d : DevId} {connected : List (Nat × Speed)} {s : State} :
    ∃ z, execHubPowerWaitEnd d connected s = .next z ∧ Only 0x200D1900 s z := by
  unfold execHubPowerWaitEnd
  try dsimp only
  repeat' first
    | with_reducible refine ⟨_, rfl, ?_⟩
    | split
  repeat' first
    | with_reducible exact Only.refl _ _
    | ((with_reducible apply State.onDev_only ?_ (fun _ => ?_) ?k); case k => exact rfl)
    | ((with_reducible apply Only.step State.mgrPortNotice_only ?_ ?k); case k => exact rfl)
    | ((with_reducible apply Only.trans ?_ (State.onDelay_only (fun _ => ?_) ?k)); case k => exact rfl)
    | ((with_reducible apply Only.step State.modDev_only ?_ ?k); case k => exact rfl)
    | ((with_reducible apply Only.step State.pollLater_only ?_ ?k); case k => exact rfl)
    | ((with_reducible apply Only.step State.attach_only ?_ ?k); case k => exact rfl)
    | with_reducible apply Only.foldl ?_ (fun _ _ => ?_)
    | dsimp only [id]
    | split
    | ((with_reducible apply Only.upd ?_ ?h); case h => exact rfl)

theorem execHubPoll_only {d : DevId} {s : State} : ∃ z, execHubPoll d s = .next z ∧ Only 0x20091900 s z := by
  unfold execHubPoll
  try dsimp only
  repeat' first
    | with_reducible refine ⟨_, rfl, ?_⟩
    | split
  repeat' first
    | with_reducible exact Only.refl _ _
    | ((with_reducible apply State.onDev_only ?_ (fun _ => ?_) ?k); case k => exact rfl)
    | ((with_reducible apply Only.trans ?_ (State.onDelay_only (fun _ => ?_) ?k)); case k => exact rfl)
    | ((with_reducible apply Only.step State.request_only ?_ ?k); case k => exact rfl)
    | ((with_reducible apply Only.step State.pollLater_only ?_ ?k); case k => exact rfl)
    | dsimp only [id]
    | split
    | ((with_reducible apply Only.upd ?_ ?h); case h => exact rfl)

theorem State.hubChange_only {s : State} {d : DevId} {z0 : HubChange} : Only 0x21632F0902 s (State.hubChange s d z0) := by
  unfold State.hubChange
  try dsimp only
  repeat' first
    | with_reducible exact Only.refl _ _
    | ((with_reducible apply Only.step State.dropDelays_only ?_ ?k); case k => exact rfl)
    | ((with_reducible apply Only.step State.modDev_only ?_ ?k); case k => exact rfl)
    | ((with_reducible apply Only.step State.ocTrip_only ?_ ?k); case k => exact rfl)
    | ((with_reducible apply Only.step State.detach_only ?_ ?k); case k => exact rfl)
    | ((with_reducible apply Only.step State.attach_only ?_ ?k); case k => exact rfl)
    | dsimp only [id]
    | split
    | ((with_reducible apply Only.upd ?_ ?h); case h => exact rfl)

theorem execHubPollDone_only {d : DevId} {ch : List HubChange} {s : State} :
    ∃ z, execHubPollDone d ch s = .next z ∧ Only 0x21632F0902 s z := by
  unfold execHubPollDone
  repeat' first
    | with_reducible refine ⟨_, rfl, ?_⟩
    | split
  repeat' first
    | with_reducible exact Only.refl _ _
    | ((with_reducible apply Only.trans ?_ (State.endReq_only (fun _ _ => ?_) ?k)); case k => exact rfl)
    | ((with_reducible apply Only.step State.hubChange_only ?_ ?k); case k => exact rfl)
    | ((with_reducible apply Only.step State.request_only ?_ ?k); case k => exact rfl)
    | with_reducible apply Only.foldl ?_ (fun _ _ => ?_)
    | dsimp only [id]
    | split
    | ((with_reducible apply Only.upd ?_ ?h); case h => exact rfl)

theorem State.remoteWake_only {s : State} {d : DevId} : Only 0x40800 s (State.remoteWake s d) := by
  unfold State.remoteWake
  repeat' first
    | with_reducible exact Only.refl _ _
    | ((with_reducible apply State.onDev_only ?_ (fun _ => ?_) ?k); case k => exact rfl)
    | ((with_reducible apply Only.step State.modDev_only ?_ ?k); case k => exact rfl)
    | ((with_reducible apply Only.step State.beginResume_only ?_ ?k); case k => exact rfl)
    | dsimp only [id]
    | split
    | ((with_reducible apply Only.upd ?_ ?h); case h => exact rfl)

theorem State.functionWake_only {s : State} {d : DevId} : Only 0x50900 s (State.functionWake s d) := by
  unfold State.functionWake
  repeat' first
    | with_reducible exact Only.refl _ _
    | ((with_reducible apply State.onDev_only ?_ (fun _ => ?_) ?k); case k => exact rfl)
    | ((with_reducible apply Only.step State.modDev_only ?_ ?k); case k => exact rfl)
    | ((with_reducible apply Only.step State.beginResume_only ?_ ?k); case k => exact rfl)
    | ((with_reducible apply Only.step State.vpEvent_only ?_ ?k); case k => exact rfl)
    | dsimp only [id]
    | split
    | ((with_reducible apply Only.upd ?_ ?h); case h => exact rfl)

theorem execResumeSignallingEnd_only {d : DevId} {s : State} : ∃ z, execResumeSignallingEnd d s = .next z ∧ Only 0x40800 s z := by
  unfold execResumeSignallingEnd
  repeat' first
    | with_reducible refine ⟨_, rfl, ?_⟩
    | split
  repeat' first
    | with_reducible exact Only.refl _ _
    | ((with_reducible apply State.onDev_only ?_ (fun _ => ?_) ?k); case k => exact rfl)
    | ((with_reducible apply Only.step State.setDelay_only ?_ ?k); case k => exact rfl)
    | ((with_reducible apply Only.step State.modDev_only ?_ ?k); case k => exact rfl)
    | ((with_reducible apply Only.step State.dropReqs_only ?_ ?k); case k => exact rfl)
    | dsimp only [id]
    | split
    | ((with_reducible apply Only.upd ?_ ?h); case h => exact rfl)

theorem State.endResume_only {s : State} {x : Dev} : Only 0x20000D0900 s (State.endResume s x) := by
  unfold State.endResume
  try dsimp only
  repeat' first
    | with_reducible exact Only.refl _ _
    | ((with_reducible apply Only.step State.beginReset_only ?_ ?k); case k => exact rfl)
    | ((with_reducible apply Only.step State.kickResumes_only ?_ ?k); case k => exact rfl)
    | ((with_reducible apply Only.step State.modDev_only ?_ ?k); case k => exact rfl)
    | ((with_reducible apply Only.step State.pollLater_only ?_ ?k); case k => exact rfl)
    | ((with_reducible apply Only.step State.endOrder_only ?_ ?k); case k => exact rfl)
    | ((with_reducible apply Only.step State.vpEvent_only ?_ ?k); case k => exact rfl)
    | dsimp only [id]
    | split
    | ((with_reducible apply Only.upd ?_ ?h); case h => exact rfl)

theorem execResumeRecoveryEnd_only {r : ResumeEnd} {s : State} :
    ∃ z, execResumeRecoveryEnd r s = .next z ∧ Only 0x21630F1900 s z := by
  unfold execResumeRecoveryEnd
  repeat' first
    | with_reducible refine ⟨_, rfl, ?_⟩
    | split
  repeat' first
    | with_reducible exact Only.refl _ _
    | ((with_reducible apply Only.step State.endResume_only ?_ ?k); case k => exact rfl)
    | ((with_reducible apply State.onDev_only ?_ (fun _ => ?_) ?k); case k => exact rfl)
    | ((with_reducible apply Only.trans ?_ (State.onDelay_only (fun _ => ?_) ?k)); case k => exact rfl)
    | ((with_reducible apply Only.step State.detach_only ?_ ?k); case k => exact rfl)
    | ((with_reducible apply Only.step State.attach_only ?_ ?k); case k => exact rfl)
    | dsimp only [id]
    | split
    | ((with_reducible apply Only.upd ?_ ?h); case h => exact rfl)

theorem execPortResetEnd_only {d : DevId} {ok : Bool} {s : State} : ∃ z, execPortResetEnd d ok s = .next z ∧ Only 0x21430F0900 s z := by
  unfold execPortResetEnd
  repeat' first
    | with_reducible refine ⟨_, rfl, ?_⟩
    | split
  repeat' first
    | with_reducible exact Only.refl _ _
    | ((with_reducible apply State.onDev_only ?_ (fun _ => ?_) ?k); case k => exact rfl)
    | ((with_reducible apply Only.step State.failStep_only ?_ ?k); case k => exact rfl)
    | ((with_reducible apply Only.trans ?_ (State.endReq_only (fun _ _ => ?_) ?k)); case k => exact rfl)
    | ((with_reducible apply Only.step State.modDev_only ?_ ?k); case k => exact rfl)
    | ((with_reducible apply Only.step State.sendAddress_only ?_ ?k); case k => exact rfl)
    | dsimp only [id]
    | split
    | ((with_reducible apply Only.upd ?_ ?h); case h => exact rfl)

theorem execClearTtBuffer_only {t : TenantId} {h : Fin 1024} {r : ReqEnd} {s : State} :
    ∃ z, execClearTtBuffer t h r s = .next z ∧ Only 0x800 s z := by
  unfold execClearTtBuffer
  repeat' first
    | with_reducible refine ⟨_, rfl, ?_⟩
    | split
  repeat' first
    | with_reducible exact Only.refl _ _
    | ((with_reducible apply Only.trans ?_ (State.endReq_only (fun _ _ => ?_) ?k)); case k => exact rfl)
    | ((with_reducible apply Only.step State.request_only ?_ ?k); case k => exact rfl)
    | dsimp only [id]
    | split
    | ((with_reducible apply Only.upd ?_ ?h); case h => exact rfl)

theorem execLpmEntry_only {d : DevId} {idleUs : Nat} {s : State} : ∃ z, execLpmEntry d idleUs s = .next z ∧ Only 0x800 s z := by
  unfold execLpmEntry
  repeat' first
    | with_reducible refine ⟨_, rfl, ?_⟩
    | split
  repeat' first
    | with_reducible exact Only.refl _ _
    | ((with_reducible apply State.onDev_only ?_ (fun _ => ?_) ?k); case k => exact rfl)
    | ((with_reducible apply Only.step State.request_only ?_ ?k); case k => exact rfl)
    | dsimp only [id]
    | split
    | ((with_reducible apply Only.upd ?_ ?h); case h => exact rfl)

theorem execLinkInactivityTimeout_only {d : DevId} {u2 : Bool} {s : State} :
    ∃ z, execLinkInactivityTimeout d u2 s = .next z ∧ Only 0x40000 s z := by
  unfold execLinkInactivityTimeout
  repeat' first
    | with_reducible refine ⟨_, rfl, ?_⟩
    | split
  repeat' first
    | with_reducible exact Only.refl _ _
    | ((with_reducible apply State.onDev_only ?_ (fun _ => ?_) ?k); case k => exact rfl)
    | ((with_reducible apply Only.step State.modDev_only ?_ ?k); case k => exact rfl)
    | dsimp only [id]
    | split
    | ((with_reducible apply Only.upd ?_ ?h); case h => exact rfl)

theorem State.sleepDev_only {s : State} {x : Dev} : Only 0x40800 s (State.sleepDev s x) := by
  unfold State.sleepDev
  try dsimp only
  repeat' first
    | with_reducible exact Only.refl _ _
    | ((with_reducible apply Only.step State.dropDelays_only ?_ ?k); case k => exact rfl)
    | ((with_reducible apply Only.step State.modDev_only ?_ ?k); case k => exact rfl)
    | ((with_reducible apply Only.step State.request_only ?_ ?k); case k => exact rfl)
    | ((with_reducible apply Only.step State.dropReqs_only ?_ ?k); case k => exact rfl)
    | dsimp only [id]
    | split
    | ((with_reducible apply Only.upd ?_ ?h); case h => exact rfl)

theorem execRootPortSelectiveSuspend_only {p : PortId} {s : State} :
    ∃ z, execRootPortSelectiveSuspend p s = .next z ∧ Only 0x40800 s z := by
  unfold execRootPortSelectiveSuspend
  try dsimp only
  repeat' first
    | with_reducible refine ⟨_, rfl, ?_⟩
    | split
  repeat' first
    | with_reducible exact Only.refl _ _
    | ((with_reducible apply Only.step State.sleepDev_only ?_ ?k); case k => exact rfl)
    | with_reducible apply Only.foldl ?_ (fun _ _ => ?_)
    | dsimp only [id]
    | split
    | ((with_reducible apply Only.upd ?_ ?h); case h => exact rfl)

theorem State.faultJob_only {s : State} {j : FaultJob} : Only 0x80000800 s (State.faultJob s j) := by
  unfold State.faultJob
  try dsimp only
  repeat' first
    | with_reducible exact Only.refl _ _
    | ((with_reducible apply Only.step State.addItem_only ?_ ?k); case k => exact rfl)
    | dsimp only [id]
    | split
    | ((with_reducible apply Only.upd ?_ ?h); case h => exact rfl)

theorem State.endFault_only {s : State} {cls : Fin 9} {unit : Nat} {owner : Option TenantId} {outcome wher time : Nat} :
    Only 0x1C0000800 s (State.endFault s cls unit owner outcome wher time) := by
  unfold State.endFault
  repeat' first
    | with_reducible exact Only.refl _ _
    | ((with_reducible apply Only.step State.faultRecord_only ?_ ?k); case k => exact rfl)
    | dsimp only [id]
    | split
    | ((with_reducible apply Only.upd ?_ ?h); case h => exact rfl)

theorem State.rebuild_only {s : State} {j : FaultJob} : Only 0x8800 s (State.rebuild s j) := by
  unfold State.rebuild
  try dsimp only
  repeat' first
    | with_reducible exact Only.refl _ _
    | dsimp only [id]
    | split
    | ((with_reducible apply Only.upd ?_ ?h); case h => exact rfl)

theorem execFaultRecover_only {pass : Bool} {s : State} : ∃ z, execFaultRecover pass s = .next z ∧ Only 0x1C0009800 s z := by
  unfold execFaultRecover
  try dsimp only
  repeat' first
    | with_reducible refine ⟨_, rfl, ?_⟩
    | split
  repeat' first
    | with_reducible exact Only.refl _ _
    | ((with_reducible apply Only.step State.endFault_only ?_ ?k); case k => exact rfl)
    | ((with_reducible apply Only.step State.rebuild_only ?_ ?k); case k => exact rfl)
    | ((with_reducible apply Only.step State.modWorker_only ?_ ?k); case k => exact rfl)
    | ((with_reducible apply Only.step State.endItem_only ?_ ?k); case k => exact rfl)
    | dsimp only [id]
    | split
    | ((with_reducible apply Only.upd ?_ ?h); case h => exact rfl)

theorem State.loseHandle_only {s : State} {t : TenantId} {h : Fin 1024} : Only 0x142030900 s (State.loseHandle s t h) := by
  unfold State.loseHandle
  try dsimp only
  repeat' first
    | with_reducible exact Only.refl _ _
    | ((with_reducible apply Only.step State.tearDown_only ?_ ?k); case k => exact rfl)
    | ((with_reducible apply Only.step State.mgrTenantNotice_only ?_ ?k); case k => exact rfl)
    | ((with_reducible apply Only.step State.modFlow_only ?_ ?k); case k => exact rfl)
    | ((with_reducible apply Only.step State.tenantNotice_only ?_ ?k); case k => exact rfl)
    | dsimp only [id]
    | split
    | ((with_reducible apply Only.upd ?_ ?h); case h => exact rfl)

theorem State.loseEntries_only {s : State} {p : Nat → Bool} : Only 0x142030900 s (State.loseEntries s p) := by
  unfold State.loseEntries
  try dsimp only
  repeat' first
    | with_reducible exact Only.refl _ _
    | ((with_reducible apply Only.step State.loseHandle_only ?_ ?k); case k => exact rfl)
    | ((with_reducible apply Only.step State.tearDown_only ?_ ?k); case k => exact rfl)
    | with_reducible apply Only.foldl ?_ (fun _ _ => ?_)
    | dsimp only [id]
    | split
    | ((with_reducible apply Only.upd ?_ ?h); case h => exact rfl)

theorem State.loseOrders_only {s : State} {f : Fn} : Only 0x10100 s (State.loseOrders s f) := by
  unfold State.loseOrders
  repeat' first
    | with_reducible exact Only.refl _ _
    | ((with_reducible apply Only.step State.modRings_only ?_ ?k); case k => exact rfl)
    | dsimp only [id]
    | split
    | ((with_reducible apply Only.upd ?_ ?h); case h => exact rfl)

theorem State.redoOp_only {s : State} {o : Op} {w : Nat} : Only 0x90900 s (State.redoOp s o w) := by
  unfold State.redoOp
  try dsimp only
  repeat' first
    | with_reducible exact Only.refl _ _
    | ((with_reducible apply Only.step State.noteOp_only ?_ ?k); case k => exact rfl)
    | dsimp only [id]
    | split
    | ((with_reducible apply Only.upd ?_ ?h); case h => exact rfl)

theorem State.strike_only {s : State} {o : Op} {w : Nat} : Only 0xB1900 s (State.strike s o w) := by
  unfold State.strike
  try dsimp only
  repeat' first
    | with_reducible exact Only.refl _ _
    | ((with_reducible apply Only.step State.stepReq_only ?_ ?k); case k => exact rfl)
    | ((with_reducible apply Only.step State.settleFlow_only ?_ ?k); case k => exact rfl)
    | ((with_reducible apply Only.step State.wantTtClear_only ?_ ?k); case k => exact rfl)
    | ((with_reducible apply Only.step State.redoOp_only ?_ ?k); case k => exact rfl)
    | ((with_reducible apply Only.step State.modFlow_only ?_ ?k); case k => exact rfl)
    | ((with_reducible apply Only.step State.modSide_only ?_ ?k); case k => exact rfl)
    | ((with_reducible apply Only.step State.testTimeout_only ?_ ?k); case k => exact rfl)
    | dsimp only [id]
    | split
    | ((with_reducible apply Only.upd ?_ ?h); case h => exact rfl)

theorem State.emptyWorker_only {s : State} {w : WorkerId} : Only 0xB1900 s (State.emptyWorker s w) := by
  unfold State.emptyWorker
  try dsimp only
  repeat' first
    | with_reducible exact Only.refl _ _
    | ((with_reducible apply Only.step State.strike_only ?_ ?k); case k => exact rfl)
    | ((with_reducible apply Only.step State.redoOp_only ?_ ?k); case k => exact rfl)
    | ((with_reducible apply Only.step State.modWorker_only ?_ ?k); case k => exact rfl)
    | dsimp only [id]
    | split
    | ((with_reducible apply Only.upd ?_ ?h); case h => exact rfl)

theorem State.resetCore_only {s : State} {c : CoreId} : Only 0x90900 s (State.resetCore s c) := by
  unfold State.resetCore
  try dsimp only
  repeat' first
    | with_reducible exact Only.refl _ _
    | ((with_reducible apply Only.step State.modCore_only ?_ ?k); case k => exact rfl)
    | ((with_reducible apply Only.step State.redoOp_only ?_ ?k); case k => exact rfl)
    | dsimp only [id]
    | split
    | ((with_reducible apply Only.upd ?_ ?h); case h => exact rfl)

theorem State.fenceCore_only {s : State} {c : CoreId} : Only 0x90900 s (State.fenceCore s c) := by
  unfold State.fenceCore
  repeat' first
    | with_reducible exact Only.refl _ _
    | ((with_reducible apply Only.step State.resetCore_only ?_ ?k); case k => exact rfl)
    | ((with_reducible apply Only.step State.modCore_only ?_ ?k); case k => exact rfl)
    | dsimp only [id]
    | split
    | ((with_reducible apply Only.upd ?_ ?h); case h => exact rfl)

theorem State.cutSides_only {s : State} {p : PortId → Bool → Bool} : Only 0x9620F7900 s (State.cutSides s p) := by
  unfold State.cutSides
  repeat' first
    | with_reducible exact Only.refl _ _
    | ((with_reducible apply Only.step State.endIssue_only ?_ ?k); case k => exact rfl)
    | with_reducible apply Only.foldl ?_ (fun _ _ => ?_)
    | dsimp only [id]
    | split
    | ((with_reducible apply Only.upd ?_ ?h); case h => exact rfl)

theorem State.loseFifo_only {s : State} {p : PortId → Bool → Bool} : Only 0x9620F7900 s (State.loseFifo s p) := by
  unfold State.loseFifo
  repeat' first
    | with_reducible exact Only.refl _ _
    | ((with_reducible apply Only.step State.settleFlow_only ?_ ?k); case k => exact rfl)
    | ((with_reducible apply Only.step State.endIssue_only ?_ ?k); case k => exact rfl)
    | ((with_reducible apply Only.step State.modFlow_only ?_ ?k); case k => exact rfl)
    | with_reducible apply Only.foldl ?_ (fun _ _ => ?_)
    | dsimp only [id]
    | split
    | ((with_reducible apply Only.upd ?_ ?h); case h => exact rfl)

theorem State.loseEpt_only {s : State} {b : Fin 21} {whole : Bool} {off : Nat} : Only 0x142030900 s ((State.loseEpt s b whole off).st) := by
  unfold State.loseEpt
  try dsimp only
  repeat' first
    | with_reducible exact Only.refl _ _
    | ((with_reducible apply Only.step State.loseEntries_only ?_ ?k); case k => exact rfl)
    | dsimp only [id]
    | split
    | ((with_reducible apply Only.upd ?_ ?h); case h => exact rfl)

theorem State.loseTask_only {s : State} {k : Nat} : Only 0x142030900 s ((State.loseTask s k).st) := by
  unfold State.loseTask
  repeat' first
    | with_reducible exact Only.refl _ _
    | ((with_reducible apply Only.step State.loseOrders_only ?_ ?k); case k => exact rfl)
    | ((with_reducible apply Only.step State.loseEntries_only ?_ ?k); case k => exact rfl)
    | dsimp only [id]
    | split
    | ((with_reducible apply Only.upd ?_ ?h); case h => exact rfl)

theorem State.loseTasks_only {s : State} : Only 0x142030900 s ((State.loseTasks s).st) := by
  unfold State.loseTasks
  try dsimp only
  repeat' first
    | with_reducible exact Only.refl _ _
    | ((with_reducible apply Only.step State.loseOrders_only ?_ ?k); case k => exact rfl)
    | ((with_reducible apply Only.step State.loseEntries_only ?_ ?k); case k => exact rfl)
    | with_reducible apply Only.foldl ?_ (fun _ _ => ?_)
    | dsimp only [id]
    | split
    | ((with_reducible apply Only.upd ?_ ?h); case h => exact rfl)

theorem State.loseStaging_only {s : State} {e : Flow × Xfer} : Only 0xA0000 s (State.loseStaging s e) := by
  unfold State.loseStaging
  repeat' first
    | with_reducible exact Only.refl _ _
    | ((with_reducible apply Only.step State.settleFlow_only ?_ ?k); case k => exact rfl)
    | ((with_reducible apply Only.step State.modFlow_only ?_ ?k); case k => exact rfl)
    | dsimp only [id]
    | split
    | ((with_reducible apply Only.upd ?_ ?h); case h => exact rfl)

theorem State.rereadTd_only {s : State} {e : Flow × Td} : Only 0x28000B0010 s (State.rereadTd s e) := by
  unfold State.rereadTd
  try dsimp only [State.drawBool, State.drawRandom]
  repeat' first
    | with_reducible exact Only.refl _ _
    | ((with_reducible apply Only.step State.settleFlow_only ?_ ?k); case k => exact rfl)
    | ((with_reducible apply Only.step State.modFlow_only ?_ ?k); case k => exact rfl)
    | ((with_reducible apply Only.step State.sendRead_only ?_ ?k); case k => exact rfl)
    | ((with_reducible apply Only.step State.readError_only ?_ ?k); case k => exact rfl)
    | dsimp only [id]
    | split
    | ((with_reducible apply Only.upd ?_ ?h); case h => exact rfl)

theorem State.missSides_only {s : State} {l : List (PortId × Bool)} : Only 0x20000 s (State.missSides s l) := by
  unfold State.missSides
  repeat' first
    | with_reducible exact Only.refl _ _
    | dsimp only [id]
    | split
    | ((with_reducible apply Only.upd ?_ ?h); case h => exact rfl)

theorem State.lose_only {s : State} {b : Fin 21} {whole : Bool} {off : Nat} : Only 0x29620FF910 s ((State.lose s b whole off).st) := by
  unfold State.lose
  try dsimp only [State.drawBool, State.drawRandom]
  repeat' first
    | with_reducible exact Only.refl _ _
    | ((with_reducible apply Only.step State.loseHandle_only ?_ ?k); case k => exact rfl)
    | ((with_reducible apply Only.step State.loseEpt_only ?_ ?k); case k => exact rfl)
    | ((with_reducible apply Only.step State.resetCore_only ?_ ?k); case k => exact rfl)
    | ((with_reducible apply Only.step State.tearDown_only ?_ ?k); case k => exact rfl)
    | ((with_reducible apply Only.step State.missSides_only ?_ ?k); case k => exact rfl)
    | ((with_reducible apply Only.step State.loseTask_only ?_ ?k); case k => exact rfl)
    | ((with_reducible apply Only.step State.loseTasks_only ?_ ?k); case k => exact rfl)
    | ((with_reducible apply Only.step State.fenceCore_only ?_ ?k); case k => exact rfl)
    | ((with_reducible apply Only.step State.rereadTd_only ?_ ?k); case k => exact rfl)
    | ((with_reducible apply Only.step State.loseFifo_only ?_ ?k); case k => exact rfl)
    | ((with_reducible apply Only.step State.loseStaging_only ?_ ?k); case k => exact rfl)
    | with_reducible apply Only.foldl ?_ (fun _ _ => ?_)
    | dsimp only [id]
    | split
    | ((with_reducible apply Only.upd ?_ ?h); case h => exact rfl)

theorem State.memoryFault_only {s : State} {cls : Fin 9} {b : Fin 21} {whole : Bool} {off : Nat} :
    Only 0x29E20FF910 s (State.memoryFault s cls b whole off) := by
  unfold State.memoryFault
  try dsimp only
  repeat' first
    | with_reducible exact Only.refl _ _
    | ((with_reducible apply Only.step State.lose_only ?_ ?k); case k => exact rfl)
    | ((with_reducible apply Only.step State.faultJob_only ?_ ?k); case k => exact rfl)
    | ((with_reducible apply Only.step State.endFault_only ?_ ?k); case k => exact rfl)
    | dsimp only [id]
    | split
    | ((with_reducible apply Only.upd ?_ ?h); case h => exact rfl)

theorem execUncorrectableError_only {b : Fin 21} {off : Nat} {s : State} :
    ∃ z, execUncorrectableError b off s = .next z ∧ Only 0x29E20FF910 s z := by
  unfold execUncorrectableError
  try dsimp only
  repeat' first
    | with_reducible refine ⟨_, rfl, ?_⟩
    | split
  repeat' first
    | with_reducible exact Only.refl _ _
    | ((with_reducible apply Only.step State.memoryFault_only ?_ ?k); case k => exact rfl)
    | dsimp only [id]
    | split
    | ((with_reducible apply Only.upd ?_ ?h); case h => exact rfl)

theorem execMemoryScrub_only {b : Fin 21} {corrected : Nat} {s : State} :
    ∃ z, execMemoryScrub b corrected s = .next z ∧ Only 0x80000000 s z := by
  unfold execMemoryScrub
  repeat' first
    | with_reducible refine ⟨_, rfl, ?_⟩
    | split
  repeat' first
    | with_reducible exact Only.refl _ _
    | dsimp only [id]
    | split
    | ((with_reducible apply Only.upd ?_ ?h); case h => exact rfl)

theorem execWorkerHang_only {w : WorkerId} {s : State} : ∃ z, execWorkerHang w s = .next z ∧ Only 0x800B1900 s z := by
  unfold execWorkerHang
  try dsimp only
  repeat' first
    | with_reducible refine ⟨_, rfl, ?_⟩
    | split
  repeat' first
    | with_reducible exact Only.refl _ _
    | ((with_reducible apply Only.step State.faultJob_only ?_ ?k); case k => exact rfl)
    | ((with_reducible apply Only.step State.modWorker_only ?_ ?k); case k => exact rfl)
    | ((with_reducible apply Only.step State.emptyWorker_only ?_ ?k); case k => exact rfl)
    | dsimp only [id]
    | split
    | ((with_reducible apply Only.upd ?_ ?h); case h => exact rfl)

theorem execCoreHang_only {c : CoreId} {s : State} : ∃ z, execCoreHang c s = .next z ∧ Only 0x1C0090900 s z := by
  unfold execCoreHang
  try dsimp only
  repeat' first
    | with_reducible refine ⟨_, rfl, ?_⟩
    | split
  repeat' first
    | with_reducible exact Only.refl _ _
    | ((with_reducible apply Only.step State.resetCore_only ?_ ?k); case k => exact rfl)
    | ((with_reducible apply Only.step State.modCore_only ?_ ?k); case k => exact rfl)
    | ((with_reducible apply Only.step State.endFault_only ?_ ?k); case k => exact rfl)
    | ((with_reducible apply Only.step State.fenceCore_only ?_ ?k); case k => exact rfl)
    | dsimp only [id]
    | split
    | ((with_reducible apply Only.upd ?_ ?h); case h => exact rfl)

theorem State.islandLost_only {s : State} {i : Island} : Only 0x9620F7900 s (State.islandLost s i) := by
  unfold State.islandLost
  repeat' first
    | with_reducible exact Only.refl _ _
    | ((with_reducible apply Only.step State.cutSides_only ?_ ?k); case k => exact rfl)
    | ((with_reducible apply Only.step State.resetCore_only ?_ ?k); case k => exact rfl)
    | ((with_reducible apply Only.step State.emptyWorker_only ?_ ?k); case k => exact rfl)
    | with_reducible apply Only.foldl ?_ (fun _ _ => ?_)
    | dsimp only [id]
    | split
    | ((with_reducible apply Only.upd ?_ ?h); case h => exact rfl)

theorem State.restart_only {s : State} {l : List Island} {cls : Fin 9} {unit outcome mask : Nat} :
    Only 0x9E20F7900 s (State.restart s l cls unit outcome mask) := by
  unfold State.restart
  try dsimp only
  repeat' first
    | with_reducible exact Only.refl _ _
    | ((with_reducible apply Only.step State.islandLost_only ?_ ?k); case k => exact rfl)
    | ((with_reducible apply Only.step State.moveIsland_only ?_ ?k); case k => exact rfl)
    | with_reducible apply Only.foldl ?_ (fun _ _ => ?_)
    | dsimp only [id]
    | split
    | ((with_reducible apply Only.upd ?_ ?h); case h => exact rfl)

theorem execClockLoss_only {i : Island} {pll : List Island} {s : State} : ∃ z, execClockLoss i pll s = .next z ∧ Only 0x9E20F7902 s z := by
  unfold execClockLoss
  try dsimp only
  repeat' first
    | with_reducible refine ⟨_, rfl, ?_⟩
    | split
  repeat' first
    | with_reducible exact Only.refl _ _
    | ((with_reducible apply Only.step State.restart_only ?_ ?k); case k => exact rfl)
    | ((with_reducible apply Only.step State.endFault_only ?_ ?k); case k => exact rfl)
    | dsimp only [id]
    | split
    | ((with_reducible apply Only.upd ?_ ?h); case h => exact rfl)

theorem execLodeParityFail_only {s : State} : ∃ z, execLodeParityFail s = .next z ∧ Only 0x9E20F7900 s z := by
  unfold execLodeParityFail
  repeat' first
    | with_reducible refine ⟨_, rfl, ?_⟩
    | split
  repeat' first
    | with_reducible exact Only.refl _ _
    | ((with_reducible apply Only.step State.restart_only ?_ ?k); case k => exact rfl)
    | dsimp only [id]
    | split
    | ((with_reducible apply Only.upd ?_ ?h); case h => exact rfl)

theorem State.loseResponse_only {s : State} : Only 0x100000000 s (State.loseResponse s) := by
  unfold State.loseResponse
  try dsimp only
  repeat' first
    | with_reducible exact Only.refl _ _
    | dsimp only [id]
    | split
    | ((with_reducible apply Only.upd ?_ ?h); case h => exact rfl)

theorem State.endRestarts_only {s : State} : Only 0x1C0000800 s (State.endRestarts s) := by
  unfold State.endRestarts
  try dsimp only
  repeat' first
    | with_reducible exact Only.refl _ _
    | ((with_reducible apply Only.step State.endFault_only ?_ ?k); case k => exact rfl)
    | with_reducible apply Only.foldl ?_ (fun _ _ => ?_)
    | dsimp only [id]
    | split
    | ((with_reducible apply Only.upd ?_ ?h); case h => exact rfl)

theorem execPortPhyFault_only {i : SideId} {s : State} : ∃ z, execPortPhyFault i s = .next z ∧ Only 0x29E30F7900 s z := by
  unfold execPortPhyFault
  try dsimp only
  repeat' first
    | with_reducible refine ⟨_, rfl, ?_⟩
    | split
  repeat' first
    | with_reducible exact Only.refl _ _
    | ((with_reducible apply Only.step State.cutSides_only ?_ ?k); case k => exact rfl)
    | ((with_reducible apply Only.step State.endFault_only ?_ ?k); case k => exact rfl)
    | ((with_reducible apply Only.step State.detachPort_only ?_ ?k); case k => exact rfl)
    | ((with_reducible apply Only.step State.modSide_only ?_ ?k); case k => exact rfl)
    | dsimp only [id]
    | split
    | ((with_reducible apply Only.upd ?_ ?h); case h => exact rfl)

theorem execPhyRestart_only {i : SideId} {s : State} : ∃ z, execPhyRestart i s = .next z ∧ Only 0x80800 s z := by
  unfold execPhyRestart
  try dsimp only
  repeat' first
    | with_reducible refine ⟨_, rfl, ?_⟩
    | split
  repeat' first
    | with_reducible exact Only.refl _ _
    | ((with_reducible apply Only.step State.modSide_only ?_ ?k); case k => exact rfl)
    | ((with_reducible apply Only.step State.addWork_only ?_ ?k); case k => exact rfl)
    | dsimp only [id]
    | split
    | ((with_reducible apply Only.upd ?_ ?h); case h => exact rfl)

theorem execHostLinkError_only {aer : BitVec 32} {down : Bool} {s : State} :
    ∃ z, execHostLinkError aer down s = .next z ∧ Only 0x1C0010830 s z := by
  unfold execHostLinkError
  try dsimp only
  repeat' first
    | with_reducible refine ⟨_, rfl, ?_⟩
    | split
  repeat' first
    | with_reducible exact Only.refl _ _
    | ((with_reducible apply Only.step State.aer_only ?_ ?k); case k => exact rfl)
    | ((with_reducible apply Only.step State.endFault_only ?_ ?k); case k => exact rfl)
    | dsimp only [id]
    | split
    | ((with_reducible apply Only.upd ?_ ?h); case h => exact rfl)

theorem State.writeFltPop_only {v : Word} {s : State} : Only 0x80000000 s (State.writeFltPop v s) := by
  unfold State.writeFltPop
  repeat' first
    | with_reducible exact Only.refl _ _
    | dsimp only [id]
    | split
    | ((with_reducible apply Only.upd ?_ ?h); case h => exact rfl)

theorem State.fltPopWrite_only {s : State} {a : WrAcc} {v : Word} : Only 0x10A0011050 s (State.fltPopWrite s a v) := by
  unfold State.fltPopWrite
  repeat' first
    | with_reducible exact Only.refl _ _
    | ((with_reducible apply Only.step State.writeFltPop_only ?_ ?k); case k => exact rfl)
    | ((with_reducible apply Only.trans ?_ (State.regWrite_only (fun _ _ => ?_) ?k)); case k => exact rfl)
    | dsimp only [id]
    | split
    | ((with_reducible apply Only.upd ?_ ?h); case h => exact rfl)

theorem execFltPop_only {a : WrAcc} {v : Word} {s : State} : ∃ z, execFltPop a v s = .next z ∧ Only 0x10A0011050 s z := by
  unfold execFltPop
  repeat' first
    | with_reducible refine ⟨_, rfl, ?_⟩
    | split
  repeat' first
    | with_reducible exact Only.refl _ _
    | ((with_reducible apply Only.step State.fltPopWrite_only ?_ ?k); case k => exact rfl)
    | dsimp only [id]
    | split
    | ((with_reducible apply Only.upd ?_ ?h); case h => exact rfl)

theorem State.unfenceWorkers_only {s : State} {sel pass : BitVec 32} : Only 0x800 s (State.unfenceWorkers s sel pass) := by
  unfold State.unfenceWorkers
  repeat' first
    | with_reducible exact Only.refl _ _
    | ((with_reducible apply Only.step State.modWorker_only ?_ ?k); case k => exact rfl)
    | with_reducible apply Only.foldl ?_ (fun _ _ => ?_)
    | dsimp only [id]
    | split
    | ((with_reducible apply Only.upd ?_ ?h); case h => exact rfl)

theorem State.unfenceCores_only {s : State} {sel pass : BitVec 4} : Only 0x800 s (State.unfenceCores s sel pass) := by
  unfold State.unfenceCores
  repeat' first
    | with_reducible exact Only.refl _ _
    | ((with_reducible apply Only.step State.modCore_only ?_ ?k); case k => exact rfl)
    | with_reducible apply Only.foldl ?_ (fun _ _ => ?_)
    | dsimp only [id]
    | split
    | ((with_reducible apply Only.upd ?_ ?h); case h => exact rfl)

theorem State.writeUnfence_only {pw : BitVec 32} {pc : BitVec 4} {v : Word} {s : State} : Only 0x800 s (State.writeUnfence pw pc v s) := by
  unfold State.writeUnfence
  repeat' first
    | with_reducible exact Only.refl _ _
    | ((with_reducible apply Only.step State.unfenceWorkers_only ?_ ?k); case k => exact rfl)
    | ((with_reducible apply Only.step State.unfenceCores_only ?_ ?k); case k => exact rfl)
    | dsimp only [id]
    | split
    | ((with_reducible apply Only.upd ?_ ?h); case h => exact rfl)

theorem State.fltUnfenceWrite_only {s : State} {a : WrAcc} {v : Word} {pw : BitVec 32} {pc : BitVec 4} :
    Only 0x1020011850 s (State.fltUnfenceWrite s a v pw pc) := by
  unfold State.fltUnfenceWrite
  repeat' first
    | with_reducible exact Only.refl _ _
    | ((with_reducible apply Only.step State.writeUnfence_only ?_ ?k); case k => exact rfl)
    | ((with_reducible apply Only.trans ?_ (State.regWrite_only (fun _ _ => ?_) ?k)); case k => exact rfl)
    | dsimp only [id]
    | split
    | ((with_reducible apply Only.upd ?_ ?h); case h => exact rfl)

theorem State.drawBits_only {s : State} {k : Nat} : Only 0x2000000000 s (s.drawBits k).2 := by
  induction k generalizing s with
  | zero => exact Only.refl _ _
  | succ k ih =>
    simp only [State.drawBits, State.drawBool]
    refine Only.trans ?_ ih
    repeat' first
      | with_reducible exact Only.refl _ _
      | with_reducible apply Only.foldl ?_ (fun _ _ => ?_)
      | dsimp only [id]
      | split
      | ((with_reducible apply Only.upd ?_ ?h); case h => exact rfl)

theorem execFltUnfenceWorkers_only {a : WrAcc} {v : Word} {pass : BitVec 32} {s : State} :
    ∃ z, execFltUnfenceWorkers a v pass s = .next z ∧ Only 0x3020011850 s z := by
  unfold execFltUnfenceWorkers
  try dsimp only [State.drawBool, State.drawRandom]
  repeat' first
    | with_reducible refine ⟨_, rfl, ?_⟩
    | split
  repeat' first
    | with_reducible exact Only.refl _ _
    | ((with_reducible apply Only.step State.fltUnfenceWrite_only ?_ ?k); case k => exact rfl)
    | ((with_reducible apply Only.step State.drawBits_only ?_ ?k); case k => exact rfl)
    | dsimp only [id]
    | split
    | ((with_reducible apply Only.upd ?_ ?h); case h => exact rfl)

theorem execFltUnfenceCores_only {a : WrAcc} {v : Word} {pass : BitVec 4} {s : State} :
    ∃ z, execFltUnfenceCores a v pass s = .next z ∧ Only 0x3020011850 s z := by
  unfold execFltUnfenceCores
  try dsimp only [State.drawBool, State.drawRandom]
  repeat' first
    | with_reducible refine ⟨_, rfl, ?_⟩
    | split
  repeat' first
    | with_reducible exact Only.refl _ _
    | ((with_reducible apply Only.step State.fltUnfenceWrite_only ?_ ?k); case k => exact rfl)
    | ((with_reducible apply Only.step State.drawBits_only ?_ ?k); case k => exact rfl)
    | dsimp only [id]
    | split
    | ((with_reducible apply Only.upd ?_ ?h); case h => exact rfl)

theorem State.sleepRefill_only {s : State} {ns : Nat} : Only 0x4000 s (State.sleepRefill s ns) := by
  unfold State.sleepRefill
  try dsimp only
  repeat' first
    | with_reducible exact Only.refl _ _
    | dsimp only [id]
    | split
    | ((with_reducible apply Only.upd ?_ ?h); case h => exact rfl)

theorem State.enterLp_only {s : State} {l : LpState} : Only 0x20004000 s (State.enterLp s l) := by
  unfold State.enterLp
  try dsimp only
  repeat' first
    | with_reducible exact Only.refl _ _
    | ((with_reducible apply Only.step State.sleepRefill_only ?_ ?k); case k => exact rfl)
    | dsimp only [id]
    | split
    | ((with_reducible apply Only.upd ?_ ?h); case h => exact rfl)

theorem State.sleepIslands_only {s : State} {l : LpState} {which : List Island} : Only 0x20000000 s (State.sleepIslands s l which) := by
  unfold State.sleepIslands
  repeat' first
    | with_reducible exact Only.refl _ _
    | ((with_reducible apply Only.step State.moveIsland_only ?_ ?k); case k => exact rfl)
    | with_reducible apply Only.foldl ?_ (fun _ _ => ?_)
    | dsimp only [id]
    | split
    | ((with_reducible apply Only.upd ?_ ?h); case h => exact rfl)

theorem State.enter_only {s : State} {z0 : LpState} : Only 0x20004002 s (State.enter s z0) := by
  unfold State.enter
  try dsimp only
  repeat' first
    | with_reducible exact Only.refl _ _
    | ((with_reducible apply Only.step State.holdPads_only ?_ ?k); case k => exact rfl)
    | ((with_reducible apply Only.step State.enterLp_only ?_ ?k); case k => exact rfl)
    | ((with_reducible apply Only.step State.sleepIslands_only ?_ ?k); case k => exact rfl)
    | dsimp only [id]
    | split
    | ((with_reducible apply Only.upd ?_ ?h); case h => exact rfl)

theorem State.portWake_only {s : State} {w : Nat} {p : PortId} : Only 0x40800 s (State.portWake s w p) := by
  unfold State.portWake
  try dsimp only
  repeat' first
    | with_reducible exact Only.refl _ _
    | ((with_reducible apply Only.step State.modDev_only ?_ ?k); case k => exact rfl)
    | ((with_reducible apply Only.step State.beginResume_only ?_ ?k); case k => exact rfl)
    | dsimp only [id]
    | split
    | ((with_reducible apply Only.upd ?_ ?h); case h => exact rfl)

theorem State.dueEffects_only {s : State} : Only 0x1620309F0 s (State.dueEffects s) := by
  unfold State.dueEffects
  try dsimp only
  repeat' first
    | with_reducible exact Only.refl _ _
    | ((with_reducible apply Only.step State.perst_only ?_ ?k); case k => exact rfl)
    | ((with_reducible apply Only.step State.zeroise_only ?_ ?k); case k => exact rfl)
    | dsimp only [id]
    | split
    | ((with_reducible apply Only.upd ?_ ?h); case h => exact rfl)

theorem State.endExit_only {s : State} : Only 0x96E0759F0 s (State.endExit s) := by
  unfold State.endExit
  try dsimp only
  repeat' first
    | with_reducible exact Only.refl _ _
    | ((with_reducible apply Only.step State.wantItem_only ?_ ?k); case k => exact rfl)
    | ((with_reducible apply Only.step State.resample_only ?_ ?k); case k => exact rfl)
    | ((with_reducible apply Only.step State.dueEffects_only ?_ ?k); case k => exact rfl)
    | ((with_reducible apply Only.step State.enterLp_only ?_ ?k); case k => exact rfl)
    | ((with_reducible apply Only.step State.portWake_only ?_ ?k); case k => exact rfl)
    | with_reducible apply Only.foldl ?_ (fun _ _ => ?_)
    | dsimp only [id]
    | split
    | ((with_reducible apply Only.upd ?_ ?h); case h => exact rfl)

theorem State.beginExit_only {s : State} {first : Nat} : Only 0x96E0759F0 s (State.beginExit s first) := by
  unfold State.beginExit
  try dsimp only
  repeat' first
    | with_reducible exact Only.refl _ _
    | ((with_reducible apply Only.step State.resample_only ?_ ?k); case k => exact rfl)
    | ((with_reducible apply Only.step State.enterLp_only ?_ ?k); case k => exact rfl)
    | ((with_reducible apply Only.step State.startExit_only ?_ ?k); case k => exact rfl)
    | ((with_reducible apply Only.step State.endExit_only ?_ ?k); case k => exact rfl)
    | ((with_reducible apply Only.step State.moveIsland_only ?_ ?k); case k => exact rfl)
    | with_reducible apply Only.foldl ?_ (fun _ _ => ?_)
    | dsimp only [id]
    | split
    | ((with_reducible apply Only.upd ?_ ?h); case h => exact rfl)

theorem State.selectState_only {s : State} : Only 0x96E0759F2 s (State.selectState s) := by
  unfold State.selectState
  try dsimp only
  repeat' first
    | with_reducible exact Only.refl _ _
    | ((with_reducible apply Only.step State.beginExit_only ?_ ?k); case k => exact rfl)
    | ((with_reducible apply Only.step State.enter_only ?_ ?k); case k => exact rfl)
    | dsimp only [id]
    | split
    | ((with_reducible apply Only.upd ?_ ?h); case h => exact rfl)

theorem execLpEntry_only {s : State} : ∃ z, execLpEntry s = .next z ∧ Only 0x96E0759F2 s z := by
  unfold execLpEntry
  repeat' first
    | with_reducible refine ⟨_, rfl, ?_⟩
    | split
  repeat' first
    | with_reducible exact Only.refl _ _
    | ((with_reducible apply Only.step State.selectState_only ?_ ?k); case k => exact rfl)
    | dsimp only [id]
    | split
    | ((with_reducible apply Only.upd ?_ ?h); case h => exact rfl)

theorem State.writeLatTol_only {t : TenantId} {v : Word} {s : State} : Only 0x96E0759F2 s (State.writeLatTol t v s) := by
  unfold State.writeLatTol
  repeat' first
    | with_reducible exact Only.refl _ _
    | ((with_reducible apply Only.step State.selectState_only ?_ ?k); case k => exact rfl)
    | ((with_reducible apply Only.step State.modTenant_only ?_ ?k); case k => exact rfl)
    | dsimp only [id]
    | split
    | ((with_reducible apply Only.upd ?_ ?h); case h => exact rfl)

theorem State.writeLatFloor_only {v : Word} {s : State} : Only 0x96E0759F2 s (State.writeLatFloor v s) := by
  unfold State.writeLatFloor
  repeat' first
    | with_reducible exact Only.refl _ _
    | ((with_reducible apply Only.step State.selectState_only ?_ ?k); case k => exact rfl)
    | dsimp only [id]
    | split
    | ((with_reducible apply Only.upd ?_ ?h); case h => exact rfl)

theorem execTLatTolWrite_only {t : TenantId} {a : WrAcc} {v : Word} {s : State} :
    ∃ z, execTLatTolWrite t a v s = .next z ∧ Only 0x196E0759F2 s z := by
  unfold execTLatTolWrite
  repeat' first
    | with_reducible refine ⟨_, rfl, ?_⟩
    | split
  repeat' first
    | with_reducible exact Only.refl _ _
    | ((with_reducible apply Only.trans ?_ (State.regWrite_only (fun _ _ => ?_) ?k)); case k => exact rfl)
    | ((with_reducible apply Only.step State.writeLatTol_only ?_ ?k); case k => exact rfl)
    | dsimp only [id]
    | split
    | ((with_reducible apply Only.upd ?_ ?h); case h => exact rfl)

theorem execPwrLatFloorWrite_only {a : WrAcc} {v : Word} {s : State} :
    ∃ z, execPwrLatFloorWrite a v s = .next z ∧ Only 0x196E0759F2 s z := by
  unfold execPwrLatFloorWrite
  repeat' first
    | with_reducible refine ⟨_, rfl, ?_⟩
    | split
  repeat' first
    | with_reducible exact Only.refl _ _
    | ((with_reducible apply Only.step State.writeLatFloor_only ?_ ?k); case k => exact rfl)
    | ((with_reducible apply Only.trans ?_ (State.regWrite_only (fun _ _ => ?_) ?k)); case k => exact rfl)
    | dsimp only [id]
    | split
    | ((with_reducible apply Only.upd ?_ ?h); case h => exact rfl)

theorem execAspmL1Entry_only {s : State} : ∃ z, execAspmL1Entry s = .next z ∧ Only 0x20 s z := by
  unfold execAspmL1Entry
  repeat' first
    | with_reducible refine ⟨_, rfl, ?_⟩
    | split
  repeat' first
    | with_reducible exact Only.refl _ _
    | dsimp only [id]
    | split
    | ((with_reducible apply Only.upd ?_ ?h); case h => exact rfl)

theorem execL1PmSubstateEntry_only {l12 : Bool} {s : State} : ∃ z, execL1PmSubstateEntry l12 s = .next z ∧ Only 0x20 s z := by
  unfold execL1PmSubstateEntry
  repeat' first
    | with_reducible refine ⟨_, rfl, ?_⟩
    | split
  repeat' first
    | with_reducible exact Only.refl _ _
    | dsimp only [id]
    | split
    | ((with_reducible apply Only.upd ?_ ?h); case h => exact rfl)

theorem execXtal32Running_only {s : State} : ∃ z, execXtal32Running s = .next z ∧ Only 0x2 s z := by
  unfold execXtal32Running
  repeat' first
    | with_reducible refine ⟨_, rfl, ?_⟩
    | split
  repeat' first
    | with_reducible exact Only.refl _ _
    | dsimp only [id]
    | split
    | ((with_reducible apply Only.upd ?_ ?h); case h => exact rfl)

theorem State.portWatch_only {s : State} {w : Nat} {p : PortId} : Only 0x20000000 s (State.portWatch s w p) := by
  unfold State.portWatch
  try dsimp only
  repeat' first
    | with_reducible exact Only.refl _ _
    | dsimp only [id]
    | split
    | ((with_reducible apply Only.upd ?_ ?h); case h => exact rfl)

theorem State.wake_only {s : State} {w : Nat} {p : PortId} : Only 0x96E0759F0 s (State.wake s w p) := by
  unfold State.wake
  try dsimp only
  repeat' first
    | with_reducible exact Only.refl _ _
    | ((with_reducible apply Only.step State.portWake_only ?_ ?k); case k => exact rfl)
    | ((with_reducible apply Only.step State.portWatch_only ?_ ?k); case k => exact rfl)
    | ((with_reducible apply Only.step State.beginExit_only ?_ ?k); case k => exact rfl)
    | dsimp only [id]
    | split
    | ((with_reducible apply Only.upd ?_ ?h); case h => exact rfl)

theorem execConnect_only {d : DevId} {sp : Speed} {s : State} : ∃ z, execConnect d sp s = .next z ∧ Only 0x96E0759F0 s z := by
  unfold execConnect
  repeat' first
    | with_reducible refine ⟨_, rfl, ?_⟩
    | split
  repeat' first
    | with_reducible exact Only.refl _ _
    | ((with_reducible apply Only.step State.wake_only ?_ ?k); case k => exact rfl)
    | ((with_reducible apply Only.step State.attach_only ?_ ?k); case k => exact rfl)
    | dsimp only [id]
    | split
    | ((with_reducible apply Only.upd ?_ ?h); case h => exact rfl)

theorem execDisconnect_only {d : DevId} {s : State} : ∃ z, execDisconnect d s = .next z ∧ Only 0x296F0F59F0 s z := by
  unfold execDisconnect
  repeat' first
    | with_reducible refine ⟨_, rfl, ?_⟩
    | split
  repeat' first
    | with_reducible exact Only.refl _ _
    | ((with_reducible apply Only.step State.wake_only ?_ ?k); case k => exact rfl)
    | ((with_reducible apply Only.step State.detach_only ?_ ?k); case k => exact rfl)
    | dsimp only [id]
    | split
    | ((with_reducible apply Only.upd ?_ ?h); case h => exact rfl)

theorem execRemoteWake_only {d : DevId} {s : State} : ∃ z, execRemoteWake d s = .next z ∧ Only 0x96E0759F0 s z := by
  unfold execRemoteWake
  repeat' first
    | with_reducible refine ⟨_, rfl, ?_⟩
    | split
  repeat' first
    | with_reducible exact Only.refl _ _
    | ((with_reducible apply Only.step State.wake_only ?_ ?k); case k => exact rfl)
    | ((with_reducible apply Only.step State.remoteWake_only ?_ ?k); case k => exact rfl)
    | dsimp only [id]
    | split
    | ((with_reducible apply Only.upd ?_ ?h); case h => exact rfl)

theorem execFunctionWake_only {d : DevId} {s : State} : ∃ z, execFunctionWake d s = .next z ∧ Only 0x96E0759F0 s z := by
  unfold execFunctionWake
  repeat' first
    | with_reducible refine ⟨_, rfl, ?_⟩
    | split
  repeat' first
    | with_reducible exact Only.refl _ _
    | ((with_reducible apply Only.step State.wake_only ?_ ?k); case k => exact rfl)
    | ((with_reducible apply Only.step State.functionWake_only ?_ ?k); case k => exact rfl)
    | dsimp only [id]
    | split
    | ((with_reducible apply Only.upd ?_ ?h); case h => exact rfl)

theorem execOverCurrentTrip_only {r : OcRef} {s : State} : ∃ z, execOverCurrentTrip r s = .next z ∧ Only 0x296F2F59F2 s z := by
  unfold execOverCurrentTrip
  repeat' first
    | with_reducible refine ⟨_, rfl, ?_⟩
    | split
  repeat' first
    | with_reducible exact Only.refl _ _
    | ((with_reducible apply Only.step State.overCurrent_only ?_ ?k); case k => exact rfl)
    | ((with_reducible apply Only.step State.wake_only ?_ ?k); case k => exact rfl)
    | dsimp only [id]
    | split
    | ((with_reducible apply Only.upd ?_ ?h); case h => exact rfl)

theorem execPwrfailNFall_only {tpp : Nat} {starts : List Nat} {s : State} :
    ∃ z, execPwrfailNFall tpp starts s = .next z ∧ Only 0x96E0759F2 s z := by
  unfold execPwrfailNFall
  repeat' first
    | with_reducible refine ⟨_, rfl, ?_⟩
    | split
  repeat' first
    | with_reducible exact Only.refl _ _
    | ((with_reducible apply Only.step State.wake_only ?_ ?k); case k => exact rfl)
    | ((with_reducible apply Only.step State.pwrfailFall_only ?_ ?k); case k => exact rfl)
    | dsimp only [id]
    | split
    | ((with_reducible apply Only.upd ?_ ?h); case h => exact rfl)

theorem execPpsInEdge_only {falling : Bool} {s : State} : ∃ z, execPpsInEdge falling s = .next z ∧ Only 0x296E075BF0 s z := by
  unfold execPpsInEdge
  try dsimp only
  repeat' first
    | with_reducible refine ⟨_, rfl, ?_⟩
    | split
  repeat' first
    | with_reducible exact Only.refl _ _
    | ((with_reducible apply Only.step State.wake_only ?_ ?k); case k => exact rfl)
    | ((with_reducible apply Only.step State.ppsInEdge_only ?_ ?k); case k => exact rfl)
    | dsimp only [id]
    | split
    | ((with_reducible apply Only.upd ?_ ?h); case h => exact rfl)

theorem execPerstNAssert_only {s : State} : ∃ z, execPerstNAssert s = .next z ∧ Only 0x96E0759F2 s z := by
  unfold execPerstNAssert
  try dsimp only
  repeat' first
    | with_reducible refine ⟨_, rfl, ?_⟩
    | split
  repeat' first
    | with_reducible exact Only.refl _ _
    | ((with_reducible apply Only.step State.wake_only ?_ ?k); case k => exact rfl)
    | ((with_reducible apply Only.step State.perst_only ?_ ?k); case k => exact rfl)
    | dsimp only [id]
    | split
    | ((with_reducible apply Only.upd ?_ ?h); case h => exact rfl)

theorem execWakeSource_only {w : Fin 12} {p : PortId} {s : State} : ∃ z, execWakeSource w p s = .next z ∧ Only 0x96E0759F0 s z := by
  unfold execWakeSource
  repeat' first
    | with_reducible refine ⟨_, rfl, ?_⟩
    | split
  repeat' first
    | with_reducible exact Only.refl _ _
    | ((with_reducible apply Only.step State.wake_only ?_ ?k); case k => exact rfl)
    | dsimp only [id]
    | split
    | ((with_reducible apply Only.upd ?_ ?h); case h => exact rfl)

theorem execWakeTimer_only {s : State} : ∃ z, execWakeTimer s = .next z ∧ Only 0x96E0759F0 s z := by
  unfold execWakeTimer
  repeat' first
    | with_reducible refine ⟨_, rfl, ?_⟩
    | split
  repeat' first
    | with_reducible exact Only.refl _ _
    | ((with_reducible apply Only.step State.wake_only ?_ ?k); case k => exact rfl)
    | dsimp only [id]
    | split
    | ((with_reducible apply Only.upd ?_ ?h); case h => exact rfl)

theorem execKeeperSave_only {s : State} : ∃ z, execKeeperSave s = .next z ∧ Only 0x20004000 s z := by
  unfold execKeeperSave
  try dsimp only
  repeat' first
    | with_reducible refine ⟨_, rfl, ?_⟩
    | split
  repeat' first
    | with_reducible exact Only.refl _ _
    | ((with_reducible apply Only.step State.enterLp_only ?_ ?k); case k => exact rfl)
    | ((with_reducible apply Only.step State.sleepIslands_only ?_ ?k); case k => exact rfl)
    | dsimp only [id]
    | split
    | ((with_reducible apply Only.upd ?_ ?h); case h => exact rfl)

theorem execKeeperRestore_only {ticks : Nat} {s : State} : ∃ z, execKeeperRestore ticks s = .next z ∧ Only 0x96E075FF0 s z := by
  unfold execKeeperRestore
  try dsimp only
  repeat' first
    | with_reducible refine ⟨_, rfl, ?_⟩
    | split
  repeat' first
    | with_reducible exact Only.refl _ _
    | ((with_reducible apply Only.step State.tickPolicing_only ?_ ?k); case k => exact rfl)
    | ((with_reducible apply Only.step State.releaseDelays_only ?_ ?k); case k => exact rfl)
    | ((with_reducible apply Only.step State.endExit_only ?_ ?k); case k => exact rfl)
    | dsimp only [id]
    | split
    | ((with_reducible apply Only.upd ?_ ?h); case h => exact rfl)

theorem State.islandSleep_only {s : State} {i : Island} {st : IslandState} : Only 0x20000800 s (State.islandSleep s i st) := by
  unfold State.islandSleep
  repeat' first
    | with_reducible exact Only.refl _ _
    | ((with_reducible apply Only.step State.moveIsland_only ?_ ?k); case k => exact rfl)
    | dsimp only [id]
    | split
    | ((with_reducible apply Only.upd ?_ ?h); case h => exact rfl)

theorem execIslandClockGate_only {i : Island} {s : State} : ∃ z, execIslandClockGate i s = .next z ∧ Only 0x20000800 s z := by
  unfold execIslandClockGate
  repeat' first
    | with_reducible refine ⟨_, rfl, ?_⟩
    | split
  repeat' first
    | with_reducible exact Only.refl _ _
    | ((with_reducible apply Only.step State.islandSleep_only ?_ ?k); case k => exact rfl)
    | dsimp only [id]
    | split
    | ((with_reducible apply Only.upd ?_ ?h); case h => exact rfl)

theorem execIslandRetention_only {i : Island} {s : State} : ∃ z, execIslandRetention i s = .next z ∧ Only 0x20000800 s z := by
  unfold execIslandRetention
  repeat' first
    | with_reducible refine ⟨_, rfl, ?_⟩
    | split
  repeat' first
    | with_reducible exact Only.refl _ _
    | ((with_reducible apply Only.step State.islandSleep_only ?_ ?k); case k => exact rfl)
    | dsimp only [id]
    | split
    | ((with_reducible apply Only.upd ?_ ?h); case h => exact rfl)

theorem execRetentionScrub_only {b : Fin 20} {corrected : Nat} {lost : Bool} {s : State} :
    ∃ z, execRetentionScrub b corrected lost s = .next z ∧ Only 0x29EE0FF9F0 s z := by
  unfold execRetentionScrub
  try dsimp only
  repeat' first
    | with_reducible refine ⟨_, rfl, ?_⟩
    | split
  repeat' first
    | with_reducible exact Only.refl _ _
    | ((with_reducible apply Only.step State.wake_only ?_ ?k); case k => exact rfl)
    | ((with_reducible apply Only.step State.memoryFault_only ?_ ?k); case k => exact rfl)
    | dsimp only [id]
    | split
    | ((with_reducible apply Only.upd ?_ ?h); case h => exact rfl)

theorem State.releasePads_only {s : State} : Only 0x21630F0902 s (State.releasePads s) := by
  unfold State.releasePads
  try dsimp only
  repeat' first
    | with_reducible exact Only.refl _ _
    | ((with_reducible apply Only.step State.setPower_only ?_ ?k); case k => exact rfl)
    | with_reducible apply Only.foldl ?_ (fun _ _ => ?_)
    | dsimp only [id]
    | split
    | ((with_reducible apply Only.upd ?_ ?h); case h => exact rfl)

theorem State.writePadRelease_only {v : Word} {s : State} : Only 0x21630F0902 s (State.writePadRelease v s) := by
  unfold State.writePadRelease
  repeat' first
    | with_reducible exact Only.refl _ _
    | ((with_reducible apply Only.step State.releasePads_only ?_ ?k); case k => exact rfl)
    | dsimp only [id]
    | split
    | ((with_reducible apply Only.upd ?_ ?h); case h => exact rfl)

theorem execPwrPadRelease_only {a : WrAcc} {v : Word} {s : State} : ∃ z, execPwrPadRelease a v s = .next z ∧ Only 0x31630F1952 s z := by
  unfold execPwrPadRelease
  repeat' first
    | with_reducible refine ⟨_, rfl, ?_⟩
    | split
  repeat' first
    | with_reducible exact Only.refl _ _
    | ((with_reducible apply Only.trans ?_ (State.regWrite_only (fun _ _ => ?_) ?k)); case k => exact rfl)
    | ((with_reducible apply Only.step State.writePadRelease_only ?_ ?k); case k => exact rfl)
    | dsimp only [id]
    | split
    | ((with_reducible apply Only.upd ?_ ?h); case h => exact rfl)

theorem execWake_only {s : State} : ∃ z, execWake s = .next z ∧ Only 0x21630F1902 s z := by
  unfold execWake
  try dsimp only
  repeat' first
    | with_reducible refine ⟨_, rfl, ?_⟩
    | split
  repeat' first
    | with_reducible exact Only.refl _ _
    | ((with_reducible apply Only.step State.releasePads_only ?_ ?k); case k => exact rfl)
    | ((with_reducible apply Only.step State.endItem_only ?_ ?k); case k => exact rfl)
    | dsimp only [id]
    | split
    | ((with_reducible apply Only.upd ?_ ?h); case h => exact rfl)

theorem State.writeOppCtl_only {v : Word} {s : State} : Only 0x20010040 s (State.writeOppCtl v s) := by
  unfold State.writeOppCtl
  try dsimp only
  repeat' first
    | with_reducible exact Only.refl _ _
    | ((with_reducible apply Only.step State.refuseWrite_only ?_ ?k); case k => exact rfl)
    | dsimp only [id]
    | split
    | ((with_reducible apply Only.upd ?_ ?h); case h => exact rfl)

theorem State.oppCtlWrite_only {s : State} {a : WrAcc} {v : Word} : Only 0x1020011050 s (State.oppCtlWrite s a v) := by
  unfold State.oppCtlWrite
  repeat' first
    | with_reducible exact Only.refl _ _
    | ((with_reducible apply Only.step State.writeOppCtl_only ?_ ?k); case k => exact rfl)
    | ((with_reducible apply Only.trans ?_ (State.regWrite_only (fun _ _ => ?_) ?k)); case k => exact rfl)
    | dsimp only [id]
    | split
    | ((with_reducible apply Only.upd ?_ ?h); case h => exact rfl)

theorem execPwrOppCtlWrite_only {a : WrAcc} {v : Word} {s : State} : ∃ z, execPwrOppCtlWrite a v s = .next z ∧ Only 0x1020011050 s z := by
  unfold execPwrOppCtlWrite
  repeat' first
    | with_reducible refine ⟨_, rfl, ?_⟩
    | split
  repeat' first
    | with_reducible exact Only.refl _ _
    | ((with_reducible apply Only.step State.oppCtlWrite_only ?_ ?k); case k => exact rfl)
    | dsimp only [id]
    | split
    | ((with_reducible apply Only.upd ?_ ?h); case h => exact rfl)

theorem execOppChange_only {s : State} : ∃ z, execOppChange s = .next z ∧ Only 0x20000002 s z := by
  unfold execOppChange
  try dsimp only
  repeat' first
    | with_reducible refine ⟨_, rfl, ?_⟩
    | split
  repeat' first
    | with_reducible exact Only.refl _ _
    | dsimp only [id]
    | split
    | ((with_reducible apply Only.upd ?_ ?h); case h => exact rfl)

theorem State.oppPhase_only {s : State} {old new : OppPhase} : Only 0x20000000 s (State.oppPhase s old new) := by
  unfold State.oppPhase
  repeat' first
    | with_reducible exact Only.refl _ _
    | dsimp only [id]
    | split
    | ((with_reducible apply Only.upd ?_ ?h); case h => exact rfl)

theorem execVcorePgGood_only {s : State} : ∃ z, execVcorePgGood s = .next z ∧ Only 0x20000002 s z := by
  unfold execVcorePgGood
  repeat' first
    | with_reducible refine ⟨_, rfl, ?_⟩
    | split
  repeat' first
    | with_reducible exact Only.refl _ _
    | ((with_reducible apply Only.step State.oppPhase_only ?_ ?k); case k => exact rfl)
    | dsimp only [id]
    | split
    | ((with_reducible apply Only.upd ?_ ?h); case h => exact rfl)

theorem execVcoreSettleEnd_only {s : State} : ∃ z, execVcoreSettleEnd s = .next z ∧ Only 0x20000000 s z := by
  unfold execVcoreSettleEnd
  repeat' first
    | with_reducible refine ⟨_, rfl, ?_⟩
    | split
  repeat' first
    | with_reducible exact Only.refl _ _
    | ((with_reducible apply Only.step State.oppPhase_only ?_ ?k); case k => exact rfl)
    | dsimp only [id]
    | split
    | ((with_reducible apply Only.upd ?_ ?h); case h => exact rfl)

theorem execPllRelock_only {s : State} : ∃ z, execPllRelock s = .next z ∧ Only 0x20000000 s z := by
  unfold execPllRelock
  repeat' first
    | with_reducible refine ⟨_, rfl, ?_⟩
    | split
  repeat' first
    | with_reducible exact Only.refl _ _
    | dsimp only [id]
    | split
    | ((with_reducible apply Only.upd ?_ ?h); case h => exact rfl)

theorem execOppFault_only {s : State} : ∃ z, execOppFault s = .next z ∧ Only 0x1E0000802 s z := by
  unfold execOppFault
  try dsimp only
  repeat' first
    | with_reducible refine ⟨_, rfl, ?_⟩
    | split
  repeat' first
    | with_reducible exact Only.refl _ _
    | ((with_reducible apply Only.step State.faultRecord_only ?_ ?k); case k => exact rfl)
    | dsimp only [id]
    | split
    | ((with_reducible apply Only.upd ?_ ?h); case h => exact rfl)

theorem execOppAutoWindow_only {windowUs : Nat} {s : State} : ∃ z, execOppAutoWindow windowUs s = .next z ∧ Only 0x20000000 s z := by
  unfold execOppAutoWindow
  try dsimp only
  repeat' first
    | with_reducible refine ⟨_, rfl, ?_⟩
    | split
  repeat' first
    | with_reducible exact Only.refl _ _
    | dsimp only [id]
    | split
    | ((with_reducible apply Only.upd ?_ ?h); case h => exact rfl)

theorem execThermalSample_only {r : List (BitVec 8)} {s : State} : ∃ z, execThermalSample r s = .next z ∧ Only 0x96E0759F2 s z := by
  unfold execThermalSample
  try dsimp only
  repeat' first
    | with_reducible refine ⟨_, rfl, ?_⟩
    | split
  repeat' first
    | with_reducible exact Only.refl _ _
    | ((with_reducible apply Only.step State.wake_only ?_ ?k); case k => exact rfl)
    | with_reducible apply Only.foldl ?_ (fun _ _ => ?_)
    | dsimp only [id]
    | split
    | ((with_reducible apply Only.upd ?_ ?h); case h => exact rfl)

theorem State.latchTamper_only {s : State} {i : Fin 2} : Only 0x40000000 s (State.latchTamper s i) := by
  unfold State.latchTamper
  repeat' first
    | with_reducible exact Only.refl _ _
    | dsimp only [id]
    | split
    | ((with_reducible apply Only.upd ?_ ?h); case h => exact rfl)

theorem State.tamperZero_only {s : State} : Only 0x162030900 s (State.tamperZero s) := by
  unfold State.tamperZero
  repeat' first
    | with_reducible exact Only.refl _ _
    | ((with_reducible apply Only.step State.zeroise_only ?_ ?k); case k => exact rfl)
    | dsimp only [id]
    | split
    | ((with_reducible apply Only.upd ?_ ?h); case h => exact rfl)

theorem execTamperAssert_only {i : Fin 2} {s : State} : ∃ z, execTamperAssert i s = .next z ∧ Only 0x96E0759F6 s z := by
  unfold execTamperAssert
  try dsimp only
  repeat' first
    | with_reducible refine ⟨_, rfl, ?_⟩
    | split
  repeat' first
    | with_reducible exact Only.refl _ _
    | ((with_reducible apply Only.step State.wake_only ?_ ?k); case k => exact rfl)
    | ((with_reducible apply Only.step State.tamperZero_only ?_ ?k); case k => exact rfl)
    | ((with_reducible apply Only.step State.latchTamper_only ?_ ?k); case k => exact rfl)
    | ((with_reducible apply Only.step State.queueRec_only ?_ ?k); case k => exact rfl)
    | dsimp only [id]
    | split
    | ((with_reducible apply Only.upd ?_ ?h); case h => exact rfl)

theorem execTamperRelease_only {i : Fin 2} {s : State} : ∃ z, execTamperRelease i s = .next z ∧ Only 0x2 s z := by
  unfold execTamperRelease
  repeat' first
    | with_reducible refine ⟨_, rfl, ?_⟩
    | split
  repeat' first
    | with_reducible exact Only.refl _ _
    | dsimp only [id]
    | split
    | ((with_reducible apply Only.upd ?_ ?h); case h => exact rfl)

theorem execVddioNRise_only {s : State} : ∃ z, execVddioNRise s = .next z ∧ Only 0x2 s z := by
  unfold execVddioNRise
  repeat' first
    | with_reducible refine ⟨_, rfl, ?_⟩
    | split
  repeat' first
    | with_reducible exact Only.refl _ _
    | dsimp only [id]
    | split
    | ((with_reducible apply Only.upd ?_ ?h); case h => exact rfl)

theorem State.afterReset_only {s : State} {vaon vbat : Bool} {cause : BitVec 4} :
    Only 0x7FFFFFFFA s (State.afterReset s vaon vbat cause) := by
  unfold State.afterReset
  repeat' first
    | with_reducible exact Only.refl _ _
    | dsimp only [id]
    | split
    | ((with_reducible apply Only.upd ?_ ?h); case h => exact rfl)

theorem State.fullReset_only {s : State} {vaonLow vbat : Bool} : Only 0x7FFFFFFFA s (State.fullReset s vaonLow vbat) := by
  unfold State.fullReset
  repeat' first
    | with_reducible exact Only.refl _ _
    | ((with_reducible apply Only.step State.afterReset_only ?_ ?k); case k => exact rfl)
    | dsimp only [id]
    | split
    | ((with_reducible apply Only.upd ?_ ?h); case h => exact rfl)

theorem execFullReset_only {src : FullResetSrc} {vbat : Bool} {s : State} :
    ∃ z, execFullReset src vbat s = .next z ∧ Only 0x27FFFFFFFA s z := by
  unfold execFullReset
  try dsimp only [State.drawBool, State.drawRandom]
  repeat' first
    | with_reducible refine ⟨_, rfl, ?_⟩
    | split
  repeat' first
    | with_reducible exact Only.refl _ _
    | ((with_reducible apply Only.step State.fullReset_only ?_ ?k); case k => exact rfl)
    | dsimp only [id]
    | split
    | ((with_reducible apply Only.upd ?_ ?h); case h => exact rfl)

theorem State.custodyMode_only {s : State} : Only 0x400000800 s (State.custodyMode s) := by
  unfold State.custodyMode
  repeat' first
    | with_reducible exact Only.refl _ _
    | dsimp only [id]
    | split
    | ((with_reducible apply Only.upd ?_ ?h); case h => exact rfl)

theorem State.imageLock_only {s : State} {us : Nat} : Only 0x808 s (State.imageLock s us) := by
  unfold State.imageLock
  try dsimp only
  repeat' first
    | with_reducible exact Only.refl _ _
    | dsimp only [id]
    | split
    | ((with_reducible apply Only.upd ?_ ?h); case h => exact rfl)

theorem State.runStart_only {s : State} : Only 0x2742010908 s (State.runStart s) := by
  unfold State.runStart
  try dsimp only [State.drawBool, State.drawRandom]
  repeat' first
    | with_reducible exact Only.refl _ _
    | ((with_reducible apply Only.step State.custodyMode_only ?_ ?k); case k => exact rfl)
    | ((with_reducible apply Only.step State.imageLock_only ?_ ?k); case k => exact rfl)
    | ((with_reducible apply Only.step State.addItem_only ?_ ?k); case k => exact rfl)
    | ((with_reducible apply Only.step State.setPeat_only ?_ ?k); case k => exact rfl)
    | dsimp only [id]
    | split
    | ((with_reducible apply Only.upd ?_ ?h); case h => exact rfl)

theorem execPorNRelease_only {peatSel testMode : Bool} {s : State} :
    ∃ z, execPorNRelease peatSel testMode s = .next z ∧ Only 0x274201090A s z := by
  unfold execPorNRelease
  repeat' first
    | with_reducible refine ⟨_, rfl, ?_⟩
    | split
  repeat' first
    | with_reducible exact Only.refl _ _
    | ((with_reducible apply Only.step State.runStart_only ?_ ?k); case k => exact rfl)
    | dsimp only [id]
    | split
    | ((with_reducible apply Only.upd ?_ ?h); case h => exact rfl)

theorem execWatchdogReset_only {s : State} : ∃ z, execWatchdogReset s = .next z ∧ Only 0x27FFFFFFFA s z := by
  unfold execWatchdogReset
  try dsimp only
  repeat' first
    | with_reducible refine ⟨_, rfl, ?_⟩
    | split
  repeat' first
    | with_reducible exact Only.refl _ _
    | ((with_reducible apply Only.step State.runStart_only ?_ ?k); case k => exact rfl)
    | ((with_reducible apply Only.step State.afterReset_only ?_ ?k); case k => exact rfl)
    | dsimp only [id]
    | split
    | ((with_reducible apply Only.upd ?_ ?h); case h => exact rfl)

theorem execImageSelect_only {r : SlotReads} {cut : Option Nat} {s : State} :
    ∃ z, execImageSelect r cut s = .next z ∧ Only 0x14000180C s z := by
  unfold execImageSelect
  try dsimp only
  repeat' first
    | with_reducible refine ⟨_, rfl, ?_⟩
    | split
  repeat' first
    | with_reducible exact Only.refl _ _
    | ((with_reducible apply Only.step State.imageLock_only ?_ ?k); case k => exact rfl)
    | ((with_reducible apply Only.step State.addItem_only ?_ ?k); case k => exact rfl)
    | ((with_reducible apply Only.step State.endItem_only ?_ ?k); case k => exact rfl)
    | ((with_reducible apply Only.step State.logEvent_only ?_ ?k); case k => exact rfl)
    | dsimp only [id]
    | split
    | ((with_reducible apply Only.upd ?_ ?h); case h => exact rfl)

theorem State.loadImage_only {s : State} {i : Image} : Only 0x64586600 s (State.loadImage s i) := by
  unfold State.loadImage
  repeat' first
    | with_reducible exact Only.refl _ _
    | dsimp only [id]
    | split
    | ((with_reducible apply Only.upd ?_ ?h); case h => exact rfl)

theorem execTableBuild_only {lockUs : Nat} {s : State} : ∃ z, execTableBuild lockUs s = .next z ∧ Only 0x864597F18 s z := by
  unfold execTableBuild
  try dsimp only
  repeat' first
    | with_reducible refine ⟨_, rfl, ?_⟩
    | split
  repeat' first
    | with_reducible exact Only.refl _ _
    | ((with_reducible apply Only.step State.imageLock_only ?_ ?k); case k => exact rfl)
    | ((with_reducible apply Only.step State.addItem_only ?_ ?k); case k => exact rfl)
    | ((with_reducible apply Only.step State.settle_only ?_ ?k); case k => exact rfl)
    | ((with_reducible apply Only.step State.loadImage_only ?_ ?k); case k => exact rfl)
    | ((with_reducible apply Only.step State.endItem_only ?_ ?k); case k => exact rfl)
    | dsimp only [id]
    | split
    | ((with_reducible apply Only.upd ?_ ?h); case h => exact rfl)

theorem execPortPower_only {s : State} : ∃ z, execPortPower s = .next z ∧ Only 0x1808 s z := by
  unfold execPortPower
  try dsimp only
  repeat' first
    | with_reducible refine ⟨_, rfl, ?_⟩
    | split
  repeat' first
    | with_reducible exact Only.refl _ _
    | ((with_reducible apply Only.step State.endItem_only ?_ ?k); case k => exact rfl)
    | dsimp only [id]
    | split
    | ((with_reducible apply Only.upd ?_ ?h); case h => exact rfl)

theorem State.startLoop_only {s : State} : Only 0x200000800 s (State.startLoop s) := by
  unfold State.startLoop
  try dsimp only
  repeat' first
    | with_reducible exact Only.refl _ _
    | ((with_reducible apply Only.step State.addItem_only ?_ ?k); case k => exact rfl)
    | dsimp only [id]
    | split
    | ((with_reducible apply Only.upd ?_ ?h); case h => exact rfl)

theorem State.startSelfTest_only {s : State} {mbist loop : Bool} : Only 0x200010840 s (State.startSelfTest s mbist loop) := by
  unfold State.startSelfTest
  try dsimp only
  repeat' first
    | with_reducible exact Only.refl _ _
    | ((with_reducible apply Only.step State.refuseWrite_only ?_ ?k); case k => exact rfl)
    | ((with_reducible apply Only.step State.addItem_only ?_ ?k); case k => exact rfl)
    | ((with_reducible apply Only.step State.startLoop_only ?_ ?k); case k => exact rfl)
    | dsimp only [id]
    | split
    | ((with_reducible apply Only.upd ?_ ?h); case h => exact rfl)

theorem State.writeSelfTest_only {v : Word} {s : State} : Only 0x200010840 s (State.writeSelfTest v s) := by
  unfold State.writeSelfTest
  repeat' first
    | with_reducible exact Only.refl _ _
    | ((with_reducible apply Only.step State.startSelfTest_only ?_ ?k); case k => exact rfl)
    | dsimp only [id]
    | split
    | ((with_reducible apply Only.upd ?_ ?h); case h => exact rfl)

theorem State.selfTestWrite_only {s : State} {a : WrAcc} {v : Word} : Only 0x1220011850 s (State.selfTestWrite s a v) := by
  unfold State.selfTestWrite
  repeat' first
    | with_reducible exact Only.refl _ _
    | ((with_reducible apply Only.step State.writeSelfTest_only ?_ ?k); case k => exact rfl)
    | ((with_reducible apply Only.trans ?_ (State.regWrite_only (fun _ _ => ?_) ?k)); case k => exact rfl)
    | dsimp only [id]
    | split
    | ((with_reducible apply Only.upd ?_ ?h); case h => exact rfl)

theorem execSelftestMbistStart_only {a : WrAcc} {v : Word} {s : State} :
    ∃ z, execSelftestMbistStart a v s = .next z ∧ Only 0x1220011850 s z := by
  unfold execSelftestMbistStart
  repeat' first
    | with_reducible refine ⟨_, rfl, ?_⟩
    | split
  repeat' first
    | with_reducible exact Only.refl _ _
    | ((with_reducible apply Only.step State.selfTestWrite_only ?_ ?k); case k => exact rfl)
    | dsimp only [id]
    | split
    | ((with_reducible apply Only.upd ?_ ?h); case h => exact rfl)

theorem execSelftestLoopbackStart_only {a : WrAcc} {v : Word} {s : State} :
    ∃ z, execSelftestLoopbackStart a v s = .next z ∧ Only 0x1220011850 s z := by
  unfold execSelftestLoopbackStart
  repeat' first
    | with_reducible refine ⟨_, rfl, ?_⟩
    | split
  repeat' first
    | with_reducible exact Only.refl _ _
    | ((with_reducible apply Only.step State.selfTestWrite_only ?_ ?k); case k => exact rfl)
    | dsimp only [id]
    | split
    | ((with_reducible apply Only.upd ?_ ?h); case h => exact rfl)

theorem State.clearMemories_only {s : State} : Only 0x43061800 s (State.clearMemories s) := by
  unfold State.clearMemories
  repeat' first
    | with_reducible exact Only.refl _ _
    | dsimp only [id]
    | split
    | ((with_reducible apply Only.upd ?_ ?h); case h => exact rfl)

theorem execSelfTestMbist_only {fails : BitVec 21} {s : State} : ∃ z, execSelfTestMbist fails s = .next z ∧ Only 0x243061800 s z := by
  unfold execSelfTestMbist
  try dsimp only
  repeat' first
    | with_reducible refine ⟨_, rfl, ?_⟩
    | split
  repeat' first
    | with_reducible exact Only.refl _ _
    | ((with_reducible apply Only.step State.clearMemories_only ?_ ?k); case k => exact rfl)
    | ((with_reducible apply Only.step State.startLoop_only ?_ ?k); case k => exact rfl)
    | ((with_reducible apply Only.step State.endItem_only ?_ ?k); case k => exact rfl)
    | dsimp only [id]
    | split
    | ((with_reducible apply Only.upd ?_ ?h); case h => exact rfl)

theorem execSelfTestLoopback_only {workers : BitVec 32} {ports : BitVec 22} {seals lodes : BitVec 2} {s : State} :
    ∃ z, execSelfTestLoopback workers ports seals lodes s = .next z ∧ Only 0x200001800 s z := by
  unfold execSelfTestLoopback
  try dsimp only
  repeat' first
    | with_reducible refine ⟨_, rfl, ?_⟩
    | split
  repeat' first
    | with_reducible exact Only.refl _ _
    | ((with_reducible apply Only.step State.endItem_only ?_ ?k); case k => exact rfl)
    | dsimp only [id]
    | split
    | ((with_reducible apply Only.upd ?_ ?h); case h => exact rfl)

theorem execSvcAttach_only {highSpeed : Bool} {s : State} : ∃ z, execSvcAttach highSpeed s = .next z ∧ Only 0x100000000 s z := by
  unfold execSvcAttach
  repeat' first
    | with_reducible refine ⟨_, rfl, ?_⟩
    | split
  repeat' first
    | with_reducible exact Only.refl _ _
    | dsimp only [id]
    | split
    | ((with_reducible apply Only.upd ?_ ?h); case h => exact rfl)

theorem execSvcDetach_only {s : State} : ∃ z, execSvcDetach s = .next z ∧ Only 0x100000000 s z := by
  unfold execSvcDetach
  repeat' first
    | with_reducible refine ⟨_, rfl, ?_⟩
    | split
  repeat' first
    | with_reducible exact Only.refl _ _
    | dsimp only [id]
    | split
    | ((with_reducible apply Only.upd ?_ ?h); case h => exact rfl)

theorem execSvcVbusChange_only {valid : Bool} {s : State} : ∃ z, execSvcVbusChange valid s = .next z ∧ Only 0x96E0759F0 s z := by
  unfold execSvcVbusChange
  try dsimp only
  repeat' first
    | with_reducible refine ⟨_, rfl, ?_⟩
    | split
  repeat' first
    | with_reducible exact Only.refl _ _
    | ((with_reducible apply Only.step State.wake_only ?_ ?k); case k => exact rfl)
    | dsimp only [id]
    | split
    | ((with_reducible apply Only.upd ?_ ?h); case h => exact rfl)

theorem State.writeSvcCtl_only {v : Word} {s : State} : Only 0x100000000 s (State.writeSvcCtl v s) := by
  unfold State.writeSvcCtl
  try dsimp only
  repeat' first
    | with_reducible exact Only.refl _ _
    | dsimp only [id]
    | split
    | ((with_reducible apply Only.upd ?_ ?h); case h => exact rfl)

theorem State.svcCtlWrite_only {s : State} {a : WrAcc} {v : Word} : Only 0x1120011050 s (State.svcCtlWrite s a v) := by
  unfold State.svcCtlWrite
  repeat' first
    | with_reducible exact Only.refl _ _
    | ((with_reducible apply Only.trans ?_ (State.regWrite_only (fun _ _ => ?_) ?k)); case k => exact rfl)
    | ((with_reducible apply Only.step State.writeSvcCtl_only ?_ ?k); case k => exact rfl)
    | dsimp only [id]
    | split
    | ((with_reducible apply Only.upd ?_ ?h); case h => exact rfl)

theorem execSvcCtlWrite_only {a : WrAcc} {v : Word} {s : State} : ∃ z, execSvcCtlWrite a v s = .next z ∧ Only 0x1120011050 s z := by
  unfold execSvcCtlWrite
  repeat' first
    | with_reducible refine ⟨_, rfl, ?_⟩
    | split
  repeat' first
    | with_reducible exact Only.refl _ _
    | ((with_reducible apply Only.step State.svcCtlWrite_only ?_ ?k); case k => exact rfl)
    | dsimp only [id]
    | split
    | ((with_reducible apply Only.upd ?_ ?h); case h => exact rfl)

theorem execSvcBusReset_only {midXfer highSpeed : Bool} {s : State} :
    ∃ z, execSvcBusReset midXfer highSpeed s = .next z ∧ Only 0x96E0759F0 s z := by
  unfold execSvcBusReset
  try dsimp only
  repeat' first
    | with_reducible refine ⟨_, rfl, ?_⟩
    | split
  repeat' first
    | with_reducible exact Only.refl _ _
    | ((with_reducible apply Only.step State.wake_only ?_ ?k); case k => exact rfl)
    | dsimp only [id]
    | split
    | ((with_reducible apply Only.upd ?_ ?h); case h => exact rfl)

theorem execSvcSuspend_only {s : State} : ∃ z, execSvcSuspend s = .next z ∧ Only 0x100000000 s z := by
  unfold execSvcSuspend
  try dsimp only
  repeat' first
    | with_reducible refine ⟨_, rfl, ?_⟩
    | split
  repeat' first
    | with_reducible exact Only.refl _ _
    | dsimp only [id]
    | split
    | ((with_reducible apply Only.upd ?_ ?h); case h => exact rfl)

theorem execSvcResume_only {s : State} : ∃ z, execSvcResume s = .next z ∧ Only 0x96E0759F0 s z := by
  unfold execSvcResume
  try dsimp only
  repeat' first
    | with_reducible refine ⟨_, rfl, ?_⟩
    | split
  repeat' first
    | with_reducible exact Only.refl _ _
    | ((with_reducible apply Only.step State.wake_only ?_ ?k); case k => exact rfl)
    | dsimp only [id]
    | split
    | ((with_reducible apply Only.upd ?_ ?h); case h => exact rfl)

theorem execSvcRemoteWake_only {s : State} : ∃ z, execSvcRemoteWake s = .next z ∧ Only 0x900000000 s z := by
  unfold execSvcRemoteWake
  repeat' first
    | with_reducible refine ⟨_, rfl, ?_⟩
    | split
  repeat' first
    | with_reducible exact Only.refl _ _
    | ((with_reducible apply Only.step State.emitOut_only ?_ ?k); case k => exact rfl)
    | dsimp only [id]
    | split
    | ((with_reducible apply Only.upd ?_ ?h); case h => exact rfl)

theorem State.svcReply_only {s : State} {l : List Byte} : Only 0x800000000 s (State.svcReply s l) := by
  unfold State.svcReply
  repeat' first
    | with_reducible exact Only.refl _ _
    | ((with_reducible apply Only.step State.emitOut_only ?_ ?k); case k => exact rfl)
    | dsimp only [id]
    | split
    | ((with_reducible apply Only.upd ?_ ?h); case h => exact rfl)

theorem State.svcStall_only {s : State} : Only 0x800000000 s (State.svcStall s) := by
  unfold State.svcStall
  repeat' first
    | with_reducible exact Only.refl _ _
    | ((with_reducible apply Only.step State.emitOut_only ?_ ?k); case k => exact rfl)
    | dsimp only [id]
    | split
    | ((with_reducible apply Only.upd ?_ ?h); case h => exact rfl)

theorem State.vendor_only {s : State} {x : Setup} {code type : Nat} {ok session : Bool} {act : State → State} {m : Nat} (hact : ∀ y0, Only m y0 (act y0)) (hk : 0x900000000 ||| m = m) :
    Only m s (State.vendor s x code type ok session act) := by
  unfold State.vendor
  try dsimp only
  repeat' first
    | with_reducible exact Only.refl _ _
    | with_reducible apply Only.trans ?_ (hact _)
    | ((with_reducible apply Only.step State.svcStall_only ?_ ?k); case k => exact mask_sub rfl hk)
    | dsimp only [id]
    | split
    | ((with_reducible apply Only.updMono (m := 0x900000000) ?_ ?h ?k); (case h => exact rfl); case k => exact mask_sub rfl hk)

theorem execGetIdentity_only {x : Setup} {s : State} : ∃ z, execGetIdentity x s = .next z ∧ Only 0x900000000 s z := by
  unfold execGetIdentity
  repeat' first
    | with_reducible refine ⟨_, rfl, ?_⟩
    | split
  repeat' first
    | with_reducible exact Only.refl _ _
    | ((with_reducible apply Only.trans ?_ (State.vendor_only (fun _ => ?_) ?k)); case k => exact rfl)
    | ((with_reducible apply Only.step State.svcReply_only ?_ ?k); case k => exact rfl)
    | dsimp only [id]
    | split
    | ((with_reducible apply Only.upd ?_ ?h); case h => exact rfl)

theorem execGetAttestation_only {x : Setup} {nonce : BitVec 256} {s : State} :
    ∃ z, execGetAttestation x nonce s = .next z ∧ Only 0x900000800 s z := by
  unfold execGetAttestation
  repeat' first
    | with_reducible refine ⟨_, rfl, ?_⟩
    | split
  repeat' first
    | with_reducible exact Only.refl _ _
    | ((with_reducible apply Only.step State.wantItem_only ?_ ?k); case k => exact rfl)
    | ((with_reducible apply Only.trans ?_ (State.vendor_only (fun _ => ?_) ?k)); case k => exact rfl)
    | ((with_reducible apply Only.step State.svcReply_only ?_ ?k); case k => exact rfl)
    | ((with_reducible apply Only.step State.svcStall_only ?_ ?k); case k => exact rfl)
    | dsimp only [id]
    | split
    | ((with_reducible apply Only.upd ?_ ?h); case h => exact rfl)

theorem execGetResidency_only {x : Setup} {s : State} : ∃ z, execGetResidency x s = .next z ∧ Only 0x900000800 s z := by
  unfold execGetResidency
  repeat' first
    | with_reducible refine ⟨_, rfl, ?_⟩
    | split
  repeat' first
    | with_reducible exact Only.refl _ _
    | ((with_reducible apply Only.trans ?_ (State.vendor_only (fun _ => ?_) ?k)); case k => exact rfl)
    | ((with_reducible apply Only.step State.svcReply_only ?_ ?k); case k => exact rfl)
    | dsimp only [id]
    | split
    | ((with_reducible apply Only.upd ?_ ?h); case h => exact rfl)

theorem execAuthChallenge_only {x : Setup} {s : State} : ∃ z, execAuthChallenge x s = .next z ∧ Only 0x2900000000 s z := by
  unfold execAuthChallenge
  try dsimp only [State.drawBool, State.drawRandom]
  repeat' first
    | with_reducible refine ⟨_, rfl, ?_⟩
    | split
  repeat' first
    | with_reducible exact Only.refl _ _
    | ((with_reducible apply Only.trans ?_ (State.vendor_only (fun _ => ?_) ?k)); case k => exact rfl)
    | ((with_reducible apply Only.step State.svcReply_only ?_ ?k); case k => exact rfl)
    | ((with_reducible apply Only.step State.svcStall_only ?_ ?k); case k => exact rfl)
    | dsimp only [id]
    | split
    | ((with_reducible apply Only.upd ?_ ?h); case h => exact rfl)

theorem State.authFailed_only {s : State} : Only 0x900000000 s (State.authFailed s) := by
  unfold State.authFailed
  try dsimp only
  repeat' first
    | with_reducible exact Only.refl _ _
    | ((with_reducible apply Only.step State.svcStall_only ?_ ?k); case k => exact rfl)
    | dsimp only [id]
    | split
    | ((with_reducible apply Only.upd ?_ ?h); case h => exact rfl)

theorem execAuthResponse_only {x : Setup} {sig : List Byte} {s : State} :
    ∃ z, execAuthResponse x sig s = .next z ∧ Only 0x900000800 s z := by
  unfold execAuthResponse
  repeat' first
    | with_reducible refine ⟨_, rfl, ?_⟩
    | split
  repeat' first
    | with_reducible exact Only.refl _ _
    | ((with_reducible apply Only.step State.wantItem_only ?_ ?k); case k => exact rfl)
    | ((with_reducible apply Only.trans ?_ (State.vendor_only (fun _ => ?_) ?k)); case k => exact rfl)
    | ((with_reducible apply Only.step State.authFailed_only ?_ ?k); case k => exact rfl)
    | dsimp only [id]
    | split
    | ((with_reducible apply Only.upd ?_ ?h); case h => exact rfl)

theorem execAuthVerifyDone_only {s : State} : ∃ z, execAuthVerifyDone s = .next z ∧ Only 0x900000000 s z := by
  unfold execAuthVerifyDone
  try dsimp only
  repeat' first
    | with_reducible refine ⟨_, rfl, ?_⟩
    | split
  repeat' first
    | with_reducible exact Only.refl _ _
    | ((with_reducible apply Only.step State.svcReply_only ?_ ?k); case k => exact rfl)
    | ((with_reducible apply Only.step State.authFailed_only ?_ ?k); case k => exact rfl)
    | dsimp only [id]
    | split
    | ((with_reducible apply Only.upd ?_ ?h); case h => exact rfl)

theorem execAuthLockoutEnd_only {s : State} : ∃ z, execAuthLockoutEnd s = .next z ∧ Only 0x100000000 s z := by
  unfold execAuthLockoutEnd
  repeat' first
    | with_reducible refine ⟨_, rfl, ?_⟩
    | split
  repeat' first
    | with_reducible exact Only.refl _ _
    | dsimp only [id]
    | split
    | ((with_reducible apply Only.upd ?_ ?h); case h => exact rfl)

theorem State.svcReady_only {s : State} {req : Nat} {l : List (List Byte × Option Nat)} : Only 0x100000000 s (State.svcReady s req l) := by
  unfold State.svcReady
  repeat' first
    | with_reducible exact Only.refl _ _
    | dsimp only [id]
    | split
    | ((with_reducible apply Only.upd ?_ ?h); case h => exact rfl)

theorem State.svcData_only {s : State} {req : Nat} {l : List Byte} : Only 0x100000000 s (State.svcData s req l) := by
  unfold State.svcData
  repeat' first
    | with_reducible exact Only.refl _ _
    | ((with_reducible apply Only.step State.svcReady_only ?_ ?k); case k => exact rfl)
    | dsimp only [id]
    | split
    | ((with_reducible apply Only.upd ?_ ?h); case h => exact rfl)

theorem execGetLog_only {x : Setup} {s : State} : ∃ z, execGetLog x s = .next z ∧ Only 0x900000000 s z := by
  unfold execGetLog
  try dsimp only
  repeat' first
    | with_reducible refine ⟨_, rfl, ?_⟩
    | split
  repeat' first
    | with_reducible exact Only.refl _ _
    | ((with_reducible apply Only.trans ?_ (State.vendor_only (fun _ => ?_) ?k)); case k => exact rfl)
    | ((with_reducible apply Only.step State.svcReply_only ?_ ?k); case k => exact rfl)
    | ((with_reducible apply Only.step State.svcStall_only ?_ ?k); case k => exact rfl)
    | ((with_reducible apply Only.step State.svcReady_only ?_ ?k); case k => exact rfl)
    | dsimp only [id]
    | split
    | ((with_reducible apply Only.upd ?_ ?h); case h => exact rfl)

theorem execGetTrace_only {x : Setup} {s : State} : ∃ z, execGetTrace x s = .next z ∧ Only 0x900000000 s z := by
  unfold execGetTrace
  repeat' first
    | with_reducible refine ⟨_, rfl, ?_⟩
    | split
  repeat' first
    | with_reducible exact Only.refl _ _
    | ((with_reducible apply Only.trans ?_ (State.vendor_only (fun _ => ?_) ?k)); case k => exact rfl)
    | ((with_reducible apply Only.step State.svcReply_only ?_ ?k); case k => exact rfl)
    | ((with_reducible apply Only.step State.svcStall_only ?_ ?k); case k => exact rfl)
    | ((with_reducible apply Only.step State.svcData_only ?_ ?k); case k => exact rfl)
    | dsimp only [id]
    | split
    | ((with_reducible apply Only.upd ?_ ?h); case h => exact rfl)

theorem execSetLogCursor_only {x : Setup} {index : Word} {s : State} :
    ∃ z, execSetLogCursor x index s = .next z ∧ Only 0x900000000 s z := by
  unfold execSetLogCursor
  repeat' first
    | with_reducible refine ⟨_, rfl, ?_⟩
    | split
  repeat' first
    | with_reducible exact Only.refl _ _
    | ((with_reducible apply Only.trans ?_ (State.vendor_only (fun _ => ?_) ?k)); case k => exact rfl)
    | ((with_reducible apply Only.step State.svcReply_only ?_ ?k); case k => exact rfl)
    | ((with_reducible apply Only.step State.svcStall_only ?_ ?k); case k => exact rfl)
    | dsimp only [id]
    | split
    | ((with_reducible apply Only.upd ?_ ?h); case h => exact rfl)

theorem execSvcEp2InAck_only {s : State} : ∃ z, execSvcEp2InAck s = .next z ∧ Only 0x900000000 s z := by
  unfold execSvcEp2InAck
  repeat' first
    | with_reducible refine ⟨_, rfl, ?_⟩
    | split
  repeat' first
    | with_reducible exact Only.refl _ _
    | ((with_reducible apply Only.step State.svcReply_only ?_ ?k); case k => exact rfl)
    | dsimp only [id]
    | split
    | ((with_reducible apply Only.upd ?_ ?h); case h => exact rfl)

theorem execSvcEp1Ack_only {s : State} : ∃ z, execSvcEp1Ack s = .next z ∧ Only 0x900000000 s z := by
  unfold execSvcEp1Ack
  try dsimp only
  repeat' first
    | with_reducible refine ⟨_, rfl, ?_⟩
    | split
  repeat' first
    | with_reducible exact Only.refl _ _
    | ((with_reducible apply Only.step State.svcReply_only ?_ ?k); case k => exact rfl)
    | dsimp only [id]
    | split
    | ((with_reducible apply Only.upd ?_ ?h); case h => exact rfl)

theorem execSvcEp2OutData_only {_data : List Byte} {s : State} : ∃ z, execSvcEp2OutData _data s = .next z ∧ Only 0x900000000 s z := by
  unfold execSvcEp2OutData
  repeat' first
    | with_reducible refine ⟨_, rfl, ?_⟩
    | split
  repeat' first
    | with_reducible exact Only.refl _ _
    | ((with_reducible apply Only.step State.svcStall_only ?_ ?k); case k => exact rfl)
    | dsimp only [id]
    | split
    | ((with_reducible apply Only.upd ?_ ?h); case h => exact rfl)

theorem State.answerSvc_only {s : State} {r : Option (List Byte)} {n : Nat} : Only 0x800000000 s (State.answerSvc s r n) := by
  unfold State.answerSvc
  repeat' first
    | with_reducible exact Only.refl _ _
    | ((with_reducible apply Only.step State.svcReply_only ?_ ?k); case k => exact rfl)
    | ((with_reducible apply Only.step State.svcStall_only ?_ ?k); case k => exact rfl)
    | dsimp only [id]
    | split
    | ((with_reducible apply Only.upd ?_ ?h); case h => exact rfl)

theorem State.changeSvc_only {s : State} {r : Option Svc} : Only 0x900000000 s (State.changeSvc s r) := by
  unfold State.changeSvc
  repeat' first
    | with_reducible exact Only.refl _ _
    | ((with_reducible apply Only.step State.svcReply_only ?_ ?k); case k => exact rfl)
    | ((with_reducible apply Only.step State.svcStall_only ?_ ?k); case k => exact rfl)
    | dsimp only [id]
    | split
    | ((with_reducible apply Only.upd ?_ ?h); case h => exact rfl)

theorem State.svcStandard_only {s : State} {x : Setup} : Only 0x900000000 s (State.svcStandard s x) := by
  unfold State.svcStandard
  try dsimp only
  repeat' first
    | with_reducible exact Only.refl _ _
    | ((with_reducible apply Only.step State.answerSvc_only ?_ ?k); case k => exact rfl)
    | ((with_reducible apply Only.step State.svcStall_only ?_ ?k); case k => exact rfl)
    | ((with_reducible apply Only.step State.changeSvc_only ?_ ?k); case k => exact rfl)
    | dsimp only [id]
    | split
    | ((with_reducible apply Only.upd ?_ ?h); case h => exact rfl)

theorem execSvcStandardRequest_only {x : Setup} {s : State} : ∃ z, execSvcStandardRequest x s = .next z ∧ Only 0x900000000 s z := by
  unfold execSvcStandardRequest
  try dsimp only
  repeat' first
    | with_reducible refine ⟨_, rfl, ?_⟩
    | split
  repeat' first
    | with_reducible exact Only.refl _ _
    | ((with_reducible apply Only.step State.svcStall_only ?_ ?k); case k => exact rfl)
    | ((with_reducible apply Only.step State.svcStandard_only ?_ ?k); case k => exact rfl)
    | dsimp only [id]
    | split
    | ((with_reducible apply Only.upd ?_ ?h); case h => exact rfl)

theorem State.arithSvcAttest_only {s : State} : Only 0x100000000 s (State.arithSvcAttest s) := by
  unfold State.arithSvcAttest
  try dsimp only
  repeat' first
    | with_reducible exact Only.refl _ _
    | ((with_reducible apply Only.step State.svcData_only ?_ ?k); case k => exact rfl)
    | dsimp only [id]
    | split
    | ((with_reducible apply Only.upd ?_ ?h); case h => exact rfl)

theorem State.arithSvcAuth_only {s : State} : Only 0x100000000 s (State.arithSvcAuth s) := by
  unfold State.arithSvcAuth
  repeat' first
    | with_reducible exact Only.refl _ _
    | dsimp only [id]
    | split
    | ((with_reducible apply Only.upd ?_ ?h); case h => exact rfl)

theorem execSealArith_only {a : ArithFor} {s : State} : ∃ z, execSealArith a s = .next z ∧ Only 0x2942031910 s z := by
  unfold execSealArith
  try dsimp only
  repeat' first
    | with_reducible refine ⟨_, rfl, ?_⟩
    | split
  repeat' first
    | with_reducible exact Only.refl _ _
    | ((with_reducible apply Only.step State.arithSvcAuth_only ?_ ?k); case k => exact rfl)
    | ((with_reducible apply Only.step State.arithSvcAttest_only ?_ ?k); case k => exact rfl)
    | ((with_reducible apply Only.step State.endItem_only ?_ ?k); case k => exact rfl)
    | ((with_reducible apply Only.step State.arithAttest_only ?_ ?k); case k => exact rfl)
    | ((with_reducible apply Only.step State.arithHandshake_only ?_ ?k); case k => exact rfl)
    | dsimp only [id]
    | split
    | ((with_reducible apply Only.upd ?_ ?h); case h => exact rfl)

theorem State.svcGone_only {s : State} : Only 0x100000000 s (State.svcGone s) := by
  unfold State.svcGone
  repeat' first
    | with_reducible exact Only.refl _ _
    | dsimp only [id]
    | split
    | ((with_reducible apply Only.upd ?_ ?h); case h => exact rfl)

theorem State.enterCustody_only {s : State} : Only 0xD6E0759F0 s (State.enterCustody s) := by
  unfold State.enterCustody
  try dsimp only
  repeat' first
    | with_reducible exact Only.refl _ _
    | ((with_reducible apply Only.step State.svcGone_only ?_ ?k); case k => exact rfl)
    | ((with_reducible apply Only.step State.custodyMode_only ?_ ?k); case k => exact rfl)
    | ((with_reducible apply Only.step State.wake_only ?_ ?k); case k => exact rfl)
    | ((with_reducible apply Only.step State.peatLost_only ?_ ?k); case k => exact rfl)
    | ((with_reducible apply Only.step State.fence_only ?_ ?k); case k => exact rfl)
    | ((with_reducible apply Only.step State.tamperZero_only ?_ ?k); case k => exact rfl)
    | ((with_reducible apply Only.step State.countFlr_only ?_ ?k); case k => exact rfl)
    | with_reducible apply Only.foldl ?_ (fun _ _ => ?_)
    | dsimp only [id]
    | split
    | ((with_reducible apply Only.upd ?_ ?h); case h => exact rfl)

theorem State.tapLoad_only {s : State} {i : TapInstr} : Only 0x400000020 s (State.tapLoad s i) := by
  unfold State.tapLoad
  repeat' first
    | with_reducible exact Only.refl _ _
    | dsimp only [id]
    | split
    | ((with_reducible apply Only.upd ?_ ?h); case h => exact rfl)

theorem State.tapInstr_only {s : State} {i : TapInstr} : Only 0xD6E0759F0 s (State.tapInstr s i) := by
  unfold State.tapInstr
  try dsimp only
  repeat' first
    | with_reducible exact Only.refl _ _
    | ((with_reducible apply Only.step State.tapLoad_only ?_ ?k); case k => exact rfl)
    | ((with_reducible apply Only.step State.enterCustody_only ?_ ?k); case k => exact rfl)
    | ((with_reducible apply Only.step State.emitOut_only ?_ ?k); case k => exact rfl)
    | dsimp only [id]
    | split
    | ((with_reducible apply Only.upd ?_ ?h); case h => exact rfl)

theorem execExtest_only {s : State} : ∃ z, execExtest s = .next z ∧ Only 0xD6E0759F0 s z := by
  unfold execExtest
  repeat' first
    | with_reducible refine ⟨_, rfl, ?_⟩
    | split
  repeat' first
    | with_reducible exact Only.refl _ _
    | ((with_reducible apply Only.step State.tapInstr_only ?_ ?k); case k => exact rfl)
    | dsimp only [id]
    | split
    | ((with_reducible apply Only.upd ?_ ?h); case h => exact rfl)

theorem execIdcode_only {s : State} : ∃ z, execIdcode s = .next z ∧ Only 0xD6E0759F0 s z := by
  unfold execIdcode
  repeat' first
    | with_reducible refine ⟨_, rfl, ?_⟩
    | split
  repeat' first
    | with_reducible exact Only.refl _ _
    | ((with_reducible apply Only.step State.tapInstr_only ?_ ?k); case k => exact rfl)
    | ((with_reducible apply Only.step State.emitOut_only ?_ ?k); case k => exact rfl)
    | dsimp only [id]
    | split
    | ((with_reducible apply Only.upd ?_ ?h); case h => exact rfl)

theorem execSamplePreload_only {preload : List Bool} {s : State} : ∃ z, execSamplePreload preload s = .next z ∧ Only 0x2D6E0759F0 s z := by
  unfold execSamplePreload
  try dsimp only
  repeat' first
    | with_reducible refine ⟨_, rfl, ?_⟩
    | split
  repeat' first
    | with_reducible exact Only.refl _ _
    | ((with_reducible apply Only.step State.emitOut_only ?_ ?k); case k => exact rfl)
    | ((with_reducible apply Only.step State.tapInstr_only ?_ ?k); case k => exact rfl)
    | dsimp only [id]
    | split
    | ((with_reducible apply Only.upd ?_ ?h); case h => exact rfl)

theorem execClamp_only {s : State} : ∃ z, execClamp s = .next z ∧ Only 0xD6E0759F0 s z := by
  unfold execClamp
  repeat' first
    | with_reducible refine ⟨_, rfl, ?_⟩
    | split
  repeat' first
    | with_reducible exact Only.refl _ _
    | ((with_reducible apply Only.step State.tapInstr_only ?_ ?k); case k => exact rfl)
    | dsimp only [id]
    | split
    | ((with_reducible apply Only.upd ?_ ?h); case h => exact rfl)

theorem execHighz_only {s : State} : ∃ z, execHighz s = .next z ∧ Only 0xD6E0759F0 s z := by
  unfold execHighz
  repeat' first
    | with_reducible refine ⟨_, rfl, ?_⟩
    | split
  repeat' first
    | with_reducible exact Only.refl _ _
    | ((with_reducible apply Only.step State.tapInstr_only ?_ ?k); case k => exact rfl)
    | dsimp only [id]
    | split
    | ((with_reducible apply Only.upd ?_ ?h); case h => exact rfl)

theorem execExtestPulse_only {s : State} : ∃ z, execExtestPulse s = .next z ∧ Only 0xD6E0759F0 s z := by
  unfold execExtestPulse
  repeat' first
    | with_reducible refine ⟨_, rfl, ?_⟩
    | split
  repeat' first
    | with_reducible exact Only.refl _ _
    | ((with_reducible apply Only.step State.tapInstr_only ?_ ?k); case k => exact rfl)
    | dsimp only [id]
    | split
    | ((with_reducible apply Only.upd ?_ ?h); case h => exact rfl)

theorem execExtestTrain_only {s : State} : ∃ z, execExtestTrain s = .next z ∧ Only 0xD6E0759F0 s z := by
  unfold execExtestTrain
  repeat' first
    | with_reducible refine ⟨_, rfl, ?_⟩
    | split
  repeat' first
    | with_reducible exact Only.refl _ _
    | ((with_reducible apply Only.step State.tapInstr_only ?_ ?k); case k => exact rfl)
    | dsimp only [id]
    | split
    | ((with_reducible apply Only.upd ?_ ?h); case h => exact rfl)

theorem execBypass_only {s : State} : ∃ z, execBypass s = .next z ∧ Only 0xD6E0759F0 s z := by
  unfold execBypass
  repeat' first
    | with_reducible refine ⟨_, rfl, ?_⟩
    | split
  repeat' first
    | with_reducible exact Only.refl _ _
    | ((with_reducible apply Only.step State.tapInstr_only ?_ ?k); case k => exact rfl)
    | dsimp only [id]
    | split
    | ((with_reducible apply Only.upd ?_ ?h); case h => exact rfl)

theorem execTapReset_only {_porLow : Bool} {s : State} : ∃ z, execTapReset _porLow s = .next z ∧ Only 0x400000020 s z := by
  unfold execTapReset
  repeat' first
    | with_reducible refine ⟨_, rfl, ?_⟩
    | split
  repeat' first
    | with_reducible exact Only.refl _ _
    | ((with_reducible apply Only.step State.tapLoad_only ?_ ?k); case k => exact rfl)
    | dsimp only [id]
    | split
    | ((with_reducible apply Only.upd ?_ ?h); case h => exact rfl)

theorem State.mfStatusReg_eff {s : State} : Reg.OnlyEff 0x400 (State.mfStatusReg s) := by
  unfold State.mfStatusReg
  try dsimp only
  repeat' first
    | with_reducible apply OptEff.first
    | with_reducible apply OptEff.lookup
    | with_reducible apply OptEff.getD
    | with_reducible exact List.forall_mem_nil _
    | (with_reducible refine List.forall_mem_cons.2 ⟨?_, ?_⟩)
    | with_reducible exact ro_eff
    | with_reducible exact OptEff.none
    | with_reducible apply OptEff.some
    | (with_reducible apply OptEff.array; intro _)
    | with_reducible apply Reg.ofVp_eff
    | (refine ⟨fun _ _ => ?_, fun _ => ?_, fun _ => ?_⟩)
    | dsimp only [ro, id]
    | with_reducible exact Only.refl _ _
    | split
    | ((with_reducible apply Only.upd ?_ ?h); case h => exact rfl)

theorem execSchMfStatusRead_only {r : RdHalf} {s : State} : ∃ z, execSchMfStatusRead r s = .next z ∧ Only 0x1020011410 s z := by
  unfold execSchMfStatusRead
  repeat' first
    | with_reducible refine ⟨_, rfl, ?_⟩
    | split
  repeat' first
    | with_reducible exact Only.refl _ _
    | ((with_reducible apply Only.trans ?_ (State.readReg_only ?_ ?k)); case k => exact rfl)
    | with_reducible exact Reg.OnlyEff.mono State.mfStatusReg_eff rfl
    | dsimp only [id]
    | split
    | ((with_reducible apply Only.upd ?_ ?h); case h => exact rfl)

theorem State.admitReg_eff {s : State} : Reg.OnlyEff 0x400 (State.admitReg s) := by
  unfold State.admitReg
  try dsimp only
  repeat' first
    | with_reducible apply OptEff.first
    | with_reducible apply OptEff.lookup
    | with_reducible apply OptEff.getD
    | with_reducible exact List.forall_mem_nil _
    | (with_reducible refine List.forall_mem_cons.2 ⟨?_, ?_⟩)
    | with_reducible exact ro_eff
    | with_reducible exact OptEff.none
    | with_reducible apply OptEff.some
    | (with_reducible apply OptEff.array; intro _)
    | with_reducible apply Reg.ofVp_eff
    | (refine ⟨fun _ _ => ?_, fun _ => ?_, fun _ => ?_⟩)
    | dsimp only [ro, id]
    | with_reducible exact Only.refl _ _
    | split
    | ((with_reducible apply Only.upd ?_ ?h); case h => exact rfl)

theorem execSchAdmitFailsRead_only {r : RdHalf} {s : State} : ∃ z, execSchAdmitFailsRead r s = .next z ∧ Only 0x1020011410 s z := by
  unfold execSchAdmitFailsRead
  repeat' first
    | with_reducible refine ⟨_, rfl, ?_⟩
    | split
  repeat' first
    | with_reducible exact Only.refl _ _
    | ((with_reducible apply Only.trans ?_ (State.readReg_only ?_ ?k)); case k => exact rfl)
    | with_reducible exact Reg.OnlyEff.mono State.admitReg_eff rfl
    | dsimp only [id]
    | split
    | ((with_reducible apply Only.upd ?_ ?h); case h => exact rfl)

theorem State.redispatchReg_eff {s : State} : Reg.OnlyEff 0x800 (State.redispatchReg s) := by
  unfold State.redispatchReg
  try dsimp only
  repeat' first
    | with_reducible apply OptEff.first
    | with_reducible apply OptEff.lookup
    | with_reducible apply OptEff.getD
    | with_reducible exact List.forall_mem_nil _
    | (with_reducible refine List.forall_mem_cons.2 ⟨?_, ?_⟩)
    | with_reducible exact ro_eff
    | with_reducible exact OptEff.none
    | with_reducible apply OptEff.some
    | (with_reducible apply OptEff.array; intro _)
    | with_reducible apply Reg.ofVp_eff
    | (refine ⟨fun _ _ => ?_, fun _ => ?_, fun _ => ?_⟩)
    | dsimp only [ro, id]
    | with_reducible exact Only.refl _ _
    | split
    | ((with_reducible apply Only.upd ?_ ?h); case h => exact rfl)

theorem execSchRedispatchRead_only {r : RdHalf} {s : State} : ∃ z, execSchRedispatchRead r s = .next z ∧ Only 0x1020011810 s z := by
  unfold execSchRedispatchRead
  repeat' first
    | with_reducible refine ⟨_, rfl, ?_⟩
    | split
  repeat' first
    | with_reducible exact Only.refl _ _
    | ((with_reducible apply Only.trans ?_ (State.readReg_only ?_ ?k)); case k => exact rfl)
    | with_reducible exact Reg.OnlyEff.mono State.redispatchReg_eff rfl
    | dsimp only [id]
    | split
    | ((with_reducible apply Only.upd ?_ ?h); case h => exact rfl)

theorem State.wheelReg_eff {s : State} : Reg.OnlyEff 0x800 (State.wheelReg s) := by
  unfold State.wheelReg
  try dsimp only
  repeat' first
    | with_reducible apply OptEff.first
    | with_reducible apply OptEff.lookup
    | with_reducible apply OptEff.getD
    | with_reducible exact List.forall_mem_nil _
    | (with_reducible refine List.forall_mem_cons.2 ⟨?_, ?_⟩)
    | with_reducible exact ro_eff
    | with_reducible exact OptEff.none
    | with_reducible apply OptEff.some
    | (with_reducible apply OptEff.array; intro _)
    | with_reducible apply Reg.ofVp_eff
    | (refine ⟨fun _ _ => ?_, fun _ => ?_, fun _ => ?_⟩)
    | dsimp only [ro, id]
    | with_reducible exact Only.refl _ _
    | split
    | ((with_reducible apply Only.upd ?_ ?h); case h => exact rfl)

theorem execSchWheelRead_only {r : RdHalf} {s : State} : ∃ z, execSchWheelRead r s = .next z ∧ Only 0x1020011810 s z := by
  unfold execSchWheelRead
  repeat' first
    | with_reducible refine ⟨_, rfl, ?_⟩
    | split
  repeat' first
    | with_reducible exact Only.refl _ _
    | ((with_reducible apply Only.trans ?_ (State.readReg_only ?_ ?k)); case k => exact rfl)
    | with_reducible exact Reg.OnlyEff.mono State.wheelReg_eff rfl
    | dsimp only [id]
    | split
    | ((with_reducible apply Only.upd ?_ ?h); case h => exact rfl)

theorem State.traceStatusReg_eff {s : State} : Reg.OnlyEff 0x1000 (State.traceStatusReg s) := by
  unfold State.traceStatusReg
  try dsimp only
  repeat' first
    | with_reducible apply OptEff.first
    | with_reducible apply OptEff.lookup
    | with_reducible apply OptEff.getD
    | with_reducible exact List.forall_mem_nil _
    | (with_reducible refine List.forall_mem_cons.2 ⟨?_, ?_⟩)
    | with_reducible exact ro_eff
    | with_reducible exact OptEff.none
    | with_reducible apply OptEff.some
    | (with_reducible apply OptEff.array; intro _)
    | with_reducible apply Reg.ofVp_eff
    | (refine ⟨fun _ _ => ?_, fun _ => ?_, fun _ => ?_⟩)
    | dsimp only [ro, id]
    | with_reducible exact Only.refl _ _
    | split
    | ((with_reducible apply Only.upd ?_ ?h); case h => exact rfl)

theorem execTrcStatusRead_only {r : RdHalf} {s : State} : ∃ z, execTrcStatusRead r s = .next z ∧ Only 0x1020011010 s z := by
  unfold execTrcStatusRead
  repeat' first
    | with_reducible refine ⟨_, rfl, ?_⟩
    | split
  repeat' first
    | with_reducible exact Only.refl _ _
    | ((with_reducible apply Only.trans ?_ (State.readReg_only ?_ ?k)); case k => exact rfl)
    | with_reducible exact Reg.OnlyEff.mono State.traceStatusReg_eff rfl
    | dsimp only [id]
    | split
    | ((with_reducible apply Only.upd ?_ ?h); case h => exact rfl)

theorem State.countReg_eff {s : State} {p : PortId} : Reg.OnlyEff 0x2000 (State.countReg s p) := by
  unfold State.countReg
  try dsimp only
  repeat' first
    | with_reducible apply OptEff.first
    | with_reducible apply OptEff.lookup
    | with_reducible apply OptEff.getD
    | with_reducible exact List.forall_mem_nil _
    | (with_reducible refine List.forall_mem_cons.2 ⟨?_, ?_⟩)
    | with_reducible exact ro_eff
    | with_reducible exact OptEff.none
    | with_reducible apply OptEff.some
    | (with_reducible apply OptEff.array; intro _)
    | with_reducible apply Reg.ofVp_eff
    | (refine ⟨fun _ _ => ?_, fun _ => ?_, fun _ => ?_⟩)
    | dsimp only [ro, id]
    | with_reducible exact Only.refl _ _
    | ((with_reducible apply Only.step State.modSluice_only ?_ ?k); case k => exact rfl)
    | split
    | ((with_reducible apply Only.upd ?_ ?h); case h => exact rfl)

theorem execSlcCountRead_only {p : PortId} {r : RdHalf} {s : State} : ∃ z, execSlcCountRead p r s = .next z ∧ Only 0x1020013010 s z := by
  unfold execSlcCountRead
  repeat' first
    | with_reducible refine ⟨_, rfl, ?_⟩
    | split
  repeat' first
    | with_reducible exact Only.refl _ _
    | ((with_reducible apply Only.trans ?_ (State.readReg_only ?_ ?k)); case k => exact rfl)
    | with_reducible exact Reg.OnlyEff.mono State.countReg_eff rfl
    | dsimp only [id]
    | split
    | ((with_reducible apply Only.upd ?_ ?h); case h => exact rfl)

theorem State.energyStatusReg_eff {s : State} : Reg.OnlyEff 0x4000 (State.energyStatusReg s) := by
  unfold State.energyStatusReg
  try dsimp only
  repeat' first
    | with_reducible apply OptEff.first
    | with_reducible apply OptEff.lookup
    | with_reducible apply OptEff.getD
    | with_reducible exact List.forall_mem_nil _
    | (with_reducible refine List.forall_mem_cons.2 ⟨?_, ?_⟩)
    | with_reducible exact ro_eff
    | with_reducible exact OptEff.none
    | with_reducible apply OptEff.some
    | (with_reducible apply OptEff.array; intro _)
    | with_reducible apply Reg.ofVp_eff
    | (refine ⟨fun _ _ => ?_, fun _ => ?_, fun _ => ?_⟩)
    | dsimp only [ro, id]
    | with_reducible exact Only.refl _ _
    | split
    | ((with_reducible apply Only.upd ?_ ?h); case h => exact rfl)

theorem execNrgStatusRead_only {r : RdHalf} {s : State} : ∃ z, execNrgStatusRead r s = .next z ∧ Only 0x1020015010 s z := by
  unfold execNrgStatusRead
  repeat' first
    | with_reducible refine ⟨_, rfl, ?_⟩
    | split
  repeat' first
    | with_reducible exact Only.refl _ _
    | ((with_reducible apply Only.trans ?_ (State.readReg_only ?_ ?k)); case k => exact rfl)
    | with_reducible exact Reg.OnlyEff.mono State.energyStatusReg_eff rfl
    | dsimp only [id]
    | split
    | ((with_reducible apply Only.upd ?_ ?h); case h => exact rfl)

theorem State.sealFailsReg_eff {s : State} : Reg.OnlyEff 0x2000000 (State.sealFailsReg s) := by
  unfold State.sealFailsReg
  try dsimp only
  repeat' first
    | with_reducible apply OptEff.first
    | with_reducible apply OptEff.lookup
    | with_reducible apply OptEff.getD
    | with_reducible exact List.forall_mem_nil _
    | (with_reducible refine List.forall_mem_cons.2 ⟨?_, ?_⟩)
    | with_reducible exact ro_eff
    | with_reducible exact OptEff.none
    | with_reducible apply OptEff.some
    | (with_reducible apply OptEff.array; intro _)
    | with_reducible apply Reg.ofVp_eff
    | (refine ⟨fun _ _ => ?_, fun _ => ?_, fun _ => ?_⟩)
    | dsimp only [ro, id]
    | with_reducible exact Only.refl _ _
    | split
    | ((with_reducible apply Only.upd ?_ ?h); case h => exact rfl)

theorem execSealFailsRead_only {r : RdHalf} {s : State} : ∃ z, execSealFailsRead r s = .next z ∧ Only 0x1022011010 s z := by
  unfold execSealFailsRead
  repeat' first
    | with_reducible refine ⟨_, rfl, ?_⟩
    | split
  repeat' first
    | with_reducible exact Only.refl _ _
    | ((with_reducible apply Only.trans ?_ (State.readReg_only ?_ ?k)); case k => exact rfl)
    | with_reducible exact Reg.OnlyEff.mono State.sealFailsReg_eff rfl
    | dsimp only [id]
    | split
    | ((with_reducible apply Only.upd ?_ ?h); case h => exact rfl)

theorem State.tenStateReg_eff {s : State} {t : TenantId} : Reg.OnlyEff 0x10000 (State.tenStateReg s t) := by
  unfold State.tenStateReg
  try dsimp only
  repeat' first
    | with_reducible apply OptEff.first
    | with_reducible apply OptEff.lookup
    | with_reducible apply OptEff.getD
    | with_reducible exact List.forall_mem_nil _
    | (with_reducible refine List.forall_mem_cons.2 ⟨?_, ?_⟩)
    | with_reducible exact ro_eff
    | with_reducible exact OptEff.none
    | with_reducible apply OptEff.some
    | (with_reducible apply OptEff.array; intro _)
    | with_reducible apply Reg.ofVp_eff
    | (refine ⟨fun _ _ => ?_, fun _ => ?_, fun _ => ?_⟩)
    | dsimp only [ro, id]
    | with_reducible exact Only.refl _ _
    | ((with_reducible apply Only.step State.modTenant_only ?_ ?k); case k => exact rfl)
    | split
    | ((with_reducible apply Only.upd ?_ ?h); case h => exact rfl)

theorem execTenStateRead_only {t : TenantId} {r : RdHalf} {s : State} : ∃ z, execTenStateRead t r s = .next z ∧ Only 0x1020011010 s z := by
  unfold execTenStateRead
  repeat' first
    | with_reducible refine ⟨_, rfl, ?_⟩
    | split
  repeat' first
    | with_reducible exact Only.refl _ _
    | ((with_reducible apply Only.trans ?_ (State.readReg_only ?_ ?k)); case k => exact rfl)
    | with_reducible exact Reg.OnlyEff.mono State.tenStateReg_eff rfl
    | dsimp only [id]
    | split
    | ((with_reducible apply Only.upd ?_ ?h); case h => exact rfl)

theorem State.writeOppStatus_only {v : Word} {s : State} : Only 0x20000000 s (State.writeOppStatus v s) := by
  unfold State.writeOppStatus
  repeat' first
    | with_reducible exact Only.refl _ _
    | dsimp only [id]
    | split
    | ((with_reducible apply Only.upd ?_ ?h); case h => exact rfl)

theorem State.oppStatusReg_eff {s : State} : Reg.OnlyEff 0x20000000 (State.oppStatusReg s) := by
  unfold State.oppStatusReg
  try dsimp only
  repeat' first
    | with_reducible apply OptEff.first
    | with_reducible apply OptEff.lookup
    | with_reducible apply OptEff.getD
    | with_reducible exact List.forall_mem_nil _
    | (with_reducible refine List.forall_mem_cons.2 ⟨?_, ?_⟩)
    | with_reducible exact ro_eff
    | with_reducible exact OptEff.none
    | with_reducible apply OptEff.some
    | (with_reducible apply OptEff.array; intro _)
    | with_reducible apply Reg.ofVp_eff
    | (refine ⟨fun _ _ => ?_, fun _ => ?_, fun _ => ?_⟩)
    | dsimp only [ro, id]
    | with_reducible exact Only.refl _ _
    | ((with_reducible apply Only.step State.writeOppStatus_only ?_ ?k); case k => exact rfl)
    | split
    | ((with_reducible apply Only.upd ?_ ?h); case h => exact rfl)

theorem execPwrOppStatusRead_only {r : RdHalf} {s : State} : ∃ z, execPwrOppStatusRead r s = .next z ∧ Only 0x1020011010 s z := by
  unfold execPwrOppStatusRead
  repeat' first
    | with_reducible refine ⟨_, rfl, ?_⟩
    | split
  repeat' first
    | with_reducible exact Only.refl _ _
    | ((with_reducible apply Only.trans ?_ (State.readReg_only ?_ ?k)); case k => exact rfl)
    | with_reducible exact Reg.OnlyEff.mono State.oppStatusReg_eff rfl
    | dsimp only [id]
    | split
    | ((with_reducible apply Only.upd ?_ ?h); case h => exact rfl)

theorem State.writeRetStatus_only {v : Word} {s : State} : Only 0x20000000 s (State.writeRetStatus v s) := by
  unfold State.writeRetStatus
  repeat' first
    | with_reducible exact Only.refl _ _
    | dsimp only [id]
    | split
    | ((with_reducible apply Only.upd ?_ ?h); case h => exact rfl)

theorem State.retStatusReg_eff {s : State} : Reg.OnlyEff 0x20000000 (State.retStatusReg s) := by
  unfold State.retStatusReg
  try dsimp only
  repeat' first
    | with_reducible apply OptEff.first
    | with_reducible apply OptEff.lookup
    | with_reducible apply OptEff.getD
    | with_reducible exact List.forall_mem_nil _
    | (with_reducible refine List.forall_mem_cons.2 ⟨?_, ?_⟩)
    | with_reducible exact ro_eff
    | with_reducible exact OptEff.none
    | with_reducible apply OptEff.some
    | (with_reducible apply OptEff.array; intro _)
    | with_reducible apply Reg.ofVp_eff
    | (refine ⟨fun _ _ => ?_, fun _ => ?_, fun _ => ?_⟩)
    | dsimp only [ro, id]
    | with_reducible exact Only.refl _ _
    | ((with_reducible apply Only.step State.writeRetStatus_only ?_ ?k); case k => exact rfl)
    | split
    | ((with_reducible apply Only.upd ?_ ?h); case h => exact rfl)

theorem execPwrRetStatusRead_only {r : RdHalf} {s : State} : ∃ z, execPwrRetStatusRead r s = .next z ∧ Only 0x1020011010 s z := by
  unfold execPwrRetStatusRead
  repeat' first
    | with_reducible refine ⟨_, rfl, ?_⟩
    | split
  repeat' first
    | with_reducible exact Only.refl _ _
    | ((with_reducible apply Only.trans ?_ (State.readReg_only ?_ ?k)); case k => exact rfl)
    | with_reducible exact Reg.OnlyEff.mono State.retStatusReg_eff rfl
    | dsimp only [id]
    | split
    | ((with_reducible apply Only.upd ?_ ?h); case h => exact rfl)

theorem State.peatStatsReg_eff {s : State} : Reg.OnlyEff 0x40000000 (State.peatStatsReg s) := by
  unfold State.peatStatsReg
  try dsimp only
  repeat' first
    | with_reducible apply OptEff.first
    | with_reducible apply OptEff.lookup
    | with_reducible apply OptEff.getD
    | with_reducible exact List.forall_mem_nil _
    | (with_reducible refine List.forall_mem_cons.2 ⟨?_, ?_⟩)
    | with_reducible exact ro_eff
    | with_reducible exact OptEff.none
    | with_reducible apply OptEff.some
    | (with_reducible apply OptEff.array; intro _)
    | with_reducible apply Reg.ofVp_eff
    | (refine ⟨fun _ _ => ?_, fun _ => ?_, fun _ => ?_⟩)
    | dsimp only [ro, id]
    | with_reducible exact Only.refl _ _
    | split
    | ((with_reducible apply Only.upd ?_ ?h); case h => exact rfl)

theorem execPeatStatsRead_only {r : RdHalf} {s : State} : ∃ z, execPeatStatsRead r s = .next z ∧ Only 0x1060011010 s z := by
  unfold execPeatStatsRead
  repeat' first
    | with_reducible refine ⟨_, rfl, ?_⟩
    | split
  repeat' first
    | with_reducible exact Only.refl _ _
    | ((with_reducible apply Only.trans ?_ (State.readReg_only ?_ ?k)); case k => exact rfl)
    | with_reducible exact Reg.OnlyEff.mono State.peatStatsReg_eff rfl
    | dsimp only [id]
    | split
    | ((with_reducible apply Only.upd ?_ ?h); case h => exact rfl)

theorem State.fltStatusReg_eff {s : State} : Reg.OnlyEff 0x80000000 (State.fltStatusReg s) := by
  unfold State.fltStatusReg
  try dsimp only
  repeat' first
    | with_reducible apply OptEff.first
    | with_reducible apply OptEff.lookup
    | with_reducible apply OptEff.getD
    | with_reducible exact List.forall_mem_nil _
    | (with_reducible refine List.forall_mem_cons.2 ⟨?_, ?_⟩)
    | with_reducible exact ro_eff
    | with_reducible exact OptEff.none
    | with_reducible apply OptEff.some
    | (with_reducible apply OptEff.array; intro _)
    | with_reducible apply Reg.ofVp_eff
    | (refine ⟨fun _ _ => ?_, fun _ => ?_, fun _ => ?_⟩)
    | dsimp only [ro, id]
    | with_reducible exact Only.refl _ _
    | split
    | ((with_reducible apply Only.upd ?_ ?h); case h => exact rfl)

theorem execFltStatusRead_only {r : RdHalf} {s : State} : ∃ z, execFltStatusRead r s = .next z ∧ Only 0x10A0011010 s z := by
  unfold execFltStatusRead
  repeat' first
    | with_reducible refine ⟨_, rfl, ?_⟩
    | split
  repeat' first
    | with_reducible exact Only.refl _ _
    | ((with_reducible apply Only.trans ?_ (State.readReg_only ?_ ?k)); case k => exact rfl)
    | with_reducible exact Reg.OnlyEff.mono State.fltStatusReg_eff rfl
    | dsimp only [id]
    | split
    | ((with_reducible apply Only.upd ?_ ?h); case h => exact rfl)

theorem State.classCountReg_eff {s : State} {n : Fin 9} : Reg.OnlyEff 0x80000000 (State.classCountReg s n) := by
  unfold State.classCountReg
  try dsimp only
  repeat' first
    | with_reducible apply OptEff.first
    | with_reducible apply OptEff.lookup
    | with_reducible apply OptEff.getD
    | with_reducible exact List.forall_mem_nil _
    | (with_reducible refine List.forall_mem_cons.2 ⟨?_, ?_⟩)
    | with_reducible exact ro_eff
    | with_reducible exact OptEff.none
    | with_reducible apply OptEff.some
    | (with_reducible apply OptEff.array; intro _)
    | with_reducible apply Reg.ofVp_eff
    | (refine ⟨fun _ _ => ?_, fun _ => ?_, fun _ => ?_⟩)
    | dsimp only [ro, id]
    | with_reducible exact Only.refl _ _
    | split
    | ((with_reducible apply Only.upd ?_ ?h); case h => exact rfl)

theorem execFltClassCountRead_only {n : Fin 9} {r : RdHalf} {s : State} :
    ∃ z, execFltClassCountRead n r s = .next z ∧ Only 0x10A0011010 s z := by
  unfold execFltClassCountRead
  repeat' first
    | with_reducible refine ⟨_, rfl, ?_⟩
    | split
  repeat' first
    | with_reducible exact Only.refl _ _
    | ((with_reducible apply Only.trans ?_ (State.readReg_only ?_ ?k)); case k => exact rfl)
    | with_reducible exact Reg.OnlyEff.mono State.classCountReg_eff rfl
    | dsimp only [id]
    | split
    | ((with_reducible apply Only.upd ?_ ?h); case h => exact rfl)

theorem State.eccReg_eff {s : State} {n : Fin 21} : Reg.OnlyEff 0x80000000 (State.eccReg s n) := by
  unfold State.eccReg
  try dsimp only
  repeat' first
    | with_reducible apply OptEff.first
    | with_reducible apply OptEff.lookup
    | with_reducible apply OptEff.getD
    | with_reducible exact List.forall_mem_nil _
    | (with_reducible refine List.forall_mem_cons.2 ⟨?_, ?_⟩)
    | with_reducible exact ro_eff
    | with_reducible exact OptEff.none
    | with_reducible apply OptEff.some
    | (with_reducible apply OptEff.array; intro _)
    | with_reducible apply Reg.ofVp_eff
    | (refine ⟨fun _ _ => ?_, fun _ => ?_, fun _ => ?_⟩)
    | dsimp only [ro, id]
    | with_reducible exact Only.refl _ _
    | split
    | ((with_reducible apply Only.upd ?_ ?h); case h => exact rfl)

theorem execFltEccRead_only {n : Fin 21} {r : RdHalf} {s : State} : ∃ z, execFltEccRead n r s = .next z ∧ Only 0x10A0011010 s z := by
  unfold execFltEccRead
  repeat' first
    | with_reducible refine ⟨_, rfl, ?_⟩
    | split
  repeat' first
    | with_reducible exact Only.refl _ _
    | ((with_reducible apply Only.trans ?_ (State.readReg_only ?_ ?k)); case k => exact rfl)
    | with_reducible exact Reg.OnlyEff.mono State.eccReg_eff rfl
    | dsimp only [id]
    | split
    | ((with_reducible apply Only.upd ?_ ?h); case h => exact rfl)

theorem State.svcCountReg_eff {s : State} : Reg.OnlyEff 0x100000000 (State.svcCountReg s) := by
  unfold State.svcCountReg
  try dsimp only
  repeat' first
    | with_reducible apply OptEff.first
    | with_reducible apply OptEff.lookup
    | with_reducible apply OptEff.getD
    | with_reducible exact List.forall_mem_nil _
    | (with_reducible refine List.forall_mem_cons.2 ⟨?_, ?_⟩)
    | with_reducible exact ro_eff
    | with_reducible exact OptEff.none
    | with_reducible apply OptEff.some
    | (with_reducible apply OptEff.array; intro _)
    | with_reducible apply Reg.ofVp_eff
    | (refine ⟨fun _ _ => ?_, fun _ => ?_, fun _ => ?_⟩)
    | dsimp only [ro, id]
    | with_reducible exact Only.refl _ _
    | split
    | ((with_reducible apply Only.upd ?_ ?h); case h => exact rfl)

theorem execSvcCountRead_only {r : RdHalf} {s : State} : ∃ z, execSvcCountRead r s = .next z ∧ Only 0x1120011010 s z := by
  unfold execSvcCountRead
  repeat' first
    | with_reducible refine ⟨_, rfl, ?_⟩
    | split
  repeat' first
    | with_reducible exact Only.refl _ _
    | ((with_reducible apply Only.trans ?_ (State.readReg_only ?_ ?k)); case k => exact rfl)
    | with_reducible exact Reg.OnlyEff.mono State.svcCountReg_eff rfl
    | dsimp only [id]
    | split
    | ((with_reducible apply Only.upd ?_ ?h); case h => exact rfl)

theorem State.timeStatusReg_eff {s : State} : Reg.OnlyEff 0x200 (State.timeStatusReg s) := by
  unfold State.timeStatusReg
  try dsimp only
  repeat' first
    | with_reducible apply OptEff.first
    | with_reducible apply OptEff.lookup
    | with_reducible apply OptEff.getD
    | with_reducible exact List.forall_mem_nil _
    | (with_reducible refine List.forall_mem_cons.2 ⟨?_, ?_⟩)
    | with_reducible exact ro_eff
    | with_reducible exact OptEff.none
    | with_reducible apply OptEff.some
    | (with_reducible apply OptEff.array; intro _)
    | with_reducible apply Reg.ofVp_eff
    | (refine ⟨fun _ _ => ?_, fun _ => ?_, fun _ => ?_⟩)
    | dsimp only [ro, id]
    | with_reducible exact Only.refl _ _
    | split
    | ((with_reducible apply Only.upd ?_ ?h); case h => exact rfl)

theorem execGblTimeStatusRead_only {r : RdHalf} {s : State} : ∃ z, execGblTimeStatusRead r s = .next z ∧ Only 0x1020011210 s z := by
  unfold execGblTimeStatusRead
  repeat' first
    | with_reducible refine ⟨_, rfl, ?_⟩
    | split
  repeat' first
    | with_reducible exact Only.refl _ _
    | ((with_reducible apply Only.trans ?_ (State.readReg_only ?_ ?k)); case k => exact rfl)
    | with_reducible exact Reg.OnlyEff.mono State.timeStatusReg_eff rfl
    | dsimp only [id]
    | split
    | ((with_reducible apply Only.upd ?_ ?h); case h => exact rfl)

def OptEff (m : Nat) (o : Option Reg) : Prop := ∀ r, o = some r → r.OnlyEff m

theorem ro_eff {m : Nat} {l : List (Nat × Nat)} {v : Word} : (ro l v).OnlyEff m :=
  ⟨fun _ _ => Only.refl _ _, fun _ => Only.refl _ _, fun _ => Only.refl _ _⟩

theorem OptEff.none {m : Nat} : OptEff m none := fun _ h => nomatch h

theorem OptEff.some {m : Nat} {r : Reg} (h : r.OnlyEff m) : OptEff m (some r) := by
  intro _ e
  cases e
  exact h

theorem OptEff.getD {m : Nat} {o : Option Reg} {l : List (Nat × Nat)} {v : Word} (h : OptEff m o) : (o.getD (ro l v)).OnlyEff m := by
  cases o with
  | none => exact ro_eff
  | some r => exact h r rfl

theorem OptEff.array {m off base stride n : Nat} {g : Fin n → Reg} (h : ∀ k, (g k).OnlyEff m) :
    OptEff m (regArray off base stride n g) := by
  unfold regArray
  split
  · exact OptEff.some (h _)
  · exact OptEff.none

theorem OptEff.lookup {m off : Nat} {l : List (Nat × Reg)} (h : ∀ p ∈ l, p.2.OnlyEff m) : OptEff m (l.lookup off) := by
  intro r e
  induction l with
  | nil => cases e
  | cons p l ih =>
    obtain ⟨a, q⟩ := p
    rw [List.forall_mem_cons] at h
    simp only [List.lookup_cons] at e
    split at e
    · cases e
      exact h.1
    · exact ih h.2 e

theorem OptEff.first {m : Nat} {l : List (Option Reg)} (h : ∀ o ∈ l, OptEff m o) : OptEff m (firstReg l) := by
  intro r e
  obtain ⟨o, k, e⟩ := List.exists_of_findSome?_eq_some e
  exact h o k r e

theorem Reg.ofVp_eff {s : State} {t : TenantId} {i : Fin 64} {r : Reg} {m : Nat} (h : r.OnlyEff m) : (Reg.ofVp s t i r).OnlyEff m := by
  unfold Reg.ofVp
  split
  · exact h
  · exact h

theorem State.writeIf_only {s : State} {ok : Bool} {t : State} {z : State} {m : Nat} (a :
    Only m z s) (bt :
    Only m z t) (hk : 0x10040 ||| m = m) :
    Only m z (State.writeIf s ok t) := by
  unfold State.writeIf
  try dsimp only
  repeat' first
    | with_reducible exact Only.refl _ _
    | with_reducible assumption
    | ((with_reducible apply Only.step State.refuseWrite_only ?_ ?k); case k => exact mask_sub rfl hk)
    | dsimp only [id]
    | split
    | ((with_reducible apply Only.updMono (m := 0x10040) ?_ ?h ?k); (case h => exact rfl); case k => exact mask_sub rfl hk)

theorem State.writeGblStatus_only {v : Word} {s : State} : Only 0xC0 s (State.writeGblStatus v s) := by
  unfold State.writeGblStatus
  repeat' first
    | with_reducible exact Only.refl _ _
    | dsimp only [id]
    | split
    | ((with_reducible apply Only.upd ?_ ?h); case h => exact rfl)

theorem State.gblReg_eff {s : State} {off : Nat} : OptEff 0x2BFFEF7FFA (State.gblReg s off) := by
  unfold State.gblReg
  try dsimp only
  repeat' first
    | with_reducible apply OptEff.first
    | with_reducible apply OptEff.lookup
    | with_reducible apply OptEff.getD
    | with_reducible exact List.forall_mem_nil _
    | (with_reducible refine List.forall_mem_cons.2 ⟨?_, ?_⟩)
    | with_reducible exact ro_eff
    | with_reducible exact OptEff.none
    | with_reducible apply OptEff.some
    | (with_reducible apply OptEff.array; intro _)
    | with_reducible apply Reg.ofVp_eff
    | with_reducible exact Reg.OnlyEff.mono State.timeStatusReg_eff rfl
    | (refine ⟨fun _ _ => ?_, fun _ => ?_, fun _ => ?_⟩)
    | dsimp only [ro, id]
    | with_reducible exact Only.refl _ _
    | ((with_reducible apply Only.step State.writeEventSize_only ?_ ?k); case k => exact rfl)
    | ((with_reducible apply Only.step State.writeCtl_only ?_ ?k); case k => exact rfl)
    | ((with_reducible apply Only.step State.writeTimeCtl_only ?_ ?k); case k => exact rfl)
    | ((with_reducible apply Only.step State.writeOrderDb_only ?_ ?k); case k => exact rfl)
    | ((with_reducible apply Only.step State.writeOrderSize_only ?_ ?k); case k => exact rfl)
    | ((with_reducible apply Only.step State.writeGblStatus_only ?_ ?k); case k => exact rfl)
    | ((with_reducible apply Only.step State.writeEventCi_only ?_ ?k); case k => exact rfl)
    | ((with_reducible apply Only.step State.writeTimeStep_only ?_ ?k); case k => exact rfl)
    | ((with_reducible apply Only.step State.writeOrderBase_only ?_ ?k); case k => exact rfl)
    | ((with_reducible apply Only.step State.writeEventBase_only ?_ ?k); case k => exact rfl)
    | split
    | ((with_reducible apply Only.upd ?_ ?h); case h => exact rfl)

theorem State.tenReg_eff {s : State} {t : TenantId} {off : Nat} : OptEff 0x2BFFEF7FFA (State.tenReg s t off) := by
  unfold State.tenReg
  try dsimp only
  repeat' first
    | with_reducible apply OptEff.first
    | with_reducible apply OptEff.lookup
    | with_reducible apply OptEff.getD
    | with_reducible exact List.forall_mem_nil _
    | (with_reducible refine List.forall_mem_cons.2 ⟨?_, ?_⟩)
    | with_reducible exact ro_eff
    | with_reducible exact OptEff.none
    | with_reducible apply OptEff.some
    | (with_reducible apply OptEff.array; intro _)
    | with_reducible apply Reg.ofVp_eff
    | with_reducible exact Reg.OnlyEff.mono State.tenStateReg_eff rfl
    | (refine ⟨fun _ _ => ?_, fun _ => ?_, fun _ => ?_⟩)
    | dsimp only [ro, id]
    | with_reducible exact Only.refl _ _
    | split
    | ((with_reducible apply Only.upd ?_ ?h); case h => exact rfl)

theorem State.writeTaskSel_only {v : Word} {s : State} : Only 0x10840 s (State.writeTaskSel v s) := by
  unfold State.writeTaskSel
  repeat' first
    | with_reducible exact Only.refl _ _
    | ((with_reducible apply State.writeIf_only ?_ ?_ ?k); case k => exact rfl)
    | dsimp only [id]
    | split
    | ((with_reducible apply Only.upd ?_ ?h); case h => exact rfl)

theorem State.writeTrcCtl_only {v : Word} {s : State} : Only 0x1000 s (State.writeTrcCtl v s) := by
  unfold State.writeTrcCtl
  repeat' first
    | with_reducible exact Only.refl _ _
    | dsimp only [id]
    | split
    | ((with_reducible apply Only.upd ?_ ?h); case h => exact rfl)

theorem State.writeTrcTenant_only {k : Fin 4} {v : Word} {s : State} : Only 0x1000 s (State.writeTrcTenant k v s) := by
  unfold State.writeTrcTenant
  try dsimp only
  repeat' first
    | with_reducible exact Only.refl _ _
    | dsimp only [id]
    | split
    | ((with_reducible apply Only.upd ?_ ?h); case h => exact rfl)

theorem State.writeTrcRdIdx_only {v : Word} {s : State} : Only 0x1000 s (State.writeTrcRdIdx v s) := by
  unfold State.writeTrcRdIdx
  repeat' first
    | with_reducible exact Only.refl _ _
    | dsimp only [id]
    | split
    | ((with_reducible apply Only.upd ?_ ?h); case h => exact rfl)

theorem State.writeSpillCi_only {v : Word} {s : State} : Only 0x11040 s (State.writeSpillCi v s) := by
  unfold State.writeSpillCi
  try dsimp only
  repeat' first
    | with_reducible exact Only.refl _ _
    | ((with_reducible apply State.writeIf_only ?_ ?_ ?k); case k => exact rfl)
    | dsimp only [id]
    | split
    | ((with_reducible apply Only.upd ?_ ?h); case h => exact rfl)

theorem State.schReg_eff {s : State} {off : Nat} : OptEff 0x2BFFEF7FFA (State.schReg s off) := by
  unfold State.schReg
  try dsimp only
  repeat' first
    | with_reducible apply OptEff.first
    | with_reducible apply OptEff.lookup
    | with_reducible apply OptEff.getD
    | with_reducible exact List.forall_mem_nil _
    | (with_reducible refine List.forall_mem_cons.2 ⟨?_, ?_⟩)
    | with_reducible exact ro_eff
    | with_reducible exact OptEff.none
    | with_reducible apply OptEff.some
    | (with_reducible apply OptEff.array; intro _)
    | with_reducible apply Reg.ofVp_eff
    | with_reducible exact Reg.OnlyEff.mono State.traceStatusReg_eff rfl
    | with_reducible exact Reg.OnlyEff.mono State.mfStatusReg_eff rfl
    | with_reducible exact Reg.OnlyEff.mono State.admitReg_eff rfl
    | with_reducible exact Reg.OnlyEff.mono State.redispatchReg_eff rfl
    | with_reducible exact Reg.OnlyEff.mono State.wheelReg_eff rfl
    | (refine ⟨fun _ _ => ?_, fun _ => ?_, fun _ => ?_⟩)
    | dsimp only [ro, id]
    | with_reducible exact Only.refl _ _
    | ((with_reducible apply Only.step State.writeTrcTenant_only ?_ ?k); case k => exact rfl)
    | ((with_reducible apply Only.step State.writeTrcRdIdx_only ?_ ?k); case k => exact rfl)
    | ((with_reducible apply Only.step State.writeTrcCtl_only ?_ ?k); case k => exact rfl)
    | ((with_reducible apply Only.step State.writeTaskSel_only ?_ ?k); case k => exact rfl)
    | ((with_reducible apply Only.step State.writeSpillCi_only ?_ ?k); case k => exact rfl)
    | split
    | ((with_reducible apply Only.upd ?_ ?h); case h => exact rfl)

theorem State.writeSlcLead_only {v : Word} {s : State} : Only 0x12040 s (State.writeSlcLead v s) := by
  unfold State.writeSlcLead
  try dsimp only
  repeat' first
    | with_reducible exact Only.refl _ _
    | ((with_reducible apply State.writeIf_only ?_ ?_ ?k); case k => exact rfl)
    | dsimp only [id]
    | split
    | ((with_reducible apply Only.upd ?_ ?h); case h => exact rfl)

theorem State.writeListSel_only {v : Word} {s : State} : Only 0x2000 s (State.writeListSel v s) := by
  unfold State.writeListSel
  repeat' first
    | with_reducible exact Only.refl _ _
    | dsimp only [id]
    | split
    | ((with_reducible apply Only.upd ?_ ?h); case h => exact rfl)

theorem State.writePolSel_only {v : Word} {s : State} : Only 0x2000 s (State.writePolSel v s) := by
  unfold State.writePolSel
  repeat' first
    | with_reducible exact Only.refl _ _
    | dsimp only [id]
    | split
    | ((with_reducible apply Only.upd ?_ ?h); case h => exact rfl)

theorem State.writeEnergy_only {s : State} {ok : Bool} {e : EnergySet} : Only 0x14040 s (State.writeEnergy s ok e) := by
  unfold State.writeEnergy
  repeat' first
    | with_reducible exact Only.refl _ _
    | ((with_reducible apply State.writeIf_only ?_ ?_ ?k); case k => exact rfl)
    | dsimp only [id]
    | split
    | ((with_reducible apply Only.upd ?_ ?h); case h => exact rfl)

theorem State.writeSustained_only {v : Word} {s : State} : Only 0x14040 s (State.writeSustained v s) := by
  unfold State.writeSustained
  try dsimp only
  repeat' first
    | with_reducible exact Only.refl _ _
    | ((with_reducible apply Only.step State.writeEnergy_only ?_ ?k); case k => exact rfl)
    | dsimp only [id]
    | split
    | ((with_reducible apply Only.upd ?_ ?h); case h => exact rfl)

theorem State.writeBurst_only {v : Word} {s : State} : Only 0x14040 s (State.writeBurst v s) := by
  unfold State.writeBurst
  try dsimp only
  repeat' first
    | with_reducible exact Only.refl _ _
    | ((with_reducible apply Only.step State.writeEnergy_only ?_ ?k); case k => exact rfl)
    | dsimp only [id]
    | split
    | ((with_reducible apply Only.upd ?_ ?h); case h => exact rfl)

theorem State.writeWater_only {v : Word} {s : State} : Only 0x14040 s (State.writeWater v s) := by
  unfold State.writeWater
  try dsimp only
  repeat' first
    | with_reducible exact Only.refl _ _
    | ((with_reducible apply Only.step State.writeEnergy_only ?_ ?k); case k => exact rfl)
    | dsimp only [id]
    | split
    | ((with_reducible apply Only.upd ?_ ?h); case h => exact rfl)

theorem State.writeCost_only {k : Fin 5} {v : Word} {s : State} : Only 0x14040 s (State.writeCost k v s) := by
  unfold State.writeCost
  repeat' first
    | with_reducible exact Only.refl _ _
    | ((with_reducible apply Only.step State.writeEnergy_only ?_ ?k); case k => exact rfl)
    | dsimp only [id]
    | split
    | ((with_reducible apply Only.upd ?_ ?h); case h => exact rfl)

theorem State.writeSealCost_only {v : Word} {s : State} : Only 0x14040 s (State.writeSealCost v s) := by
  unfold State.writeSealCost
  repeat' first
    | with_reducible exact Only.refl _ _
    | ((with_reducible apply Only.step State.writeEnergy_only ?_ ?k); case k => exact rfl)
    | dsimp only [id]
    | split
    | ((with_reducible apply Only.upd ?_ ?h); case h => exact rfl)

theorem State.writeIsland_only {i : Fin 14} {v : Word} {s : State} : Only 0x14040 s (State.writeIsland i v s) := by
  unfold State.writeIsland
  repeat' first
    | with_reducible exact Only.refl _ _
    | ((with_reducible apply Only.step State.writeEnergy_only ?_ ?k); case k => exact rfl)
    | dsimp only [id]
    | split
    | ((with_reducible apply Only.upd ?_ ?h); case h => exact rfl)

theorem countRegs_eff {s : State} {off : Nat} : OptEff 0x2BFFEF7FFA (regArray off 0x0300 8 16 (fun p => s.countReg p)) :=
  OptEff.array fun _ => Reg.OnlyEff.mono State.countReg_eff rfl

theorem State.slcReg_eff {s : State} {off : Nat} : OptEff 0x2BFFEF7FFA (State.slcReg s off) := by
  unfold State.slcReg
  try dsimp only
  repeat' first
    | with_reducible exact countRegs_eff
    | with_reducible apply OptEff.first
    | with_reducible apply OptEff.lookup
    | with_reducible apply OptEff.getD
    | with_reducible exact List.forall_mem_nil _
    | (with_reducible refine List.forall_mem_cons.2 ⟨?_, ?_⟩)
    | with_reducible exact ro_eff
    | with_reducible exact OptEff.none
    | with_reducible apply OptEff.some
    | (with_reducible apply OptEff.array; intro _)
    | with_reducible apply Reg.ofVp_eff
    | with_reducible exact Reg.OnlyEff.mono State.energyStatusReg_eff rfl
    | (refine ⟨fun _ _ => ?_, fun _ => ?_, fun _ => ?_⟩)
    | dsimp only [ro, id]
    | with_reducible exact Only.refl _ _
    | ((with_reducible apply Only.step State.writeIsland_only ?_ ?k); case k => exact rfl)
    | ((with_reducible apply Only.step State.writeListSel_only ?_ ?k); case k => exact rfl)
    | ((with_reducible apply Only.step State.writeCost_only ?_ ?k); case k => exact rfl)
    | ((with_reducible apply Only.step State.writeSlcLead_only ?_ ?k); case k => exact rfl)
    | ((with_reducible apply Only.step State.writeBurst_only ?_ ?k); case k => exact rfl)
    | ((with_reducible apply Only.step State.writeSustained_only ?_ ?k); case k => exact rfl)
    | ((with_reducible apply Only.step State.writePolSel_only ?_ ?k); case k => exact rfl)
    | ((with_reducible apply Only.step State.writeSealCost_only ?_ ?k); case k => exact rfl)
    | ((with_reducible apply Only.step State.writeWater_only ?_ ?k); case k => exact rfl)
    | split
    | ((with_reducible apply Only.upd ?_ ?h); case h => exact rfl)

theorem State.writeDeglitch_only {v : Word} {s : State} : Only 0x410040 s (State.writeDeglitch v s) := by
  unfold State.writeDeglitch
  try dsimp only
  repeat' first
    | with_reducible exact Only.refl _ _
    | ((with_reducible apply State.writeIf_only ?_ ?_ ?k); case k => exact rfl)
    | dsimp only [id]
    | split
    | ((with_reducible apply Only.upd ?_ ?h); case h => exact rfl)

theorem State.writeUrgent_only {p : PortId} {v : Word} {s : State} : Only 0x90040 s (State.writeUrgent p v s) := by
  unfold State.writeUrgent
  try dsimp only
  repeat' first
    | with_reducible exact Only.refl _ _
    | ((with_reducible apply Only.step State.modPort_only ?_ ?k); case k => exact rfl)
    | ((with_reducible apply State.writeIf_only ?_ ?_ ?k); case k => exact rfl)
    | dsimp only [id]
    | split
    | ((with_reducible apply Only.upd ?_ ?h); case h => exact rfl)

theorem State.writeDevSel_only {v : Word} {s : State} : Only 0x800000 s (State.writeDevSel v s) := by
  unfold State.writeDevSel
  repeat' first
    | with_reducible exact Only.refl _ _
    | dsimp only [id]
    | split
    | ((with_reducible apply Only.upd ?_ ?h); case h => exact rfl)

theorem State.prtReg_eff {s : State} {off : Nat} : OptEff 0x2BFFEF7FFA (State.prtReg s off) := by
  unfold State.prtReg
  try dsimp only
  repeat' first
    | with_reducible apply OptEff.first
    | with_reducible apply OptEff.lookup
    | with_reducible apply OptEff.getD
    | with_reducible exact List.forall_mem_nil _
    | (with_reducible refine List.forall_mem_cons.2 ⟨?_, ?_⟩)
    | with_reducible exact ro_eff
    | with_reducible exact OptEff.none
    | with_reducible apply OptEff.some
    | (with_reducible apply OptEff.array; intro _)
    | with_reducible apply Reg.ofVp_eff
    | (refine ⟨fun _ _ => ?_, fun _ => ?_, fun _ => ?_⟩)
    | dsimp only [ro, id]
    | with_reducible exact Only.refl _ _
    | ((with_reducible apply Only.step State.writeDeglitch_only ?_ ?k); case k => exact rfl)
    | ((with_reducible apply Only.step State.writeUrgent_only ?_ ?k); case k => exact rfl)
    | ((with_reducible apply Only.step State.writeDevSel_only ?_ ?k); case k => exact rfl)
    | ((with_reducible apply Only.step State.writePortCtl_only ?_ ?k); case k => exact rfl)
    | split
    | ((with_reducible apply Only.upd ?_ ?h); case h => exact rfl)

theorem State.writeWakeCause_only {v : Word} {s : State} : Only 0x20000000 s (State.writeWakeCause v s) := by
  unfold State.writeWakeCause
  repeat' first
    | with_reducible exact Only.refl _ _
    | dsimp only [id]
    | split
    | ((with_reducible apply Only.upd ?_ ?h); case h => exact rfl)

theorem State.pwrReg_eff {s : State} {off : Nat} : OptEff 0x2BFFEF7FFA (State.pwrReg s off) := by
  unfold State.pwrReg
  try dsimp only
  repeat' first
    | with_reducible apply OptEff.first
    | with_reducible apply OptEff.lookup
    | with_reducible apply OptEff.getD
    | with_reducible exact List.forall_mem_nil _
    | (with_reducible refine List.forall_mem_cons.2 ⟨?_, ?_⟩)
    | with_reducible exact ro_eff
    | with_reducible exact OptEff.none
    | with_reducible apply OptEff.some
    | (with_reducible apply OptEff.array; intro _)
    | with_reducible apply Reg.ofVp_eff
    | with_reducible exact Reg.OnlyEff.mono State.oppStatusReg_eff rfl
    | with_reducible exact Reg.OnlyEff.mono State.retStatusReg_eff rfl
    | (refine ⟨fun _ _ => ?_, fun _ => ?_, fun _ => ?_⟩)
    | dsimp only [ro, id]
    | with_reducible exact Only.refl _ _
    | ((with_reducible apply Only.step State.writeOppCtl_only ?_ ?k); case k => exact rfl)
    | ((with_reducible apply Only.step State.writeLatFloor_only ?_ ?k); case k => exact rfl)
    | ((with_reducible apply Only.step State.writePadRelease_only ?_ ?k); case k => exact rfl)
    | ((with_reducible apply Only.step State.writeWakeCause_only ?_ ?k); case k => exact rfl)
    | split
    | ((with_reducible apply Only.upd ?_ ?h); case h => exact rfl)

theorem State.holdReg_eff {s : State} {f : Fn} : Reg.OnlyEff 0x810011110 (State.holdReg s f) := by
  unfold State.holdReg
  try dsimp only
  repeat' first
    | with_reducible apply OptEff.first
    | with_reducible apply OptEff.lookup
    | with_reducible apply OptEff.getD
    | with_reducible exact List.forall_mem_nil _
    | (with_reducible refine List.forall_mem_cons.2 ⟨?_, ?_⟩)
    | with_reducible exact ro_eff
    | with_reducible exact OptEff.none
    | with_reducible apply OptEff.some
    | (with_reducible apply OptEff.array; intro _)
    | with_reducible apply Reg.ofVp_eff
    | (refine ⟨fun _ _ => ?_, fun _ => ?_, fun _ => ?_⟩)
    | dsimp only [ro, id]
    | with_reducible exact Only.refl _ _
    | ((with_reducible apply Only.step State.setHold_only ?_ ?k); case k => exact rfl)
    | split
    | ((with_reducible apply Only.upd ?_ ?h); case h => exact rfl)

theorem State.claimReg_eff {s : State} {f : Fn} : Reg.OnlyEff 0x0 (State.claimReg s f) := by
  unfold State.claimReg
  try dsimp only
  repeat' first
    | with_reducible apply OptEff.first
    | with_reducible apply OptEff.lookup
    | with_reducible apply OptEff.getD
    | with_reducible exact List.forall_mem_nil _
    | (with_reducible refine List.forall_mem_cons.2 ⟨?_, ?_⟩)
    | with_reducible exact ro_eff
    | with_reducible exact OptEff.none
    | with_reducible apply OptEff.some
    | (with_reducible apply OptEff.array; intro _)
    | with_reducible apply Reg.ofVp_eff
    | (refine ⟨fun _ _ => ?_, fun _ => ?_, fun _ => ?_⟩)
    | dsimp only [ro, id]
    | with_reducible exact Only.refl _ _
    | split
    | ((with_reducible apply Only.upd ?_ ?h); case h => exact rfl)

theorem eoiReg_eff {f : Fn} : Reg.OnlyEff 0x80C011950 (eoiReg f) := by
  unfold eoiReg
  try dsimp only
  repeat' first
    | with_reducible apply OptEff.first
    | with_reducible apply OptEff.lookup
    | with_reducible apply OptEff.getD
    | with_reducible exact List.forall_mem_nil _
    | (with_reducible refine List.forall_mem_cons.2 ⟨?_, ?_⟩)
    | with_reducible exact ro_eff
    | with_reducible exact OptEff.none
    | with_reducible apply OptEff.some
    | (with_reducible apply OptEff.array; intro _)
    | with_reducible apply Reg.ofVp_eff
    | (refine ⟨fun _ _ => ?_, fun _ => ?_, fun _ => ?_⟩)
    | dsimp only [ro, id]
    | with_reducible exact Only.refl _ _
    | ((with_reducible apply Only.step State.eoiWrite_only ?_ ?k); case k => exact rfl)
    | split
    | ((with_reducible apply Only.upd ?_ ?h); case h => exact rfl)

theorem State.irqReg_eff {s : State} {off : Nat} : OptEff 0x2BFFEF7FFA (State.irqReg s off) := by
  unfold State.irqReg
  try dsimp only
  repeat' first
    | with_reducible apply OptEff.first
    | with_reducible apply OptEff.lookup
    | with_reducible apply OptEff.getD
    | with_reducible exact List.forall_mem_nil _
    | (with_reducible refine List.forall_mem_cons.2 ⟨?_, ?_⟩)
    | with_reducible exact ro_eff
    | with_reducible exact OptEff.none
    | with_reducible apply OptEff.some
    | (with_reducible apply OptEff.array; intro _)
    | with_reducible apply Reg.ofVp_eff
    | with_reducible exact Reg.OnlyEff.mono State.holdReg_eff rfl
    | with_reducible exact Reg.OnlyEff.mono eoiReg_eff rfl
    | with_reducible exact Reg.OnlyEff.mono State.claimReg_eff rfl
    | (refine ⟨fun _ _ => ?_, fun _ => ?_, fun _ => ?_⟩)
    | dsimp only [ro, id]
    | with_reducible exact Only.refl _ _
    | ((with_reducible apply Only.step State.sharedWrite_only ?_ ?k); case k => exact rfl)
    | ((with_reducible apply Only.step State.privateWrite_only ?_ ?k); case k => exact rfl)
    | split
    | ((with_reducible apply Only.upd ?_ ?h); case h => exact rfl)

theorem State.peatReg_eff {s : State} {off : Nat} : OptEff 0x2BFFEF7FFA (State.peatReg s off) := by
  unfold State.peatReg
  try dsimp only
  repeat' first
    | with_reducible apply OptEff.first
    | with_reducible apply OptEff.lookup
    | with_reducible apply OptEff.getD
    | with_reducible exact List.forall_mem_nil _
    | (with_reducible refine List.forall_mem_cons.2 ⟨?_, ?_⟩)
    | with_reducible exact ro_eff
    | with_reducible exact OptEff.none
    | with_reducible apply OptEff.some
    | (with_reducible apply OptEff.array; intro _)
    | with_reducible apply Reg.ofVp_eff
    | with_reducible exact Reg.OnlyEff.mono State.peatStatsReg_eff rfl
    | (refine ⟨fun _ _ => ?_, fun _ => ?_, fun _ => ?_⟩)
    | dsimp only [ro, id]
    | with_reducible exact Only.refl _ _
    | split
    | ((with_reducible apply Only.upd ?_ ?h); case h => exact rfl)

theorem State.writeUnfenceFree_only {v : Word} {s : State} : Only 0x2000000800 s (State.writeUnfenceFree v s) := by
  unfold State.writeUnfenceFree
  try dsimp only [State.drawBool, State.drawRandom]
  repeat' first
    | with_reducible exact Only.refl _ _
    | ((with_reducible apply Only.step State.drawBits_only ?_ ?k); case k => exact rfl)
    | ((with_reducible apply Only.step State.writeUnfence_only ?_ ?k); case k => exact rfl)
    | dsimp only [id]
    | split
    | ((with_reducible apply Only.upd ?_ ?h); case h => exact rfl)

theorem State.fltReg_eff {s : State} {off : Nat} : OptEff 0x2BFFEF7FFA (State.fltReg s off) := by
  unfold State.fltReg
  try dsimp only
  repeat' first
    | with_reducible apply OptEff.first
    | with_reducible apply OptEff.lookup
    | with_reducible apply OptEff.getD
    | with_reducible exact List.forall_mem_nil _
    | (with_reducible refine List.forall_mem_cons.2 ⟨?_, ?_⟩)
    | with_reducible exact ro_eff
    | with_reducible exact OptEff.none
    | with_reducible apply OptEff.some
    | (with_reducible apply OptEff.array; intro _)
    | with_reducible apply Reg.ofVp_eff
    | with_reducible exact Reg.OnlyEff.mono State.eccReg_eff rfl
    | with_reducible exact Reg.OnlyEff.mono State.fltStatusReg_eff rfl
    | with_reducible exact Reg.OnlyEff.mono State.classCountReg_eff rfl
    | (refine ⟨fun _ _ => ?_, fun _ => ?_, fun _ => ?_⟩)
    | dsimp only [ro, id]
    | with_reducible exact Only.refl _ _
    | ((with_reducible apply Only.step State.writeFltPop_only ?_ ?k); case k => exact rfl)
    | ((with_reducible apply Only.step State.writeUnfenceFree_only ?_ ?k); case k => exact rfl)
    | split
    | ((with_reducible apply Only.upd ?_ ?h); case h => exact rfl)

theorem State.writeTamper_only {v : Word} {s : State} : Only 0x2000000 s (State.writeTamper v s) := by
  unfold State.writeTamper
  repeat' first
    | with_reducible exact Only.refl _ _
    | dsimp only [id]
    | split
    | ((with_reducible apply Only.upd ?_ ?h); case h => exact rfl)

theorem State.writeIdCtl_only {v : Word} {s : State} : Only 0x2000000 s (State.writeIdCtl v s) := by
  unfold State.writeIdCtl
  repeat' first
    | with_reducible exact Only.refl _ _
    | dsimp only [id]
    | split
    | ((with_reducible apply Only.upd ?_ ?h); case h => exact rfl)

theorem State.sealReg_eff {s : State} {off : Nat} : OptEff 0x2BFFEF7FFA (State.sealReg s off) := by
  unfold State.sealReg
  try dsimp only
  repeat' first
    | with_reducible apply OptEff.first
    | with_reducible apply OptEff.lookup
    | with_reducible apply OptEff.getD
    | with_reducible exact List.forall_mem_nil _
    | (with_reducible refine List.forall_mem_cons.2 ⟨?_, ?_⟩)
    | with_reducible exact ro_eff
    | with_reducible exact OptEff.none
    | with_reducible apply OptEff.some
    | (with_reducible apply OptEff.array; intro _)
    | with_reducible apply Reg.ofVp_eff
    | with_reducible exact Reg.OnlyEff.mono State.sealFailsReg_eff rfl
    | (refine ⟨fun _ _ => ?_, fun _ => ?_, fun _ => ?_⟩)
    | dsimp only [ro, id]
    | with_reducible exact Only.refl _ _
    | ((with_reducible apply Only.step State.writeIdCtl_only ?_ ?k); case k => exact rfl)
    | ((with_reducible apply Only.step State.writeTamper_only ?_ ?k); case k => exact rfl)
    | split
    | ((with_reducible apply Only.upd ?_ ?h); case h => exact rfl)

theorem State.writeSvcStatus_only {v : Word} {s : State} : Only 0x100000000 s (State.writeSvcStatus v s) := by
  unfold State.writeSvcStatus
  repeat' first
    | with_reducible exact Only.refl _ _
    | dsimp only [id]
    | split
    | ((with_reducible apply Only.upd ?_ ?h); case h => exact rfl)

theorem State.writeSvcChange_only {v : Word} {s : State} : Only 0x100000000 s (State.writeSvcChange v s) := by
  unfold State.writeSvcChange
  repeat' first
    | with_reducible exact Only.refl _ _
    | dsimp only [id]
    | split
    | ((with_reducible apply Only.upd ?_ ?h); case h => exact rfl)

theorem State.svcReg_eff {s : State} {off : Nat} : OptEff 0x2BFFEF7FFA (State.svcReg s off) := by
  unfold State.svcReg
  try dsimp only
  repeat' first
    | with_reducible apply OptEff.first
    | with_reducible apply OptEff.lookup
    | with_reducible apply OptEff.getD
    | with_reducible exact List.forall_mem_nil _
    | (with_reducible refine List.forall_mem_cons.2 ⟨?_, ?_⟩)
    | with_reducible exact ro_eff
    | with_reducible exact OptEff.none
    | with_reducible apply OptEff.some
    | (with_reducible apply OptEff.array; intro _)
    | with_reducible apply Reg.ofVp_eff
    | with_reducible exact Reg.OnlyEff.mono State.svcCountReg_eff rfl
    | (refine ⟨fun _ _ => ?_, fun _ => ?_, fun _ => ?_⟩)
    | dsimp only [ro, id]
    | with_reducible exact Only.refl _ _
    | ((with_reducible apply Only.step State.writeSvcStatus_only ?_ ?k); case k => exact rfl)
    | ((with_reducible apply Only.step State.writeSelfTest_only ?_ ?k); case k => exact rfl)
    | ((with_reducible apply Only.step State.writeSvcChange_only ?_ ?k); case k => exact rfl)
    | ((with_reducible apply Only.step State.writeSvcCtl_only ?_ ?k); case k => exact rfl)
    | split
    | ((with_reducible apply Only.upd ?_ ?h); case h => exact rfl)

theorem State.writeResetCause_only {v : Word} {s : State} : Only 0x8 s (State.writeResetCause v s) := by
  unfold State.writeResetCause
  repeat' first
    | with_reducible exact Only.refl _ _
    | dsimp only [id]
    | split
    | ((with_reducible apply Only.upd ?_ ?h); case h => exact rfl)

theorem State.imgReg_eff {s : State} {off : Nat} : OptEff 0x2BFFEF7FFA (State.imgReg s off) := by
  unfold State.imgReg
  try dsimp only
  repeat' first
    | with_reducible apply OptEff.first
    | with_reducible apply OptEff.lookup
    | with_reducible apply OptEff.getD
    | with_reducible exact List.forall_mem_nil _
    | (with_reducible refine List.forall_mem_cons.2 ⟨?_, ?_⟩)
    | with_reducible exact ro_eff
    | with_reducible exact OptEff.none
    | with_reducible apply OptEff.some
    | (with_reducible apply OptEff.array; intro _)
    | with_reducible apply Reg.ofVp_eff
    | (refine ⟨fun _ _ => ?_, fun _ => ?_, fun _ => ?_⟩)
    | dsimp only [ro, id]
    | with_reducible exact Only.refl _ _
    | ((with_reducible apply Only.step State.writeResetCause_only ?_ ?k); case k => exact rfl)
    | split
    | ((with_reducible apply Only.upd ?_ ?h); case h => exact rfl)

theorem State.pfReg_eff {s : State} {off : Nat} : OptEff 0x2BFFEF7FFA (State.pfReg s off) := by
  unfold State.pfReg
  try dsimp only
  repeat' first
    | with_reducible apply OptEff.first
    | with_reducible apply OptEff.lookup
    | with_reducible apply OptEff.getD
    | with_reducible exact List.forall_mem_nil _
    | (with_reducible refine List.forall_mem_cons.2 ⟨?_, ?_⟩)
    | with_reducible exact ro_eff
    | with_reducible exact OptEff.none
    | with_reducible apply OptEff.some
    | (with_reducible apply OptEff.array; intro _)
    | with_reducible apply Reg.ofVp_eff
    | with_reducible exact State.schReg_eff
    | with_reducible exact State.pwrReg_eff
    | with_reducible exact State.svcReg_eff
    | with_reducible exact State.peatReg_eff
    | with_reducible exact State.sealReg_eff
    | with_reducible exact State.irqReg_eff
    | with_reducible exact State.fltReg_eff
    | with_reducible exact State.gblReg_eff
    | with_reducible exact State.tenReg_eff
    | with_reducible exact State.prtReg_eff
    | with_reducible exact State.imgReg_eff
    | with_reducible exact State.slcReg_eff
    | (refine ⟨fun _ _ => ?_, fun _ => ?_, fun _ => ?_⟩)
    | dsimp only [ro, id]
    | with_reducible exact Only.refl _ _
    | split
    | ((with_reducible apply Only.upd ?_ ?h); case h => exact rfl)

theorem State.writeTStatus_only {t : TenantId} {v : Word} {s : State} : Only 0x10000 s (State.writeTStatus t v s) := by
  unfold State.writeTStatus
  repeat' first
    | with_reducible exact Only.refl _ _
    | ((with_reducible apply Only.step State.modTenant_only ?_ ?k); case k => exact rfl)
    | dsimp only [id]
    | split
    | ((with_reducible apply Only.upd ?_ ?h); case h => exact rfl)

theorem State.writeVpChange_only {t : TenantId} {i : Fin 64} {v : Word} {s : State} : Only 0x10000 s (State.writeVpChange t i v s) := by
  unfold State.writeVpChange
  repeat' first
    | with_reducible exact Only.refl _ _
    | ((with_reducible apply Only.step State.modTenant_only ?_ ?k); case k => exact rfl)
    | dsimp only [id]
    | split
    | ((with_reducible apply Only.upd ?_ ?h); case h => exact rfl)

theorem State.vfReg_eff {s : State} {t : TenantId} {off : Nat} : OptEff 0x2BFFEF7FFA (State.vfReg s t off) := by
  unfold State.vfReg
  try dsimp only
  repeat' first
    | with_reducible apply OptEff.first
    | with_reducible apply OptEff.lookup
    | with_reducible apply OptEff.getD
    | with_reducible exact List.forall_mem_nil _
    | (with_reducible refine List.forall_mem_cons.2 ⟨?_, ?_⟩)
    | with_reducible exact ro_eff
    | with_reducible exact OptEff.none
    | with_reducible apply OptEff.some
    | (with_reducible apply OptEff.array; intro _)
    | with_reducible apply Reg.ofVp_eff
    | with_reducible exact Reg.OnlyEff.mono State.holdReg_eff rfl
    | with_reducible exact Reg.OnlyEff.mono eoiReg_eff rfl
    | with_reducible exact Reg.OnlyEff.mono State.claimReg_eff rfl
    | (refine ⟨fun _ _ => ?_, fun _ => ?_, fun _ => ?_⟩)
    | dsimp only [ro, id]
    | with_reducible exact Only.refl _ _
    | ((with_reducible apply Only.step State.writeEventSize_only ?_ ?k); case k => exact rfl)
    | ((with_reducible apply Only.step State.writeCtl_only ?_ ?k); case k => exact rfl)
    | ((with_reducible apply Only.step State.privateWrite_only ?_ ?k); case k => exact rfl)
    | ((with_reducible apply Only.step State.writeVpChange_only ?_ ?k); case k => exact rfl)
    | ((with_reducible apply Only.step State.writeOrderDb_only ?_ ?k); case k => exact rfl)
    | ((with_reducible apply Only.step State.writeOrderSize_only ?_ ?k); case k => exact rfl)
    | ((with_reducible apply Only.step State.writeLatTol_only ?_ ?k); case k => exact rfl)
    | ((with_reducible apply Only.step State.writeEventCi_only ?_ ?k); case k => exact rfl)
    | ((with_reducible apply Only.step State.writeOrderBase_only ?_ ?k); case k => exact rfl)
    | ((with_reducible apply Only.step State.writeTStatus_only ?_ ?k); case k => exact rfl)
    | ((with_reducible apply Only.step State.writeEpDb_only ?_ ?k); case k => exact rfl)
    | ((with_reducible apply Only.step State.writeEventBase_only ?_ ?k); case k => exact rfl)
    | split
    | ((with_reducible apply Only.upd ?_ ?h); case h => exact rfl)

theorem State.regAt_eff {s : State} {f : Fn} {off : Nat} : Reg.OnlyEff 0x2BFFEF7FFA (State.regAt s f off) := by
  unfold State.regAt
  try dsimp only
  repeat' first
    | with_reducible apply OptEff.first
    | with_reducible apply OptEff.lookup
    | with_reducible apply OptEff.getD
    | with_reducible exact List.forall_mem_nil _
    | (with_reducible refine List.forall_mem_cons.2 ⟨?_, ?_⟩)
    | with_reducible exact ro_eff
    | with_reducible exact OptEff.none
    | with_reducible apply OptEff.some
    | (with_reducible apply OptEff.array; intro _)
    | with_reducible apply Reg.ofVp_eff
    | with_reducible exact State.pfReg_eff
    | with_reducible exact State.vfReg_eff
    | (refine ⟨fun _ _ => ?_, fun _ => ?_, fun _ => ?_⟩)
    | dsimp only [ro, id]
    | with_reducible exact Only.refl _ _
    | split
    | ((with_reducible apply Only.upd ?_ ?h); case h => exact rfl)

theorem State.writeAt_only {s : State} {f : Fn} {off : Nat} {a : WrAcc} {v : Word} : Only 0x3BFFEF7FFA s (State.writeAt s f off a v) := by
  unfold State.writeAt
  repeat' first
    | with_reducible exact Only.refl _ _
    | ((with_reducible apply Only.trans ?_ (State.writeReg_only ?_ ?k)); case k => exact rfl)
    | with_reducible exact Reg.OnlyEff.mono State.regAt_eff rfl
    | dsimp only [id]
    | split
    | ((with_reducible apply Only.upd ?_ ?h); case h => exact rfl)

theorem execRegisterWrite_only {f : Fn} {off : Nat} {a : WrAcc} {v : Word} {s : State} :
    ∃ z, execRegisterWrite f off a v s = .next z ∧ Only 0x3BFFEF7FFA s z := by
  unfold execRegisterWrite
  repeat' first
    | with_reducible refine ⟨_, rfl, ?_⟩
    | split
  repeat' first
    | with_reducible exact Only.refl _ _
    | ((with_reducible apply Only.step State.writeAt_only ?_ ?k); case k => exact rfl)
    | dsimp only [id]
    | split
    | ((with_reducible apply Only.upd ?_ ?h); case h => exact rfl)

theorem execPrtUrgentReserveWrite_only {p : PortId} {a : WrAcc} {v : Word} {s : State} :
    ∃ z, execPrtUrgentReserveWrite p a v s = .next z ∧ Only 0x1020091050 s z := by
  unfold execPrtUrgentReserveWrite
  repeat' first
    | with_reducible refine ⟨_, rfl, ?_⟩
    | split
  repeat' first
    | with_reducible exact Only.refl _ _
    | ((with_reducible apply Only.step State.writeUrgent_only ?_ ?k); case k => exact rfl)
    | ((with_reducible apply Only.trans ?_ (State.regWrite_only (fun _ _ => ?_) ?k)); case k => exact rfl)
    | dsimp only [id]
    | split
    | ((with_reducible apply Only.upd ?_ ?h); case h => exact rfl)

theorem execTrcSpillCi_only {a : WrAcc} {v : Word} {s : State} : ∃ z, execTrcSpillCi a v s = .next z ∧ Only 0x1020011050 s z := by
  unfold execTrcSpillCi
  repeat' first
    | with_reducible refine ⟨_, rfl, ?_⟩
    | split
  repeat' first
    | with_reducible exact Only.refl _ _
    | ((with_reducible apply Only.trans ?_ (State.regWrite_only (fun _ _ => ?_) ?k)); case k => exact rfl)
    | ((with_reducible apply Only.step State.writeSpillCi_only ?_ ?k); case k => exact rfl)
    | dsimp only [id]
    | split
    | ((with_reducible apply Only.upd ?_ ?h); case h => exact rfl)

theorem State.readOne_only {s : State} {f : Fn} {off : Nat} {h : RdHalf} : Only 0x3BFFEF7FFA s (State.readOne s f off h) := by
  unfold State.readOne
  repeat' first
    | with_reducible exact Only.refl _ _
    | ((with_reducible apply Only.trans ?_ (State.readReg_only ?_ ?k)); case k => exact rfl)
    | ((with_reducible apply Only.step State.claimRead_only ?_ ?k); case k => exact rfl)
    | ((with_reducible apply Only.step State.timeRead_only ?_ ?k); case k => exact rfl)
    | with_reducible exact Reg.OnlyEff.mono State.regAt_eff rfl
    | dsimp only [id]
    | split
    | ((with_reducible apply Only.upd ?_ ?h); case h => exact rfl)

theorem State.readSpan_only {s : State} {f : Fn} {a b : Nat} {k off : Nat} : Only 0x3BFFEF7FFA s (State.readSpan s f a b k off).1 := by
  induction k generalizing s off with
  | zero => exact Only.refl _ _
  | succ k ih => exact (State.readOne_only.mono rfl).trans ih

theorem State.eptRead_only {s : State} {off : Nat} : Only 0x29E20FF910 s (s.eptRead off).1 := by
  unfold State.eptRead
  dsimp only [State.drawBool]
  repeat' first
    | with_reducible exact Only.refl _ _
    | ((with_reducible apply Only.step State.memoryFault_only ?_ ?k); case k => exact rfl)
    | with_reducible apply Only.foldl ?_ (fun _ _ => ?_)
    | dsimp only [id]
    | split
    | ((with_reducible apply Only.upd ?_ ?h); case h => exact rfl)

theorem State.eptSpan_only {s : State} {a b : Nat} {k off : Nat} : Only 0x29E20FF910 s (State.eptSpan s a b k off).1 := by
  induction k generalizing s off with
  | zero => exact Only.refl _ _
  | succ k ih => exact (State.eptRead_only.mono rfl).trans ih

theorem State.readAt_only {s : State} {f : Fn} {off size : Nat} : Only 0x3BFFEFFFFA s (State.readAt s f off size) := by
  unfold State.readAt
  try dsimp only
  repeat' first
    | with_reducible exact Only.refl _ _
    | ((with_reducible apply Only.step State.readSpan_only ?_ ?k); case k => exact rfl)
    | ((with_reducible apply Only.step State.answer_only ?_ ?k); case k => exact rfl)
    | ((with_reducible apply Only.step State.dropLatch_only ?_ ?k); case k => exact rfl)
    | ((with_reducible apply Only.step State.eptSpan_only ?_ ?k); case k => exact rfl)
    | ((with_reducible apply State.front_only ?_ ?_ ?k); case k => exact rfl)
    | ((with_reducible apply Only.step State.readOne_only ?_ ?k); case k => exact rfl)
    | dsimp only [id]
    | split
    | ((with_reducible apply Only.upd ?_ ?h); case h => exact rfl)

theorem State.act_only {s : State} {q : CulvertReq} : Only 0x3BFFEFFFFA s (State.act s q) := by
  unfold State.act
  repeat' first
    | with_reducible exact Only.refl _ _
    | ((with_reducible apply Only.step State.readAt_only ?_ ?k); case k => exact rfl)
    | ((with_reducible apply State.passOp_only ?_ ?_ ?k); case k => exact rfl)
    | ((with_reducible apply Only.step State.writeAt_only ?_ ?k); case k => exact rfl)
    | ((with_reducible apply Only.step State.tableWrite_only ?_ ?k); case k => exact rfl)
    | ((with_reducible apply Only.step State.cfgRequest_only ?_ ?k); case k => exact rfl)
    | ((with_reducible apply Only.step State.tableRead_only ?_ ?k); case k => exact rfl)
    | dsimp only [id]
    | split
    | ((with_reducible apply Only.upd ?_ ?h); case h => exact rfl)

theorem State.deliver_only {s : State} {h : Held} : Only 0x3BFFEFFFFA s (State.deliver s h) := by
  unfold State.deliver
  try dsimp only
  repeat' first
    | with_reducible exact Only.refl _ _
    | ((with_reducible apply Only.step State.act_only ?_ ?k); case k => exact rfl)
    | ((with_reducible apply Only.step State.emitOut_only ?_ ?k); case k => exact rfl)
    | dsimp only [id]
    | split
    | ((with_reducible apply Only.upd ?_ ?h); case h => exact rfl)

theorem State.islandUp_only {s : State} {i : Island} : Only 0x3BFFEFFFFA s (State.islandUp s i) := by
  unfold State.islandUp
  try dsimp only
  repeat' first
    | with_reducible exact Only.refl _ _
    | ((with_reducible apply Only.step State.modIsland_only ?_ ?k); case k => exact rfl)
    | ((with_reducible apply Only.step State.deliver_only ?_ ?k); case k => exact rfl)
    | ((with_reducible apply Only.step State.moveIsland_only ?_ ?k); case k => exact rfl)
    | with_reducible apply Only.foldl ?_ (fun _ _ => ?_)
    | dsimp only [id]
    | split
    | ((with_reducible apply Only.upd ?_ ?h); case h => exact rfl)

theorem execIslandWake_only {i : Island} {h : Held} {s : State} :
    ∃ z, execIslandWake i h s = .next z ∧ Only 0x3BFFEFFFFA s z := by
  unfold execIslandWake
  repeat' first
    | with_reducible refine ⟨_, rfl, ?_⟩
    | split
  repeat' first
    | with_reducible exact Only.refl _ _
    | ((with_reducible apply Only.step State.act_only ?_ ?k); case k => exact rfl)
    | ((with_reducible apply Only.step State.hold_only ?_ ?k); case k => exact rfl)
    | dsimp only [id]
    | split
    | ((with_reducible apply Only.upd ?_ ?h); case h => exact rfl)

theorem State.handOff_only {s : State} {i : Island} : Only 0x20000000 s (State.handOff s i) := by
  unfold State.handOff
  repeat' first
    | with_reducible exact Only.refl _ _
    | dsimp only [id]
    | split
    | ((with_reducible apply Only.upd ?_ ?h); case h => exact rfl)

theorem State.linkBack_only {s : State} : Only 0x20 s (State.linkBack s) := by
  unfold State.linkBack
  repeat' first
    | with_reducible exact Only.refl _ _
    | dsimp only [id]
    | split
    | ((with_reducible apply Only.upd ?_ ?h); case h => exact rfl)

theorem execIslandReady_only {i : Island} {s : State} : ∃ z, execIslandReady i s = .next z ∧ Only 0x3BFFEFFFFA s z := by
  unfold execIslandReady
  try dsimp only
  repeat' first
    | with_reducible refine ⟨_, rfl, ?_⟩
    | split
  repeat' first
    | with_reducible exact Only.refl _ _
    | ((with_reducible apply Only.step State.resample_only ?_ ?k); case k => exact rfl)
    | ((with_reducible apply Only.step State.islandUp_only ?_ ?k); case k => exact rfl)
    | ((with_reducible apply Only.step State.endExit_only ?_ ?k); case k => exact rfl)
    | ((with_reducible apply Only.step State.linkBack_only ?_ ?k); case k => exact rfl)
    | ((with_reducible apply Only.step State.handOff_only ?_ ?k); case k => exact rfl)
    | dsimp only [id]
    | split
    | ((with_reducible apply Only.upd ?_ ?h); case h => exact rfl)

theorem execIslandRestartDone_only {i : Island} {s : State} : ∃ z, execIslandRestartDone i s = .next z ∧ Only 0x3BFFEFFFFA s z := by
  unfold execIslandRestartDone
  try dsimp only
  repeat' first
    | with_reducible refine ⟨_, rfl, ?_⟩
    | split
  repeat' first
    | with_reducible exact Only.refl _ _
    | ((with_reducible apply Only.step State.endRestarts_only ?_ ?k); case k => exact rfl)
    | ((with_reducible apply Only.step State.resample_only ?_ ?k); case k => exact rfl)
    | ((with_reducible apply Only.step State.islandUp_only ?_ ?k); case k => exact rfl)
    | ((with_reducible apply Only.step State.loseResponse_only ?_ ?k); case k => exact rfl)
    | dsimp only [id]
    | split
    | ((with_reducible apply Only.upd ?_ ?h); case h => exact rfl)

theorem State.idle_only {s : State} : Only 0x20000200 s (State.idle s) := by
  unfold State.idle
  try dsimp only
  repeat' first
    | with_reducible exact Only.refl _ _
    | dsimp only [id]
    | split
    | ((with_reducible apply Only.upd ?_ ?h); case h => exact rfl)

end Sys2Proof.Machine
end

