-- ==== Sys2Proof/Laws/State.lean ====
section
/-! SUPPORT. Tables, and the primitive updates of State field by field: each lemma is true by rfl and a simp lemma, so that no proof
unfolds a record update. Below them, what the lookups find after the updates. -/

namespace Sys2Proof.Machine

/-! ### Tables -/

@[simp] theorem vget_vset {α : Type} {n : Nat} (v : Vector α n) (i : Fin n) (x : α) : vget (vset v i x) i = x := by
  simp [vget, vset]

theorem vget_vset_ne {α : Type} {n : Nat} {v : Vector α n} {i j : Fin n} {x : α} (h : i ≠ j) : vget (vset v i x) j = vget v j := by
  simp [vget, vset, Fin.val_ne_of_ne h]

@[simp] theorem vget_vmod {α : Type} {n : Nat} (v : Vector α n) (i : Fin n) (f : α → α) : vget (vmod v i f) i = f (vget v i) := by
  simp [vmod]

theorem vget_vmod_ne {α : Type} {n : Nat} {v : Vector α n} {i j : Fin n} {f : α → α} (h : i ≠ j) :
    vget (vmod v i f) j = vget v j := by
  simp [vmod, vget_vset_ne h]

/-! ### Primitive updates -/

@[simp] theorem State.modTenant_pending (s : State) (t : TenantId) (f : Tenant → Tenant) :
    (s.modTenant t f).pending = s.pending := rfl
@[simp] theorem State.modTenant_pins (s : State) (t : TenantId) (f : Tenant → Tenant) :
    (s.modTenant t f).pins = s.pins := rfl
@[simp] theorem State.modTenant_fuses (s : State) (t : TenantId) (f : Tenant → Tenant) :
    (s.modTenant t f).fuses = s.fuses := rfl
@[simp] theorem State.modTenant_img (s : State) (t : TenantId) (f : Tenant → Tenant) :
    (s.modTenant t f).img = s.img := rfl
@[simp] theorem State.modTenant_pf (s : State) (t : TenantId) (f : Tenant → Tenant) :
    (s.modTenant t f).pf = s.pf := rfl
@[simp] theorem State.modTenant_link (s : State) (t : TenantId) (f : Tenant → Tenant) :
    (s.modTenant t f).link = s.link := rfl
@[simp] theorem State.modTenant_gblAccessErr (s : State) (t : TenantId) (f : Tenant → Tenant) :
    (s.modTenant t f).gblAccessErr = s.gblAccessErr := rfl
@[simp] theorem State.modTenant_vfRefused (s : State) (t : TenantId) (f : Tenant → Tenant) :
    (s.modTenant t f).vfRefused = s.vfRefused := rfl
@[simp] theorem State.modTenant_mgr (s : State) (t : TenantId) (f : Tenant → Tenant) :
    (s.modTenant t f).mgr = s.mgr := rfl
@[simp] theorem State.modTenant_time (s : State) (t : TenantId) (f : Tenant → Tenant) :
    (s.modTenant t f).time = s.time := rfl
@[simp] theorem State.modTenant_frames (s : State) (t : TenantId) (f : Tenant → Tenant) :
    (s.modTenant t f).frames = s.frames := rfl
@[simp] theorem State.modTenant_sched (s : State) (t : TenantId) (f : Tenant → Tenant) :
    (s.modTenant t f).sched = s.sched := rfl
@[simp] theorem State.modTenant_trace (s : State) (t : TenantId) (f : Tenant → Tenant) :
    (s.modTenant t f).trace = s.trace := rfl
@[simp] theorem State.modTenant_sluice (s : State) (t : TenantId) (f : Tenant → Tenant) :
    (s.modTenant t f).sluice = s.sluice := rfl
@[simp] theorem State.modTenant_energy (s : State) (t : TenantId) (f : Tenant → Tenant) :
    (s.modTenant t f).energy = s.energy := rfl
@[simp] theorem State.modTenant_shadowBusy (s : State) (t : TenantId) (f : Tenant → Tenant) :
    (s.modTenant t f).shadowBusy = s.shadowBusy := rfl
@[simp] theorem State.modTenant_tenants (s : State) (t : TenantId) (f : Tenant → Tenant) :
    (s.modTenant t f).tenants = vmod s.tenants t f := rfl
@[simp] theorem State.modTenant_flows (s : State) (t : TenantId) (f : Tenant → Tenant) :
    (s.modTenant t f).flows = s.flows := rfl
@[simp] theorem State.modTenant_devs (s : State) (t : TenantId) (f : Tenant → Tenant) :
    (s.modTenant t f).devs = s.devs := rfl
@[simp] theorem State.modTenant_ports (s : State) (t : TenantId) (f : Tenant → Tenant) :
    (s.modTenant t f).ports = s.ports := rfl
@[simp] theorem State.modTenant_gangMask (s : State) (t : TenantId) (f : Tenant → Tenant) :
    (s.modTenant t f).gangMask = s.gangMask := rfl
@[simp] theorem State.modTenant_gangs (s : State) (t : TenantId) (f : Tenant → Tenant) :
    (s.modTenant t f).gangs = s.gangs := rfl
@[simp] theorem State.modTenant_deglitchUs (s : State) (t : TenantId) (f : Tenant → Tenant) :
    (s.modTenant t f).deglitchUs = s.deglitchUs := rfl
@[simp] theorem State.modTenant_devSel (s : State) (t : TenantId) (f : Tenant → Tenant) :
    (s.modTenant t f).devSel = s.devSel := rfl
@[simp] theorem State.modTenant_tts (s : State) (t : TenantId) (f : Tenant → Tenant) :
    (s.modTenant t f).tts = s.tts := rfl
@[simp] theorem State.modTenant_seals (s : State) (t : TenantId) (f : Tenant → Tenant) :
    (s.modTenant t f).seals = s.seals := rfl
@[simp] theorem State.modTenant_shared (s : State) (t : TenantId) (f : Tenant → Tenant) :
    (s.modTenant t f).shared = s.shared := rfl
@[simp] theorem State.modTenant_pfIrq (s : State) (t : TenantId) (f : Tenant → Tenant) :
    (s.modTenant t f).pfIrq = s.pfIrq := rfl
@[simp] theorem State.modTenant_pfHold (s : State) (t : TenantId) (f : Tenant → Tenant) :
    (s.modTenant t f).pfHold = s.pfHold := rfl
@[simp] theorem State.modTenant_power (s : State) (t : TenantId) (f : Tenant → Tenant) :
    (s.modTenant t f).power = s.power := rfl
@[simp] theorem State.modTenant_peat (s : State) (t : TenantId) (f : Tenant → Tenant) :
    (s.modTenant t f).peat = s.peat := rfl
@[simp] theorem State.modTenant_faults (s : State) (t : TenantId) (f : Tenant → Tenant) :
    (s.modTenant t f).faults = s.faults := rfl
@[simp] theorem State.modTenant_svc (s : State) (t : TenantId) (f : Tenant → Tenant) :
    (s.modTenant t f).svc = s.svc := rfl
@[simp] theorem State.modTenant_self (s : State) (t : TenantId) (f : Tenant → Tenant) :
    (s.modTenant t f).self = s.self := rfl
@[simp] theorem State.modTenant_tap (s : State) (t : TenantId) (f : Tenant → Tenant) :
    (s.modTenant t f).tap = s.tap := rfl
@[simp] theorem State.modTenant_out (s : State) (t : TenantId) (f : Tenant → Tenant) :
    (s.modTenant t f).out = s.out := rfl
@[simp] theorem State.modTenant_resp (s : State) (t : TenantId) (f : Tenant → Tenant) :
    (s.modTenant t f).resp = s.resp := rfl
@[simp] theorem State.modTenant_free (s : State) (t : TenantId) (f : Tenant → Tenant) :
    (s.modTenant t f).free = s.free := rfl

@[simp] theorem State.answer_pending (s : State) (r : Resp) :
    (s.answer r).pending = s.pending := rfl
@[simp] theorem State.answer_pins (s : State) (r : Resp) :
    (s.answer r).pins = s.pins := rfl
@[simp] theorem State.answer_fuses (s : State) (r : Resp) :
    (s.answer r).fuses = s.fuses := rfl
@[simp] theorem State.answer_img (s : State) (r : Resp) :
    (s.answer r).img = s.img := rfl
@[simp] theorem State.answer_pf (s : State) (r : Resp) :
    (s.answer r).pf = s.pf := rfl
@[simp] theorem State.answer_link (s : State) (r : Resp) :
    (s.answer r).link = s.link := rfl
@[simp] theorem State.answer_gblAccessErr (s : State) (r : Resp) :
    (s.answer r).gblAccessErr = s.gblAccessErr := rfl
@[simp] theorem State.answer_vfRefused (s : State) (r : Resp) :
    (s.answer r).vfRefused = s.vfRefused := rfl
@[simp] theorem State.answer_mgr (s : State) (r : Resp) :
    (s.answer r).mgr = s.mgr := rfl
@[simp] theorem State.answer_time (s : State) (r : Resp) :
    (s.answer r).time = s.time := rfl
@[simp] theorem State.answer_frames (s : State) (r : Resp) :
    (s.answer r).frames = s.frames := rfl
@[simp] theorem State.answer_sched (s : State) (r : Resp) :
    (s.answer r).sched = s.sched := rfl
@[simp] theorem State.answer_trace (s : State) (r : Resp) :
    (s.answer r).trace = s.trace := rfl
@[simp] theorem State.answer_sluice (s : State) (r : Resp) :
    (s.answer r).sluice = s.sluice := rfl
@[simp] theorem State.answer_energy (s : State) (r : Resp) :
    (s.answer r).energy = s.energy := rfl
@[simp] theorem State.answer_shadowBusy (s : State) (r : Resp) :
    (s.answer r).shadowBusy = s.shadowBusy := rfl
@[simp] theorem State.answer_tenants (s : State) (r : Resp) :
    (s.answer r).tenants = s.tenants := rfl
@[simp] theorem State.answer_flows (s : State) (r : Resp) :
    (s.answer r).flows = s.flows := rfl
@[simp] theorem State.answer_devs (s : State) (r : Resp) :
    (s.answer r).devs = s.devs := rfl
@[simp] theorem State.answer_ports (s : State) (r : Resp) :
    (s.answer r).ports = s.ports := rfl
@[simp] theorem State.answer_gangMask (s : State) (r : Resp) :
    (s.answer r).gangMask = s.gangMask := rfl
@[simp] theorem State.answer_gangs (s : State) (r : Resp) :
    (s.answer r).gangs = s.gangs := rfl
@[simp] theorem State.answer_deglitchUs (s : State) (r : Resp) :
    (s.answer r).deglitchUs = s.deglitchUs := rfl
@[simp] theorem State.answer_devSel (s : State) (r : Resp) :
    (s.answer r).devSel = s.devSel := rfl
@[simp] theorem State.answer_tts (s : State) (r : Resp) :
    (s.answer r).tts = s.tts := rfl
@[simp] theorem State.answer_seals (s : State) (r : Resp) :
    (s.answer r).seals = s.seals := rfl
@[simp] theorem State.answer_shared (s : State) (r : Resp) :
    (s.answer r).shared = s.shared := rfl
@[simp] theorem State.answer_pfIrq (s : State) (r : Resp) :
    (s.answer r).pfIrq = s.pfIrq := rfl
@[simp] theorem State.answer_pfHold (s : State) (r : Resp) :
    (s.answer r).pfHold = s.pfHold := rfl
@[simp] theorem State.answer_power (s : State) (r : Resp) :
    (s.answer r).power = s.power := rfl
@[simp] theorem State.answer_peat (s : State) (r : Resp) :
    (s.answer r).peat = s.peat := rfl
@[simp] theorem State.answer_faults (s : State) (r : Resp) :
    (s.answer r).faults = s.faults := rfl
@[simp] theorem State.answer_svc (s : State) (r : Resp) :
    (s.answer r).svc = s.svc := rfl
@[simp] theorem State.answer_self (s : State) (r : Resp) :
    (s.answer r).self = s.self := rfl
@[simp] theorem State.answer_tap (s : State) (r : Resp) :
    (s.answer r).tap = s.tap := rfl
@[simp] theorem State.answer_out (s : State) (r : Resp) :
    (s.answer r).out = s.out := rfl
@[simp] theorem State.answer_resp (s : State) (r : Resp) :
    (s.answer r).resp = some r := rfl
@[simp] theorem State.answer_free (s : State) (r : Resp) :
    (s.answer r).free = s.free := rfl

@[simp] theorem State.emitOut_pending (s : State) (o : Out) :
    (s.emitOut o).pending = s.pending := rfl
@[simp] theorem State.emitOut_pins (s : State) (o : Out) :
    (s.emitOut o).pins = s.pins := rfl
@[simp] theorem State.emitOut_fuses (s : State) (o : Out) :
    (s.emitOut o).fuses = s.fuses := rfl
@[simp] theorem State.emitOut_img (s : State) (o : Out) :
    (s.emitOut o).img = s.img := rfl
@[simp] theorem State.emitOut_pf (s : State) (o : Out) :
    (s.emitOut o).pf = s.pf := rfl
@[simp] theorem State.emitOut_link (s : State) (o : Out) :
    (s.emitOut o).link = s.link := rfl
@[simp] theorem State.emitOut_gblAccessErr (s : State) (o : Out) :
    (s.emitOut o).gblAccessErr = s.gblAccessErr := rfl
@[simp] theorem State.emitOut_vfRefused (s : State) (o : Out) :
    (s.emitOut o).vfRefused = s.vfRefused := rfl
@[simp] theorem State.emitOut_mgr (s : State) (o : Out) :
    (s.emitOut o).mgr = s.mgr := rfl
@[simp] theorem State.emitOut_time (s : State) (o : Out) :
    (s.emitOut o).time = s.time := rfl
@[simp] theorem State.emitOut_frames (s : State) (o : Out) :
    (s.emitOut o).frames = s.frames := rfl
@[simp] theorem State.emitOut_sched (s : State) (o : Out) :
    (s.emitOut o).sched = s.sched := rfl
@[simp] theorem State.emitOut_trace (s : State) (o : Out) :
    (s.emitOut o).trace = s.trace := rfl
@[simp] theorem State.emitOut_sluice (s : State) (o : Out) :
    (s.emitOut o).sluice = s.sluice := rfl
@[simp] theorem State.emitOut_energy (s : State) (o : Out) :
    (s.emitOut o).energy = s.energy := rfl
@[simp] theorem State.emitOut_shadowBusy (s : State) (o : Out) :
    (s.emitOut o).shadowBusy = s.shadowBusy := rfl
@[simp] theorem State.emitOut_tenants (s : State) (o : Out) :
    (s.emitOut o).tenants = s.tenants := rfl
@[simp] theorem State.emitOut_flows (s : State) (o : Out) :
    (s.emitOut o).flows = s.flows := rfl
@[simp] theorem State.emitOut_devs (s : State) (o : Out) :
    (s.emitOut o).devs = s.devs := rfl
@[simp] theorem State.emitOut_ports (s : State) (o : Out) :
    (s.emitOut o).ports = s.ports := rfl
@[simp] theorem State.emitOut_gangMask (s : State) (o : Out) :
    (s.emitOut o).gangMask = s.gangMask := rfl
@[simp] theorem State.emitOut_gangs (s : State) (o : Out) :
    (s.emitOut o).gangs = s.gangs := rfl
@[simp] theorem State.emitOut_deglitchUs (s : State) (o : Out) :
    (s.emitOut o).deglitchUs = s.deglitchUs := rfl
@[simp] theorem State.emitOut_devSel (s : State) (o : Out) :
    (s.emitOut o).devSel = s.devSel := rfl
@[simp] theorem State.emitOut_tts (s : State) (o : Out) :
    (s.emitOut o).tts = s.tts := rfl
@[simp] theorem State.emitOut_seals (s : State) (o : Out) :
    (s.emitOut o).seals = s.seals := rfl
@[simp] theorem State.emitOut_shared (s : State) (o : Out) :
    (s.emitOut o).shared = s.shared := rfl
@[simp] theorem State.emitOut_pfIrq (s : State) (o : Out) :
    (s.emitOut o).pfIrq = s.pfIrq := rfl
@[simp] theorem State.emitOut_pfHold (s : State) (o : Out) :
    (s.emitOut o).pfHold = s.pfHold := rfl
@[simp] theorem State.emitOut_power (s : State) (o : Out) :
    (s.emitOut o).power = s.power := rfl
@[simp] theorem State.emitOut_peat (s : State) (o : Out) :
    (s.emitOut o).peat = s.peat := rfl
@[simp] theorem State.emitOut_faults (s : State) (o : Out) :
    (s.emitOut o).faults = s.faults := rfl
@[simp] theorem State.emitOut_svc (s : State) (o : Out) :
    (s.emitOut o).svc = s.svc := rfl
@[simp] theorem State.emitOut_self (s : State) (o : Out) :
    (s.emitOut o).self = s.self := rfl
@[simp] theorem State.emitOut_tap (s : State) (o : Out) :
    (s.emitOut o).tap = s.tap := rfl
@[simp] theorem State.emitOut_out (s : State) (o : Out) :
    (s.emitOut o).out = o :: s.out := rfl
@[simp] theorem State.emitOut_resp (s : State) (o : Out) :
    (s.emitOut o).resp = s.resp := rfl
@[simp] theorem State.emitOut_free (s : State) (o : Out) :
    (s.emitOut o).free = s.free := rfl

@[simp] theorem State.addWork_pending (s : State) (w : Work) :
    (s.addWork w).pending = s.pending := rfl
@[simp] theorem State.addWork_pins (s : State) (w : Work) :
    (s.addWork w).pins = s.pins := rfl
@[simp] theorem State.addWork_fuses (s : State) (w : Work) :
    (s.addWork w).fuses = s.fuses := rfl
@[simp] theorem State.addWork_img (s : State) (w : Work) :
    (s.addWork w).img = s.img := rfl
@[simp] theorem State.addWork_pf (s : State) (w : Work) :
    (s.addWork w).pf = s.pf := rfl
@[simp] theorem State.addWork_link (s : State) (w : Work) :
    (s.addWork w).link = s.link := rfl
@[simp] theorem State.addWork_gblAccessErr (s : State) (w : Work) :
    (s.addWork w).gblAccessErr = s.gblAccessErr := rfl
@[simp] theorem State.addWork_vfRefused (s : State) (w : Work) :
    (s.addWork w).vfRefused = s.vfRefused := rfl
@[simp] theorem State.addWork_mgr (s : State) (w : Work) :
    (s.addWork w).mgr = s.mgr := rfl
@[simp] theorem State.addWork_time (s : State) (w : Work) :
    (s.addWork w).time = s.time := rfl
@[simp] theorem State.addWork_frames (s : State) (w : Work) :
    (s.addWork w).frames = s.frames := rfl
@[simp] theorem State.addWork_sched (s : State) (w : Work) :
    (s.addWork w).sched = { s.sched with work := s.sched.work ++ [w] } := rfl
@[simp] theorem State.addWork_trace (s : State) (w : Work) :
    (s.addWork w).trace = s.trace := rfl
@[simp] theorem State.addWork_sluice (s : State) (w : Work) :
    (s.addWork w).sluice = s.sluice := rfl
@[simp] theorem State.addWork_energy (s : State) (w : Work) :
    (s.addWork w).energy = s.energy := rfl
@[simp] theorem State.addWork_shadowBusy (s : State) (w : Work) :
    (s.addWork w).shadowBusy = s.shadowBusy := rfl
@[simp] theorem State.addWork_tenants (s : State) (w : Work) :
    (s.addWork w).tenants = s.tenants := rfl
@[simp] theorem State.addWork_flows (s : State) (w : Work) :
    (s.addWork w).flows = s.flows := rfl
@[simp] theorem State.addWork_devs (s : State) (w : Work) :
    (s.addWork w).devs = s.devs := rfl
@[simp] theorem State.addWork_ports (s : State) (w : Work) :
    (s.addWork w).ports = s.ports := rfl
@[simp] theorem State.addWork_gangMask (s : State) (w : Work) :
    (s.addWork w).gangMask = s.gangMask := rfl
@[simp] theorem State.addWork_gangs (s : State) (w : Work) :
    (s.addWork w).gangs = s.gangs := rfl
@[simp] theorem State.addWork_deglitchUs (s : State) (w : Work) :
    (s.addWork w).deglitchUs = s.deglitchUs := rfl
@[simp] theorem State.addWork_devSel (s : State) (w : Work) :
    (s.addWork w).devSel = s.devSel := rfl
@[simp] theorem State.addWork_tts (s : State) (w : Work) :
    (s.addWork w).tts = s.tts := rfl
@[simp] theorem State.addWork_seals (s : State) (w : Work) :
    (s.addWork w).seals = s.seals := rfl
@[simp] theorem State.addWork_shared (s : State) (w : Work) :
    (s.addWork w).shared = s.shared := rfl
@[simp] theorem State.addWork_pfIrq (s : State) (w : Work) :
    (s.addWork w).pfIrq = s.pfIrq := rfl
@[simp] theorem State.addWork_pfHold (s : State) (w : Work) :
    (s.addWork w).pfHold = s.pfHold := rfl
@[simp] theorem State.addWork_power (s : State) (w : Work) :
    (s.addWork w).power = s.power := rfl
@[simp] theorem State.addWork_peat (s : State) (w : Work) :
    (s.addWork w).peat = s.peat := rfl
@[simp] theorem State.addWork_faults (s : State) (w : Work) :
    (s.addWork w).faults = s.faults := rfl
@[simp] theorem State.addWork_svc (s : State) (w : Work) :
    (s.addWork w).svc = s.svc := rfl
@[simp] theorem State.addWork_self (s : State) (w : Work) :
    (s.addWork w).self = s.self := rfl
@[simp] theorem State.addWork_tap (s : State) (w : Work) :
    (s.addWork w).tap = s.tap := rfl
@[simp] theorem State.addWork_out (s : State) (w : Work) :
    (s.addWork w).out = s.out := rfl
@[simp] theorem State.addWork_resp (s : State) (w : Work) :
    (s.addWork w).resp = s.resp := rfl
@[simp] theorem State.addWork_free (s : State) (w : Work) :
    (s.addWork w).free = s.free := rfl

@[simp] theorem State.modCore_pending (s : State) (c : CoreId) (f : CoreSt → CoreSt) :
    (s.modCore c f).pending = s.pending := rfl
@[simp] theorem State.modCore_pins (s : State) (c : CoreId) (f : CoreSt → CoreSt) :
    (s.modCore c f).pins = s.pins := rfl
@[simp] theorem State.modCore_fuses (s : State) (c : CoreId) (f : CoreSt → CoreSt) :
    (s.modCore c f).fuses = s.fuses := rfl
@[simp] theorem State.modCore_img (s : State) (c : CoreId) (f : CoreSt → CoreSt) :
    (s.modCore c f).img = s.img := rfl
@[simp] theorem State.modCore_pf (s : State) (c : CoreId) (f : CoreSt → CoreSt) :
    (s.modCore c f).pf = s.pf := rfl
@[simp] theorem State.modCore_link (s : State) (c : CoreId) (f : CoreSt → CoreSt) :
    (s.modCore c f).link = s.link := rfl
@[simp] theorem State.modCore_gblAccessErr (s : State) (c : CoreId) (f : CoreSt → CoreSt) :
    (s.modCore c f).gblAccessErr = s.gblAccessErr := rfl
@[simp] theorem State.modCore_vfRefused (s : State) (c : CoreId) (f : CoreSt → CoreSt) :
    (s.modCore c f).vfRefused = s.vfRefused := rfl
@[simp] theorem State.modCore_mgr (s : State) (c : CoreId) (f : CoreSt → CoreSt) :
    (s.modCore c f).mgr = s.mgr := rfl
@[simp] theorem State.modCore_time (s : State) (c : CoreId) (f : CoreSt → CoreSt) :
    (s.modCore c f).time = s.time := rfl
@[simp] theorem State.modCore_frames (s : State) (c : CoreId) (f : CoreSt → CoreSt) :
    (s.modCore c f).frames = s.frames := rfl
@[simp] theorem State.modCore_sched (s : State) (c : CoreId) (f : CoreSt → CoreSt) :
    (s.modCore c f).sched = { s.sched with cores := vmod s.sched.cores c f } := rfl
@[simp] theorem State.modCore_trace (s : State) (c : CoreId) (f : CoreSt → CoreSt) :
    (s.modCore c f).trace = s.trace := rfl
@[simp] theorem State.modCore_sluice (s : State) (c : CoreId) (f : CoreSt → CoreSt) :
    (s.modCore c f).sluice = s.sluice := rfl
@[simp] theorem State.modCore_energy (s : State) (c : CoreId) (f : CoreSt → CoreSt) :
    (s.modCore c f).energy = s.energy := rfl
@[simp] theorem State.modCore_shadowBusy (s : State) (c : CoreId) (f : CoreSt → CoreSt) :
    (s.modCore c f).shadowBusy = s.shadowBusy := rfl
@[simp] theorem State.modCore_tenants (s : State) (c : CoreId) (f : CoreSt → CoreSt) :
    (s.modCore c f).tenants = s.tenants := rfl
@[simp] theorem State.modCore_flows (s : State) (c : CoreId) (f : CoreSt → CoreSt) :
    (s.modCore c f).flows = s.flows := rfl
@[simp] theorem State.modCore_devs (s : State) (c : CoreId) (f : CoreSt → CoreSt) :
    (s.modCore c f).devs = s.devs := rfl
@[simp] theorem State.modCore_ports (s : State) (c : CoreId) (f : CoreSt → CoreSt) :
    (s.modCore c f).ports = s.ports := rfl
@[simp] theorem State.modCore_gangMask (s : State) (c : CoreId) (f : CoreSt → CoreSt) :
    (s.modCore c f).gangMask = s.gangMask := rfl
@[simp] theorem State.modCore_gangs (s : State) (c : CoreId) (f : CoreSt → CoreSt) :
    (s.modCore c f).gangs = s.gangs := rfl
@[simp] theorem State.modCore_deglitchUs (s : State) (c : CoreId) (f : CoreSt → CoreSt) :
    (s.modCore c f).deglitchUs = s.deglitchUs := rfl
@[simp] theorem State.modCore_devSel (s : State) (c : CoreId) (f : CoreSt → CoreSt) :
    (s.modCore c f).devSel = s.devSel := rfl
@[simp] theorem State.modCore_tts (s : State) (c : CoreId) (f : CoreSt → CoreSt) :
    (s.modCore c f).tts = s.tts := rfl
@[simp] theorem State.modCore_seals (s : State) (c : CoreId) (f : CoreSt → CoreSt) :
    (s.modCore c f).seals = s.seals := rfl
@[simp] theorem State.modCore_shared (s : State) (c : CoreId) (f : CoreSt → CoreSt) :
    (s.modCore c f).shared = s.shared := rfl
@[simp] theorem State.modCore_pfIrq (s : State) (c : CoreId) (f : CoreSt → CoreSt) :
    (s.modCore c f).pfIrq = s.pfIrq := rfl
@[simp] theorem State.modCore_pfHold (s : State) (c : CoreId) (f : CoreSt → CoreSt) :
    (s.modCore c f).pfHold = s.pfHold := rfl
@[simp] theorem State.modCore_power (s : State) (c : CoreId) (f : CoreSt → CoreSt) :
    (s.modCore c f).power = s.power := rfl
@[simp] theorem State.modCore_peat (s : State) (c : CoreId) (f : CoreSt → CoreSt) :
    (s.modCore c f).peat = s.peat := rfl
@[simp] theorem State.modCore_faults (s : State) (c : CoreId) (f : CoreSt → CoreSt) :
    (s.modCore c f).faults = s.faults := rfl
@[simp] theorem State.modCore_svc (s : State) (c : CoreId) (f : CoreSt → CoreSt) :
    (s.modCore c f).svc = s.svc := rfl
@[simp] theorem State.modCore_self (s : State) (c : CoreId) (f : CoreSt → CoreSt) :
    (s.modCore c f).self = s.self := rfl
@[simp] theorem State.modCore_tap (s : State) (c : CoreId) (f : CoreSt → CoreSt) :
    (s.modCore c f).tap = s.tap := rfl
@[simp] theorem State.modCore_out (s : State) (c : CoreId) (f : CoreSt → CoreSt) :
    (s.modCore c f).out = s.out := rfl
@[simp] theorem State.modCore_resp (s : State) (c : CoreId) (f : CoreSt → CoreSt) :
    (s.modCore c f).resp = s.resp := rfl
@[simp] theorem State.modCore_free (s : State) (c : CoreId) (f : CoreSt → CoreSt) :
    (s.modCore c f).free = s.free := rfl

@[simp] theorem State.modWorker_pending (s : State) (w : WorkerId) (f : Worker → Worker) :
    (s.modWorker w f).pending = s.pending := rfl
@[simp] theorem State.modWorker_pins (s : State) (w : WorkerId) (f : Worker → Worker) :
    (s.modWorker w f).pins = s.pins := rfl
@[simp] theorem State.modWorker_fuses (s : State) (w : WorkerId) (f : Worker → Worker) :
    (s.modWorker w f).fuses = s.fuses := rfl
@[simp] theorem State.modWorker_img (s : State) (w : WorkerId) (f : Worker → Worker) :
    (s.modWorker w f).img = s.img := rfl
@[simp] theorem State.modWorker_pf (s : State) (w : WorkerId) (f : Worker → Worker) :
    (s.modWorker w f).pf = s.pf := rfl
@[simp] theorem State.modWorker_link (s : State) (w : WorkerId) (f : Worker → Worker) :
    (s.modWorker w f).link = s.link := rfl
@[simp] theorem State.modWorker_gblAccessErr (s : State) (w : WorkerId) (f : Worker → Worker) :
    (s.modWorker w f).gblAccessErr = s.gblAccessErr := rfl
@[simp] theorem State.modWorker_vfRefused (s : State) (w : WorkerId) (f : Worker → Worker) :
    (s.modWorker w f).vfRefused = s.vfRefused := rfl
@[simp] theorem State.modWorker_mgr (s : State) (w : WorkerId) (f : Worker → Worker) :
    (s.modWorker w f).mgr = s.mgr := rfl
@[simp] theorem State.modWorker_time (s : State) (w : WorkerId) (f : Worker → Worker) :
    (s.modWorker w f).time = s.time := rfl
@[simp] theorem State.modWorker_frames (s : State) (w : WorkerId) (f : Worker → Worker) :
    (s.modWorker w f).frames = s.frames := rfl
@[simp] theorem State.modWorker_sched (s : State) (w : WorkerId) (f : Worker → Worker) :
    (s.modWorker w f).sched = { s.sched with workers := vmod s.sched.workers w f } := rfl
@[simp] theorem State.modWorker_trace (s : State) (w : WorkerId) (f : Worker → Worker) :
    (s.modWorker w f).trace = s.trace := rfl
@[simp] theorem State.modWorker_sluice (s : State) (w : WorkerId) (f : Worker → Worker) :
    (s.modWorker w f).sluice = s.sluice := rfl
@[simp] theorem State.modWorker_energy (s : State) (w : WorkerId) (f : Worker → Worker) :
    (s.modWorker w f).energy = s.energy := rfl
@[simp] theorem State.modWorker_shadowBusy (s : State) (w : WorkerId) (f : Worker → Worker) :
    (s.modWorker w f).shadowBusy = s.shadowBusy := rfl
@[simp] theorem State.modWorker_tenants (s : State) (w : WorkerId) (f : Worker → Worker) :
    (s.modWorker w f).tenants = s.tenants := rfl
@[simp] theorem State.modWorker_flows (s : State) (w : WorkerId) (f : Worker → Worker) :
    (s.modWorker w f).flows = s.flows := rfl
@[simp] theorem State.modWorker_devs (s : State) (w : WorkerId) (f : Worker → Worker) :
    (s.modWorker w f).devs = s.devs := rfl
@[simp] theorem State.modWorker_ports (s : State) (w : WorkerId) (f : Worker → Worker) :
    (s.modWorker w f).ports = s.ports := rfl
@[simp] theorem State.modWorker_gangMask (s : State) (w : WorkerId) (f : Worker → Worker) :
    (s.modWorker w f).gangMask = s.gangMask := rfl
@[simp] theorem State.modWorker_gangs (s : State) (w : WorkerId) (f : Worker → Worker) :
    (s.modWorker w f).gangs = s.gangs := rfl
@[simp] theorem State.modWorker_deglitchUs (s : State) (w : WorkerId) (f : Worker → Worker) :
    (s.modWorker w f).deglitchUs = s.deglitchUs := rfl
@[simp] theorem State.modWorker_devSel (s : State) (w : WorkerId) (f : Worker → Worker) :
    (s.modWorker w f).devSel = s.devSel := rfl
@[simp] theorem State.modWorker_tts (s : State) (w : WorkerId) (f : Worker → Worker) :
    (s.modWorker w f).tts = s.tts := rfl
@[simp] theorem State.modWorker_seals (s : State) (w : WorkerId) (f : Worker → Worker) :
    (s.modWorker w f).seals = s.seals := rfl
@[simp] theorem State.modWorker_shared (s : State) (w : WorkerId) (f : Worker → Worker) :
    (s.modWorker w f).shared = s.shared := rfl
@[simp] theorem State.modWorker_pfIrq (s : State) (w : WorkerId) (f : Worker → Worker) :
    (s.modWorker w f).pfIrq = s.pfIrq := rfl
@[simp] theorem State.modWorker_pfHold (s : State) (w : WorkerId) (f : Worker → Worker) :
    (s.modWorker w f).pfHold = s.pfHold := rfl
@[simp] theorem State.modWorker_power (s : State) (w : WorkerId) (f : Worker → Worker) :
    (s.modWorker w f).power = s.power := rfl
@[simp] theorem State.modWorker_peat (s : State) (w : WorkerId) (f : Worker → Worker) :
    (s.modWorker w f).peat = s.peat := rfl
@[simp] theorem State.modWorker_faults (s : State) (w : WorkerId) (f : Worker → Worker) :
    (s.modWorker w f).faults = s.faults := rfl
@[simp] theorem State.modWorker_svc (s : State) (w : WorkerId) (f : Worker → Worker) :
    (s.modWorker w f).svc = s.svc := rfl
@[simp] theorem State.modWorker_self (s : State) (w : WorkerId) (f : Worker → Worker) :
    (s.modWorker w f).self = s.self := rfl
@[simp] theorem State.modWorker_tap (s : State) (w : WorkerId) (f : Worker → Worker) :
    (s.modWorker w f).tap = s.tap := rfl
@[simp] theorem State.modWorker_out (s : State) (w : WorkerId) (f : Worker → Worker) :
    (s.modWorker w f).out = s.out := rfl
@[simp] theorem State.modWorker_resp (s : State) (w : WorkerId) (f : Worker → Worker) :
    (s.modWorker w f).resp = s.resp := rfl
@[simp] theorem State.modWorker_free (s : State) (w : WorkerId) (f : Worker → Worker) :
    (s.modWorker w f).free = s.free := rfl

@[simp] theorem State.modFlow_pending (s : State) (t : TenantId) (h : Fin 1024) (g : Flow → Flow) :
    (s.modFlow t h g).pending = s.pending := rfl
@[simp] theorem State.modFlow_pins (s : State) (t : TenantId) (h : Fin 1024) (g : Flow → Flow) :
    (s.modFlow t h g).pins = s.pins := rfl
@[simp] theorem State.modFlow_fuses (s : State) (t : TenantId) (h : Fin 1024) (g : Flow → Flow) :
    (s.modFlow t h g).fuses = s.fuses := rfl
@[simp] theorem State.modFlow_img (s : State) (t : TenantId) (h : Fin 1024) (g : Flow → Flow) :
    (s.modFlow t h g).img = s.img := rfl
@[simp] theorem State.modFlow_pf (s : State) (t : TenantId) (h : Fin 1024) (g : Flow → Flow) :
    (s.modFlow t h g).pf = s.pf := rfl
@[simp] theorem State.modFlow_link (s : State) (t : TenantId) (h : Fin 1024) (g : Flow → Flow) :
    (s.modFlow t h g).link = s.link := rfl
@[simp] theorem State.modFlow_gblAccessErr (s : State) (t : TenantId) (h : Fin 1024) (g : Flow → Flow) :
    (s.modFlow t h g).gblAccessErr = s.gblAccessErr := rfl
@[simp] theorem State.modFlow_vfRefused (s : State) (t : TenantId) (h : Fin 1024) (g : Flow → Flow) :
    (s.modFlow t h g).vfRefused = s.vfRefused := rfl
@[simp] theorem State.modFlow_mgr (s : State) (t : TenantId) (h : Fin 1024) (g : Flow → Flow) :
    (s.modFlow t h g).mgr = s.mgr := rfl
@[simp] theorem State.modFlow_time (s : State) (t : TenantId) (h : Fin 1024) (g : Flow → Flow) :
    (s.modFlow t h g).time = s.time := rfl
@[simp] theorem State.modFlow_frames (s : State) (t : TenantId) (h : Fin 1024) (g : Flow → Flow) :
    (s.modFlow t h g).frames = s.frames := rfl
@[simp] theorem State.modFlow_sched (s : State) (t : TenantId) (h : Fin 1024) (g : Flow → Flow) :
    (s.modFlow t h g).sched = s.sched := rfl
@[simp] theorem State.modFlow_trace (s : State) (t : TenantId) (h : Fin 1024) (g : Flow → Flow) :
    (s.modFlow t h g).trace = s.trace := rfl
@[simp] theorem State.modFlow_sluice (s : State) (t : TenantId) (h : Fin 1024) (g : Flow → Flow) :
    (s.modFlow t h g).sluice = s.sluice := rfl
@[simp] theorem State.modFlow_energy (s : State) (t : TenantId) (h : Fin 1024) (g : Flow → Flow) :
    (s.modFlow t h g).energy = s.energy := rfl
@[simp] theorem State.modFlow_shadowBusy (s : State) (t : TenantId) (h : Fin 1024) (g : Flow → Flow) :
    (s.modFlow t h g).shadowBusy = s.shadowBusy := rfl
@[simp] theorem State.modFlow_tenants (s : State) (t : TenantId) (h : Fin 1024) (g : Flow → Flow) :
    (s.modFlow t h g).tenants = s.tenants := rfl
@[simp] theorem State.modFlow_flows (s : State) (t : TenantId) (h : Fin 1024) (g : Flow → Flow) :
    (s.modFlow t h g).flows = s.flows.map (fun f => if f.t = t && f.h = h then g f else f) := rfl
@[simp] theorem State.modFlow_devs (s : State) (t : TenantId) (h : Fin 1024) (g : Flow → Flow) :
    (s.modFlow t h g).devs = s.devs := rfl
@[simp] theorem State.modFlow_ports (s : State) (t : TenantId) (h : Fin 1024) (g : Flow → Flow) :
    (s.modFlow t h g).ports = s.ports := rfl
@[simp] theorem State.modFlow_gangMask (s : State) (t : TenantId) (h : Fin 1024) (g : Flow → Flow) :
    (s.modFlow t h g).gangMask = s.gangMask := rfl
@[simp] theorem State.modFlow_gangs (s : State) (t : TenantId) (h : Fin 1024) (g : Flow → Flow) :
    (s.modFlow t h g).gangs = s.gangs := rfl
@[simp] theorem State.modFlow_deglitchUs (s : State) (t : TenantId) (h : Fin 1024) (g : Flow → Flow) :
    (s.modFlow t h g).deglitchUs = s.deglitchUs := rfl
@[simp] theorem State.modFlow_devSel (s : State) (t : TenantId) (h : Fin 1024) (g : Flow → Flow) :
    (s.modFlow t h g).devSel = s.devSel := rfl
@[simp] theorem State.modFlow_tts (s : State) (t : TenantId) (h : Fin 1024) (g : Flow → Flow) :
    (s.modFlow t h g).tts = s.tts := rfl
@[simp] theorem State.modFlow_seals (s : State) (t : TenantId) (h : Fin 1024) (g : Flow → Flow) :
    (s.modFlow t h g).seals = s.seals := rfl
@[simp] theorem State.modFlow_shared (s : State) (t : TenantId) (h : Fin 1024) (g : Flow → Flow) :
    (s.modFlow t h g).shared = s.shared := rfl
@[simp] theorem State.modFlow_pfIrq (s : State) (t : TenantId) (h : Fin 1024) (g : Flow → Flow) :
    (s.modFlow t h g).pfIrq = s.pfIrq := rfl
@[simp] theorem State.modFlow_pfHold (s : State) (t : TenantId) (h : Fin 1024) (g : Flow → Flow) :
    (s.modFlow t h g).pfHold = s.pfHold := rfl
@[simp] theorem State.modFlow_power (s : State) (t : TenantId) (h : Fin 1024) (g : Flow → Flow) :
    (s.modFlow t h g).power = s.power := rfl
@[simp] theorem State.modFlow_peat (s : State) (t : TenantId) (h : Fin 1024) (g : Flow → Flow) :
    (s.modFlow t h g).peat = s.peat := rfl
@[simp] theorem State.modFlow_faults (s : State) (t : TenantId) (h : Fin 1024) (g : Flow → Flow) :
    (s.modFlow t h g).faults = s.faults := rfl
@[simp] theorem State.modFlow_svc (s : State) (t : TenantId) (h : Fin 1024) (g : Flow → Flow) :
    (s.modFlow t h g).svc = s.svc := rfl
@[simp] theorem State.modFlow_self (s : State) (t : TenantId) (h : Fin 1024) (g : Flow → Flow) :
    (s.modFlow t h g).self = s.self := rfl
@[simp] theorem State.modFlow_tap (s : State) (t : TenantId) (h : Fin 1024) (g : Flow → Flow) :
    (s.modFlow t h g).tap = s.tap := rfl
@[simp] theorem State.modFlow_out (s : State) (t : TenantId) (h : Fin 1024) (g : Flow → Flow) :
    (s.modFlow t h g).out = s.out := rfl
@[simp] theorem State.modFlow_resp (s : State) (t : TenantId) (h : Fin 1024) (g : Flow → Flow) :
    (s.modFlow t h g).resp = s.resp := rfl
@[simp] theorem State.modFlow_free (s : State) (t : TenantId) (h : Fin 1024) (g : Flow → Flow) :
    (s.modFlow t h g).free = s.free := rfl

@[simp] theorem State.modDev_pending (s : State) (d : DevId) (g : Dev → Dev) :
    (s.modDev d g).pending = s.pending := rfl
@[simp] theorem State.modDev_pins (s : State) (d : DevId) (g : Dev → Dev) :
    (s.modDev d g).pins = s.pins := rfl
@[simp] theorem State.modDev_fuses (s : State) (d : DevId) (g : Dev → Dev) :
    (s.modDev d g).fuses = s.fuses := rfl
@[simp] theorem State.modDev_img (s : State) (d : DevId) (g : Dev → Dev) :
    (s.modDev d g).img = s.img := rfl
@[simp] theorem State.modDev_pf (s : State) (d : DevId) (g : Dev → Dev) :
    (s.modDev d g).pf = s.pf := rfl
@[simp] theorem State.modDev_link (s : State) (d : DevId) (g : Dev → Dev) :
    (s.modDev d g).link = s.link := rfl
@[simp] theorem State.modDev_gblAccessErr (s : State) (d : DevId) (g : Dev → Dev) :
    (s.modDev d g).gblAccessErr = s.gblAccessErr := rfl
@[simp] theorem State.modDev_vfRefused (s : State) (d : DevId) (g : Dev → Dev) :
    (s.modDev d g).vfRefused = s.vfRefused := rfl
@[simp] theorem State.modDev_mgr (s : State) (d : DevId) (g : Dev → Dev) :
    (s.modDev d g).mgr = s.mgr := rfl
@[simp] theorem State.modDev_time (s : State) (d : DevId) (g : Dev → Dev) :
    (s.modDev d g).time = s.time := rfl
@[simp] theorem State.modDev_frames (s : State) (d : DevId) (g : Dev → Dev) :
    (s.modDev d g).frames = s.frames := rfl
@[simp] theorem State.modDev_sched (s : State) (d : DevId) (g : Dev → Dev) :
    (s.modDev d g).sched = s.sched := rfl
@[simp] theorem State.modDev_trace (s : State) (d : DevId) (g : Dev → Dev) :
    (s.modDev d g).trace = s.trace := rfl
@[simp] theorem State.modDev_sluice (s : State) (d : DevId) (g : Dev → Dev) :
    (s.modDev d g).sluice = s.sluice := rfl
@[simp] theorem State.modDev_energy (s : State) (d : DevId) (g : Dev → Dev) :
    (s.modDev d g).energy = s.energy := rfl
@[simp] theorem State.modDev_shadowBusy (s : State) (d : DevId) (g : Dev → Dev) :
    (s.modDev d g).shadowBusy = s.shadowBusy := rfl
@[simp] theorem State.modDev_tenants (s : State) (d : DevId) (g : Dev → Dev) :
    (s.modDev d g).tenants = s.tenants := rfl
@[simp] theorem State.modDev_flows (s : State) (d : DevId) (g : Dev → Dev) :
    (s.modDev d g).flows = s.flows := rfl
@[simp] theorem State.modDev_devs (s : State) (d : DevId) (g : Dev → Dev) :
    (s.modDev d g).devs = s.devs.map (fun x => if x.id = d then g x else x) := rfl
@[simp] theorem State.modDev_ports (s : State) (d : DevId) (g : Dev → Dev) :
    (s.modDev d g).ports = s.ports := rfl
@[simp] theorem State.modDev_gangMask (s : State) (d : DevId) (g : Dev → Dev) :
    (s.modDev d g).gangMask = s.gangMask := rfl
@[simp] theorem State.modDev_gangs (s : State) (d : DevId) (g : Dev → Dev) :
    (s.modDev d g).gangs = s.gangs := rfl
@[simp] theorem State.modDev_deglitchUs (s : State) (d : DevId) (g : Dev → Dev) :
    (s.modDev d g).deglitchUs = s.deglitchUs := rfl
@[simp] theorem State.modDev_devSel (s : State) (d : DevId) (g : Dev → Dev) :
    (s.modDev d g).devSel = s.devSel := rfl
@[simp] theorem State.modDev_tts (s : State) (d : DevId) (g : Dev → Dev) :
    (s.modDev d g).tts = s.tts := rfl
@[simp] theorem State.modDev_seals (s : State) (d : DevId) (g : Dev → Dev) :
    (s.modDev d g).seals = s.seals := rfl
@[simp] theorem State.modDev_shared (s : State) (d : DevId) (g : Dev → Dev) :
    (s.modDev d g).shared = s.shared := rfl
@[simp] theorem State.modDev_pfIrq (s : State) (d : DevId) (g : Dev → Dev) :
    (s.modDev d g).pfIrq = s.pfIrq := rfl
@[simp] theorem State.modDev_pfHold (s : State) (d : DevId) (g : Dev → Dev) :
    (s.modDev d g).pfHold = s.pfHold := rfl
@[simp] theorem State.modDev_power (s : State) (d : DevId) (g : Dev → Dev) :
    (s.modDev d g).power = s.power := rfl
@[simp] theorem State.modDev_peat (s : State) (d : DevId) (g : Dev → Dev) :
    (s.modDev d g).peat = s.peat := rfl
@[simp] theorem State.modDev_faults (s : State) (d : DevId) (g : Dev → Dev) :
    (s.modDev d g).faults = s.faults := rfl
@[simp] theorem State.modDev_svc (s : State) (d : DevId) (g : Dev → Dev) :
    (s.modDev d g).svc = s.svc := rfl
@[simp] theorem State.modDev_self (s : State) (d : DevId) (g : Dev → Dev) :
    (s.modDev d g).self = s.self := rfl
@[simp] theorem State.modDev_tap (s : State) (d : DevId) (g : Dev → Dev) :
    (s.modDev d g).tap = s.tap := rfl
@[simp] theorem State.modDev_out (s : State) (d : DevId) (g : Dev → Dev) :
    (s.modDev d g).out = s.out := rfl
@[simp] theorem State.modDev_resp (s : State) (d : DevId) (g : Dev → Dev) :
    (s.modDev d g).resp = s.resp := rfl
@[simp] theorem State.modDev_free (s : State) (d : DevId) (g : Dev → Dev) :
    (s.modDev d g).free = s.free := rfl

@[simp] theorem State.modPort_pending (s : State) (p : PortId) (g : Port → Port) :
    (s.modPort p g).pending = s.pending := rfl
@[simp] theorem State.modPort_pins (s : State) (p : PortId) (g : Port → Port) :
    (s.modPort p g).pins = s.pins := rfl
@[simp] theorem State.modPort_fuses (s : State) (p : PortId) (g : Port → Port) :
    (s.modPort p g).fuses = s.fuses := rfl
@[simp] theorem State.modPort_img (s : State) (p : PortId) (g : Port → Port) :
    (s.modPort p g).img = s.img := rfl
@[simp] theorem State.modPort_pf (s : State) (p : PortId) (g : Port → Port) :
    (s.modPort p g).pf = s.pf := rfl
@[simp] theorem State.modPort_link (s : State) (p : PortId) (g : Port → Port) :
    (s.modPort p g).link = s.link := rfl
@[simp] theorem State.modPort_gblAccessErr (s : State) (p : PortId) (g : Port → Port) :
    (s.modPort p g).gblAccessErr = s.gblAccessErr := rfl
@[simp] theorem State.modPort_vfRefused (s : State) (p : PortId) (g : Port → Port) :
    (s.modPort p g).vfRefused = s.vfRefused := rfl
@[simp] theorem State.modPort_mgr (s : State) (p : PortId) (g : Port → Port) :
    (s.modPort p g).mgr = s.mgr := rfl
@[simp] theorem State.modPort_time (s : State) (p : PortId) (g : Port → Port) :
    (s.modPort p g).time = s.time := rfl
@[simp] theorem State.modPort_frames (s : State) (p : PortId) (g : Port → Port) :
    (s.modPort p g).frames = s.frames := rfl
@[simp] theorem State.modPort_sched (s : State) (p : PortId) (g : Port → Port) :
    (s.modPort p g).sched = s.sched := rfl
@[simp] theorem State.modPort_trace (s : State) (p : PortId) (g : Port → Port) :
    (s.modPort p g).trace = s.trace := rfl
@[simp] theorem State.modPort_sluice (s : State) (p : PortId) (g : Port → Port) :
    (s.modPort p g).sluice = s.sluice := rfl
@[simp] theorem State.modPort_energy (s : State) (p : PortId) (g : Port → Port) :
    (s.modPort p g).energy = s.energy := rfl
@[simp] theorem State.modPort_shadowBusy (s : State) (p : PortId) (g : Port → Port) :
    (s.modPort p g).shadowBusy = s.shadowBusy := rfl
@[simp] theorem State.modPort_tenants (s : State) (p : PortId) (g : Port → Port) :
    (s.modPort p g).tenants = s.tenants := rfl
@[simp] theorem State.modPort_flows (s : State) (p : PortId) (g : Port → Port) :
    (s.modPort p g).flows = s.flows := rfl
@[simp] theorem State.modPort_devs (s : State) (p : PortId) (g : Port → Port) :
    (s.modPort p g).devs = s.devs := rfl
@[simp] theorem State.modPort_ports (s : State) (p : PortId) (g : Port → Port) :
    (s.modPort p g).ports = vmod s.ports p g := rfl
@[simp] theorem State.modPort_gangMask (s : State) (p : PortId) (g : Port → Port) :
    (s.modPort p g).gangMask = s.gangMask := rfl
@[simp] theorem State.modPort_gangs (s : State) (p : PortId) (g : Port → Port) :
    (s.modPort p g).gangs = s.gangs := rfl
@[simp] theorem State.modPort_deglitchUs (s : State) (p : PortId) (g : Port → Port) :
    (s.modPort p g).deglitchUs = s.deglitchUs := rfl
@[simp] theorem State.modPort_devSel (s : State) (p : PortId) (g : Port → Port) :
    (s.modPort p g).devSel = s.devSel := rfl
@[simp] theorem State.modPort_tts (s : State) (p : PortId) (g : Port → Port) :
    (s.modPort p g).tts = s.tts := rfl
@[simp] theorem State.modPort_seals (s : State) (p : PortId) (g : Port → Port) :
    (s.modPort p g).seals = s.seals := rfl
@[simp] theorem State.modPort_shared (s : State) (p : PortId) (g : Port → Port) :
    (s.modPort p g).shared = s.shared := rfl
@[simp] theorem State.modPort_pfIrq (s : State) (p : PortId) (g : Port → Port) :
    (s.modPort p g).pfIrq = s.pfIrq := rfl
@[simp] theorem State.modPort_pfHold (s : State) (p : PortId) (g : Port → Port) :
    (s.modPort p g).pfHold = s.pfHold := rfl
@[simp] theorem State.modPort_power (s : State) (p : PortId) (g : Port → Port) :
    (s.modPort p g).power = s.power := rfl
@[simp] theorem State.modPort_peat (s : State) (p : PortId) (g : Port → Port) :
    (s.modPort p g).peat = s.peat := rfl
@[simp] theorem State.modPort_faults (s : State) (p : PortId) (g : Port → Port) :
    (s.modPort p g).faults = s.faults := rfl
@[simp] theorem State.modPort_svc (s : State) (p : PortId) (g : Port → Port) :
    (s.modPort p g).svc = s.svc := rfl
@[simp] theorem State.modPort_self (s : State) (p : PortId) (g : Port → Port) :
    (s.modPort p g).self = s.self := rfl
@[simp] theorem State.modPort_tap (s : State) (p : PortId) (g : Port → Port) :
    (s.modPort p g).tap = s.tap := rfl
@[simp] theorem State.modPort_out (s : State) (p : PortId) (g : Port → Port) :
    (s.modPort p g).out = s.out := rfl
@[simp] theorem State.modPort_resp (s : State) (p : PortId) (g : Port → Port) :
    (s.modPort p g).resp = s.resp := rfl
@[simp] theorem State.modPort_free (s : State) (p : PortId) (g : Port → Port) :
    (s.modPort p g).free = s.free := rfl

/-! ### Lookups -/

@[simp] theorem State.tenant_modTenant (s : State) (t : TenantId) (f : Tenant → Tenant) : (s.modTenant t f).tenant t = f (s.tenant t) := by
  simp [State.tenant]

theorem State.tenant_modTenant_ne {s : State} {t u : TenantId} {f : Tenant → Tenant} (h : t ≠ u) :
    (s.modTenant t f).tenant u = s.tenant u := by
  simp [State.tenant, vget_vmod_ne h]

@[simp] theorem State.rings_modRings (s : State) (f : Fn) (g : Rings → Rings) : (s.modRings f g).rings f = g (s.rings f) := by
  cases f <;> simp [State.modRings, State.rings]

theorem State.rings_modRings_ne {s : State} {f k : Fn} {g : Rings → Rings} (h : f ≠ k) : (s.modRings f g).rings k = s.rings k := by
  cases f <;> cases k <;> first | exact absurd rfl h | rfl | skip
  exact congrArg Tenant.rings (State.tenant_modTenant_ne (fun e => h (e ▸ rfl)))

@[simp] theorem State.fn_modFn (s : State) (f : Fn) (g : PciFn → PciFn) : (s.modFn f g).fn f = g (s.fn f) := by
  cases f <;> simp [State.modFn, State.fn]

/-- A flow that an update keeps under its name is found with the update. -/
theorem State.flow?_modFlow {s : State} {t : TenantId} {h : Fin 1024} {g : Flow → Flow} {f : Flow} (k : s.flow? t h = some f)
    (i : ∀ x : Flow, (g x).t = x.t ∧ (g x).h = x.h) : (s.modFlow t h g).flow? t h = some (g f) := by
  have e : ∀ x : Flow, (decide ((g x).t = t) && decide ((g x).h = h)) = (decide (x.t = t) && decide (x.h = h)) := fun x => by
    rw [(i x).1, (i x).2]
  have w : ((fun x : Flow => decide (x.t = t) && decide (x.h = h)) ∘
      (fun x : Flow => if (decide (x.t = t) && decide (x.h = h)) = true then g x else x)) =
      (fun x : Flow => decide (x.t = t) && decide (x.h = h)) := by
    funext x
    dsimp only [Function.comp]
    split
    · rw [e]
    · rfl
  unfold State.flow? at k ⊢
  rw [State.modFlow_flows, List.find?_map, w, k]
  exact congrArg some (if_pos (by simpa using List.find?_some k))

theorem mapFirst_find {l : List Order} {k : Nat} {g : Order → Order} {o : Order} (h : l.find? (fun o => decide (o.k = k)) = some o)
    (i : ∀ x : Order, (g x).k = x.k) : (mapFirst k g l).find? (fun o => decide (o.k = k)) = some (g o) := by
  induction l with
  | nil => cases h
  | cons x l ih =>
    rw [List.find?_cons] at h
    by_cases e : x.k = k
    · simp only [e, decide_true] at h
      cases h
      simp [mapFirst, e, i]
    · simp only [e, decide_false] at h
      simp only [mapFirst, e, if_false, List.find?_cons, decide_false]
      exact ih h

/-- An order that an update keeps at its ring index is found with the update. -/
theorem State.order?_modOrder {s : State} {f : Fn} {k : Nat} {g : Order → Order} {o : Order} (h : s.order? f k = some o)
    (i : ∀ x : Order, (g x).k = x.k) : (s.modOrder f k g).order? f k = some (g o) := by
  unfold State.order? State.modOrder at *
  rw [State.rings_modRings]
  exact mapFirst_find h i

/-- The action of the order that a row names runs on it. -/
theorem State.withOrder_run {s : State} {f : Fn} {k code : Nat} {act : Order → State} {o : Order} (h : s.order? f k = some o)
    (c : o.code = code) (a : o.stage = .acting) (e : s.orderFree f o = true) : s.withOrder f k code act = act o := by
  simp [State.withOrder, h, c, a, e]

/-- A running order ends with its completion. -/
theorem State.endOrder_of {s : State} {f : Fn} {k target bytes detail : Nat} {st : Status} {o : Order} (h : s.order? f k = some o)
    (g : o.ghost = false) (a : o.stage = .acting ∨ o.stage = .waiting) :
    s.endOrder f k st target bytes detail =
      s.modOrder f k (fun o => { o with stage := .ended, ev := o.doneEv st target bytes detail }) := by
  unfold State.endOrder State.endOrderEv
  rcases a with a | a <;> simp [h, g, a]

/-- An item's core slot is empty after it ends. -/
theorem State.endItem_core {s : State} {c : CoreId} {code : ItemCode} {b : Bool} : (vget (s.endItem c code b).sched.cores c).op = none := by
  have w : ∀ (x : State) a b c d e f g, (x.traceRec a b c d e f g).sched = x.sched := fun x a b c d e f g => by
    unfold State.traceRec
    dsimp only
    repeat' first
      | rfl
      | split
  unfold State.endItem
  dsimp only
  rw [w, State.modCore_sched]
  simp

/-- A completion with space goes to the ring's next event, else to the retire buffer (08 R222, R223). -/
theorem State.complete_rings {s : State} {f : Fn} {e : Ev} : (s.complete f e).rings f =
    if (s.rings f).again.isEmpty && (s.rings f).buf.isEmpty && (s.rings f).en && (s.rings f).hasFree then (s.rings f).give e
    else { s.rings f with buf := (s.rings f).buf ++ [e] } := by
  unfold State.complete
  dsimp only
  split
  · exact State.rings_modRings _ _ _
  · exact State.rings_modRings _ _ _

/-- A posted write of a function that may send, with nothing held before it, leaves at once (04 R77, R417). -/
theorem State.postWrite_sent {s : State} {f : Fn} {p : Post} (d : s.dropped f = false) (c : s.canSend f = true)
    (h : (s.fn f).held.isEmpty = true) : s.postWrite f p = s.sendPost f p := by
  simp [State.postWrite, d, c, h]

/-- A write that a function may not send now waits behind the earlier ones. -/
theorem State.postWrite_held {s : State} {f : Fn} {p : Post} (d : s.dropped f = false) (c : s.canSend f = false) :
    ((s.postWrite f p).fn f).held = (s.fn f).held ++ [p] := by
  simp [State.postWrite, d, c]

end Sys2Proof.Machine
end

