-- ==== Sys2Proof/Safety.lean ====
section
/-! DEFINITION. What a safe run is: every step answers a next state. No command of this block stops it (00 R6). -/

namespace Sys2Proof.Safety
open Sys2Proof.Machine

/-- The step from this state answers a next state. -/
def safeStep (s : State) : Prop := ∃ t, step s = .next t

/-- k steps from this state answer next states. -/
def safeRun (k : Nat) (s : State) : Prop := ∃ t, Sys2Proof.core.run k s = .next t

end Sys2Proof.Safety
end

