-- ==== Sys2Proof/WellFormed.lean ====
section
/-! DEFINITION. Which command terms something outside the block can send: operands that the spec's own ranges bound but
whose types are wider. A meaning is total on every term; these checks say which terms stand for a real command. -/

namespace Sys2Proof.WellFormed
open Sys2Proof.Machine

/-- A device position: at most five hub ports below the root port, each 1 to 15 (06 R137). -/
def devId (d : DevId) : Bool := d.path.length ≤ 5 && d.path.all (fun p => 1 ≤ p && p ≤ 15)

/-- An interrupt source number of an owner: VF banks have 32 sources, the PF bank 64 (12 Table 12.1). -/
def irqNumber : Fn → Fin 64 → Bool
  | .pf0, _ => true
  | .vf _, n => n.val < 32

/-- A 32-bit write carries 32 bits. -/
def access : WrAcc → Word → Bool
  | .low, v => v.toNat < 2 ^ 32
  | .high, v => v.toNat < 2 ^ 32
  | _, _ => true

/-- A configuration request names a dword of the 4 KiB configuration space. -/
def cfgReq : CfgReq → Bool
  | .read off => off % 4 = 0 && off < 4096
  | .write off _ => off % 4 = 0 && off < 4096

/-- An MSI-X write lies in BAR2, 16 KiB, and carries 1 to 8 bytes. -/
def msixAccess (off size : Nat) : Bool := off + size ≤ 16384 && 1 ≤ size && size ≤ 8

/-- An over-current unit names a device position. -/
def ocRef : OcRef → Bool
  | .root _ => true
  | .hub d p => devId d && 1 ≤ p && p ≤ 15

/-- What a host read for a FETCH returned: one to eight descriptors of eight words. -/
def fetched : Option (List (List Word)) → Bool
  | none => true
  | some l => 1 ≤ l.length && l.length ≤ 8 && l.all (fun d => d.length = 8)

/-- A request that crosses a culvert is one that its row can send. -/
def culvertReq : CulvertReq → Bool
  | .access (.write _ off a v) => access a v && off < 2 ^ 24
  | .access (.read _ off _) => off < 2 ^ 24
  | .config _ r => cfgReq r
  | .tableWrite _ off size _ => msixAccess off size
  | .tableRead _ off size => off + size ≤ 16384
  | .slot _ => true
  | .other _ => true

/-- The boundary register has 412 cells (16 Table 16.4). -/
def boundary (l : List Bool) : Bool := l.length = 412

/-- The four sensors are read together (09 R259). -/
def sensors (r : List (BitVec 8)) : Bool := r.length = 4

end Sys2Proof.WellFormed

namespace Sys2Proof
open Sys2Proof.Machine Sys2Proof.WellFormed

/-- The command is one that something outside the block can send. -/
def Instr.wf : Instr → Bool
  | .configRequest _ r => cfgReq r
  | .msixTableWrite _ off size _ => msixAccess off size
  | .overCurrentTrip r => ocRef r
  | .ocRetry r => ocRef r
  | .ocRetryCountClear r => ocRef r
  | .thermalSample r => sensors r
  | .gblCtlWrite a v => access a v
  | .gblOrderBaseWrite a v => access a v
  | .gblOrderSizeWrite a v => access a v
  | .gblOrderDb a v => access a v
  | .gblEventBaseWrite a v => access a v
  | .gblEventSizeWrite a v => access a v
  | .gblEventCi a v => access a v
  | .tCtlWrite _ a v => access a v
  | .tOrderBaseWrite _ a v => access a v
  | .tOrderSizeWrite _ a v => access a v
  | .tOrderDb _ a v => access a v
  | .tEventBaseWrite _ a v => access a v
  | .tEventSizeWrite _ a v => access a v
  | .tEventCi _ a v => access a v
  | .tEpDb _ _ a v => access a v
  | .gblTimeStep a v => access a v
  | .tIrqEoi _ a v => access a v
  | .irqPfEoi a v => access a v
  | .irqSharedWrite _ a v => access a v
  | .irqHoldWrite _ a v => access a v
  | .ocClear _ a v => access a v
  | .powerOff _ a v => access a v
  | .prtUrgentReserveWrite _ a v => access a v
  | .trcSpillCi a v => access a v
  | .pwrPadRelease a v => access a v
  | .pwrOppCtlWrite a v => access a v
  | .tLatTolWrite _ a v => access a v
  | .pwrLatFloorWrite a v => access a v
  | .fltPop a v => access a v
  | .fltUnfenceWorkers a v _ => access a v
  | .fltUnfenceCores a v _ => access a v
  | .svcCtlWrite a v => access a v
  | .selftestMbistStart a v => access a v
  | .selftestLoopbackStart a v => access a v
  | .islandWake _ h => culvertReq h.req
  | .samplePreload l => boundary l
  | .irqSourceWrite f n a v => irqNumber f n && access a v
  | .registerWrite _ off a v => access a v && off < 2 ^ 24
  | .fetch _ r => fetched r
  | .u1U2Enable d _ _ => devId d
  | .connect d _ => devId d
  | .debounceEnd d => devId d
  | .enumResetEnd e => devId e.dev
  | .resetRecoveryEnd d => devId d
  | .enumRequestDone d _ => devId d
  | .hubPowerWaitEnd d _ => devId d
  | .hubPoll d => devId d
  | .hubPollDone d _ => devId d
  | .disconnect d => devId d
  | .remoteWake d => devId d
  | .functionWake d => devId d
  | .resumeSignallingEnd d => devId d
  | .resumeRecoveryEnd e => devId e.dev
  | .portResetEnd d _ => devId d
  | .lpmEntry d _ => devId d
  | .teardown d _ => devId d
  | .linkInactivityTimeout d _ => devId d
  | _ => true

end Sys2Proof
end

