-- ==== Sys2Proof/Tests/Slice0.lean ====
section
/-! SUPPORT. Tests: ill-formed commands are refused, worked examples of the spec, and for every clause of every statement a
state and operands that meet its hypotheses together. Expected values of the worked examples are the spec's own. -/

namespace Sys2Proof.Tests

open Sys2Proof.Machine
set_option Elab.async false

/-! ### Small states -/

def vmin : ShareRec := {}
def vmax : ShareRec :=
  { epQuota := 64, capHs := 50000, capFs := 500000, capSs := 60000, cir := 1000000, pir := 2000000, cbs := 65536, pbs := 65536, weight := 16,
    base := 3, workerLimit := 32, energy := 2, tcMap := 0xFFFFFF, bank := 7 }
def share0 : ShareRec :=
  { epQuota := 4, capHs := 20000, capFs := 200000, capSs := 20000, cir := 1000, pir := 2000, cbs := 1024, pbs := 2048, weight := 1 }

def img0 : Image :=
  { header := [], version := 1, svn := 1, advance := true,
    glob := { portEnable := 0xFFFF, ssEnable := 0x3F, gangs := Vector.replicate 4 0, deglitchUs := 100, holdupUs := 0, refclk := 0, xtalLoad := 0,
              xspiSlew := 0, freeRun := false, subVendor := 0, pfSub := 0, vfSub := 0 },
    tenants := (List.range 5).map (fun t => { tenant := t, auto := false, min := vmin, max := vmax, init := share0 }),
    sluice := some { staging := true, lists := [] },
    sealSec := some { repin := false, tcPolicy := 0, rekeyS := 3600, anchors := [] },
    svc := some { vid := 1, pid := 2, bcd := 3, key := [], manufacturer := [], product := [], serial := [] },
    time := { source := 1 } }

def tenant (t : Nat) : Tenant :=
  { st := (match t with | 0 => .active | 1 => .standby | 2 => .quiesced | 3 => .quiescing | _ => .fenced),
    vf := true, share := if t = 0 ∨ t = 2 then some share0 else none, pci := { cfg := [(0x04, 4)] }, rings := { en := decide (t = 0) } }

/-- After start-up: tenant 0 ACTIVE, 1 STANDBY, 2 QUIESCED, 3 QUIESCING, 4 FENCED; 5 VFs; port 0 powered and enumerated. -/
def up : State :=
  { pins := { porN := true, ppwrEn := 1, vddioN := true },
    img := { step := 9, locked := true, fusesRead := true, active := 1, image := some img0 },
    pf := { cfg := [(0x04, 6), (0x60, 2), (0x168, 0x19), (0x170, 5), (0x278, 12), (0x288, 1)] }, link := .l0,
    tenants := ((((Vector.replicate 256 {}).set 0 (tenant 0)).set 1 (tenant 1)).set 2 (tenant 2)).set 3 (tenant 3) |>.set 4 (tenant 4),
    ports := (Vector.replicate 16 {}).set 0 { usb2 := { on := true } },
    mgr := { en := true }, sched := { data := .graph, mgmt := .graph }, sluice := { staging := true },
    power := { permit := 7, wakeTimer := some 5 } }

def dv : Dev :=
  { id := ⟨0, false, [1]⟩, speed := .high, addr := 2, st := .granted, step := .done, tenant := some 0, vp := 1, config := 1,
    desc := some { vid := 1, pid := 2, bcd := 0, bcdUsb := 0x200, cls := 0, sub := 0, proto := 0, numConfigs := 1, iSerial := 0 } }
def hubD : Dev := { id := ⟨0, false, []⟩, speed := .high, addr := 1, st := .hub, step := .done, hub := some ⟨4, 50, false⟩, config := 1 }
/-- An unmatched device. -/
def du : Dev := { dv with id := ⟨0, false, [2]⟩, addr := 3, st := .unmatched, tenant := none, vp := 0 }

/-- A hub with a granted and an unmatched device. -/
def devs : State := { up with devs := [hubD, dv, du] }

def inEp : EpDesc := ⟨0x81, .bulk, 512, 1, 0⟩
def outEp : EpDesc := ⟨0x02, .bulk, 512, 1, 0⟩
def ctlEp : EpDesc := ⟨0, .control, 64, 1, 0⟩
def isoEp : EpDesc := ⟨0x84, .iso, 64, 1, 1⟩

def flow (h : Fin 1024) (e : EpDesc) : Flow :=
  { t := 0, h := h, entry := h.val, vp := 1, dev := dv.id, ep := e, cls := 0, plOff := 0, ringBase := 0x1000, ringEntries := 16, deq := 0x1000 }
def td (w0 : Word) (w1 : Word := 0) (w3 : Word := 0) (slot : Nat := 0) (st : TdStage := .fetched) : Td :=
  { words := [w0, w1, 7, w3, 0, 0, 0, 0], addr := 0x1000, slot := slot, seq := 0, x := 0, stage := st }
def xf : Xfer := { id := 0, seq := 0, closed := true }
/-- A NORMAL TD of n bytes. -/
def norm (n : Nat) : Word := BitVec.ofNat 64 (1 + n * 2 ^ 32)

def withFlows (l : List Flow) : State := { devs with flows := l }
/-- An order at ring index 0 whose action has started. -/
def ord (f : Fn) (w : List Word) (s : State) : State :=
  s.modRings f (fun r => { r with orders := r.orders ++ [{ k := 0, words := w, stage := .acting }] })
def inW (o : Op) (s : State) : State := s.modWorker 0 (fun _ => { cur := some o })
def inC (o : Op) (s : State) : State := s.modCore 0 (fun x => { x with op := some o })
def item (c : ItemCode) (arg : Nat) (s : State) : State := inC { task := peatTask, node := .check, pl := 0, item := some c, arg := arg } s
def op (task : Nat) (n : Node) (ref : Nat := 0) (arg : Nat := 0) : Op := { task := task, node := n, pl := 0, ref := ref, arg := arg }
def setDev (f : Dev → Dev) (s : State) : State := s.modDev dv.id f
def key0 : KeyCtx := { entry := 9, epoch := 0, seq := 0, deadline := some 100, unitLog2 := 9, prk := 0 }
/-- Worker 0 holds the node that waited on a delay. -/
def due (w : DelayFor) (task : Nat) (s : State) : State := inW { task := task, node := .check, pl := 3, why := some w } s
/-- A request of a device has ended on its bus. -/
def asked (d : DevId) (r : UsbReq) (s : State) : State :=
  { s with sched := { s.sched with reqs := [{ d := d, r := r, task := topoTask d.port, stage := 3 }] } }
def peat (f : PeatSt → PeatSt) (s : State) : State := { s with peat := f s.peat }
def sb0 : Superblock := ⟨12, 0, 4, 5, {}⟩
def mounted : State := peat (fun p => { p with state := .mounted, reason := .none, copies := Vector.replicate 2 (some sb0), sectorLog2 := 12, usable := 4, horizonOk := true }) up
def svc (f : Svc → Svc) (s : State) : State := { s with svc := f s.svc }
def att : State := svc (fun v => { v with vbus := true, attached := true }) up
def pow (f : Power → Power) (s : State) : State := { s with power := f s.power }

/-- A pipe of a device with Tirael, under an image with a SEAL section. -/
def sealing (f : Flow) (p : PeatSt) : State :=
  let s := setDev (fun d => { d with cap := some ([28, 16, 5, 0] ++ List.replicate 17 0 ++ [1, 9, 0, 2, 0, 4, 0]), bos := some ⟨[], false, none, 0⟩ })
    (withFlows [f])
  { s with img := { s.img with image := some { img0 with sealSec := some { repin := false, tcPolicy := 0, rekeyS := 3600, anchors := [[1]] } } },
           peat := p }

/-- OPEN_EP of the default pipe, and of an isochronous endpoint for a tenant without periodic capacity. -/
def openDef : State := ord (.vf 0) [1, 7, 0x10009, 0x4000, 16, 0, 0, 0] devs
def openIso : Order := { k := 0, words := [1, 7, 0x84010009, 0x4000, 16, 0, 0, 0], stage := .acting }
def noRoom : State :=
  ord (.vf 0) openIso.words (devs.modTenant 0 (fun x => { x with share := some { share0 with capHs := 0 } }))
def ep0 : EpDesc := { addr := 0, kind := .control, mps := dv.mps0, burst := 1, bInterval := 0 }
theorem pair_eq {α β : Type} (p : α × β) (a : α) (h : p.1 = a) : p = (a, p.2) := by cases h; rfl

/-! ### Well-formedness: one ill-formed term for each check -/

theorem test_wf_devId : Instr.wf (.connect ⟨0, false, [1, 2, 3, 4, 5, 6]⟩ .high) = false ∧ Instr.wf (.connect ⟨0, false, [0]⟩ .high) = false ∧
    Instr.wf (.connect ⟨0, false, [1, 2, 3, 4, 15]⟩ .high) = true := by decide
theorem test_wf_irqNumber : Instr.wf (.irqSourceWrite (.vf 3) 32 .full 0) = false ∧ Instr.wf (.irqSourceWrite .pf0 63 .full 0) = true := by decide
theorem test_wf_access : Instr.wf (.gblOrderDb .low (0x100000000#64)) = false ∧ Instr.wf (.gblOrderDb .full (0x100000000#64)) = true := by decide
theorem test_wf_register : Instr.wf (.registerWrite .pf0 0x1000000 .full 0) = false := by decide
theorem test_wf_cfgReq : Instr.wf (.configRequest .pf0 (.read 2)) = false ∧ Instr.wf (.configRequest .pf0 (.write 4096 0)) = false ∧
    Instr.wf (.configRequest .pf0 (.read 4092)) = true := by decide
theorem test_wf_msixAccess : Instr.wf (.msixTableWrite .pf0 16380 8 0) = false ∧ Instr.wf (.msixTableWrite .pf0 16376 8 0) = true := by decide
theorem test_wf_ocRef : Instr.wf (.overCurrentTrip (.hub ⟨0, false, []⟩ 0)) = false ∧ Instr.wf (.ocRetry (.root 15)) = true := by decide
theorem test_wf_fetched : Instr.wf (.fetch (.worker 1) (some [[0]])) = false ∧ Instr.wf (.fetch (.worker 1) (some [List.replicate 8 0])) = true := by decide
theorem test_wf_sensors : Instr.wf (.thermalSample [25]) = false ∧ Instr.wf (.thermalSample [25, 26, 27, 28]) = true := by decide
theorem test_wf_culvertReq : Instr.wf (.islandWake .mgmt ⟨.hostlink, .access (.write .pf0 0x1000000 .full 0)⟩) = false ∧
    Instr.wf (.islandWake .mgmt ⟨.hostlink, .config .pf0 (.read 2)⟩) = false ∧ Instr.wf (.islandWake .mgmt ⟨.hostlink, .slot (.worker 0)⟩) = true := by
  decide
theorem test_wf_boundary : Instr.wf (.samplePreload []) = false ∧ Instr.wf (.samplePreload (List.replicate 412 true)) = true := by
  decide +kernel

/-! ### The step, the table's words -/

theorem test_no_word_spells_a_command : decodeTableWord 64 0x0A0B0C0D = none := by decide
theorem test_withFetchWord_keeps_the_state : (State.reset.withFetchWord 8 3).pending = [] := by decide
theorem test_step_takes_the_front : ∃ t, step { up with pending := [.idcode, .dispatch] } = .next t ∧ t.pending = [.dispatch] := ⟨_, rfl, rfl⟩
/-- 04 R97: 4 ns per tick; at +100,000 ppb a tick adds 4.0004 ns, so the 2,500th adds a whole ns more. -/
theorem test_idle_tick : ({ now := 8 } : TimeSt).tick.now = 12 ∧
    ({ now := 8, freq := 100000, frac := 999600000 } : TimeSt).tick.now = 13 := by decide

/-! ### Worked examples -/

/-- 04 after R103: an offset of +600 ns at a 10 ms interval gives a slew of -60,000 ppb, and with a frequency estimate of
+12,000 ppb GBL_TIME_RATE reads -48,000 ppb; 3,400 ns is stepped away. -/
theorem test_slew_of_600_ns : (up.measure 600).time.slew = -60000 ∧ ({ freq := 12000, slew := -60000 } : TimeSt).rate = -48000 ∧
    (up.measure 3400).time.pending = some (-3400) := by decide +kernel
theorem test_600_ns_ends_lock : (({ state := .locked } : TimeSt).measured 600).state = .acquiring ∧
    (({ state := .acquiring, good := 2 } : TimeSt).measured 100).state = .locked := by decide
/-- 07 after R176: a step of -3,400 ns leaves q = 0 and a phase of 3,400 ns to slew. -/
theorem test_step_back_3400 : splitStep (-3400) = (0, -3400) ∧ (({} : Frames).step (-3400)).lock = .slewing := by decide
/-- 07 after R186: the costs of the worked example. -/
theorem test_calendar_costs : 3 * costHsIso 1024 = 61791 ∧ costHs 64 = 2217 ∧ costHs 1024 = 20880 := by decide +kernel
/-- 07 after R186: the loads by slot, and phase 3 for the first endpoint. -/
def camera : Resv :=
  { port := 4, ss := false, frame := false, phase := 0, width := 1, interval := 1, loads := [(0, 61791)], bytes := 3072 }
def intr (p i c b : Nat) : Resv :=
  { port := 4, ss := false, frame := false, phase := p, width := i, interval := i, loads := [(0, c)], bytes := b }
def port4 : State :=
  { up with flows := [{ flow 1 isoEp with t := 7, resv := some camera }, { flow 2 inEp with t := 7, resv := some (intr 0 2 2217 64) },
    { flow 3 inEp with t := 7, resv := some (intr 1 4 20880 1024) }] }
theorem test_calendar_loads : (List.range 4).map (fun k => loadAt port4.resvs 4 false none k) = [64008, 82671, 64008, 61791] := by decide +kernel
/-- 07 after R190: phase 3 of interval 8; the first interval start from microframe 8,001 on is 8,003, the next 8,011. -/
theorem test_iso_intervals : let r : Resv := { camera with interval := 8, phase := 3 }
    r.nextDue 8001 = 8003 ∧ r.nextDue 8004 = 8011 ∧ r.dueAt 8011 = true ∧ r.dueAt 8012 = false := by decide
/-- 09 after R240: Tc 16,384 B, Tp 65,536 B: green, then yellow with Tp at 32,768 B, then red from Tp 0. -/
theorem test_colours : let x : Tenant := { tc := 16384000, tp := 65536000 }
    ((x.colour 16384).1, (x.colour 16384).2.tc, (x.colour 16384).2.tp) = (.green, 0, 49152000) ∧
    (((x.colour 16384).2.colour 16384).1, ((x.colour 16384).2.colour 16384).2.tp) = (.yellow, 32768000) ∧
    (({ x with tc := 0, tp := 0 } : Tenant).colour 16384).1 = .red := by decide
/-- 09 after R254: ADMIN_BASE 4 s, cycle 250,000 ns, soonest 5,000,133,400 ns. -/
theorem test_switchover : switchTime 4000000000 250000 5000133400 = 5000250000 ∧ switchTime 6000000000 250000 5000133400 = 6000000000 := by decide
/-- 10 after R278: 10,000 bytes at U = 4,096 form units of 4,096, 4,096 and 1,808 bytes. -/
theorem test_seal_units : let f := { flow 1 outEp with tds := [td (norm 10000) 0 0 0 .checked] }
    let x : Xfer := { xf with unit := 4096, moved := 10000 }
    [f.sealOf x, f.sealOf { x with units := 1, plain := 4096 }, f.sealOf { x with units := 2, plain := 8192 },
     f.sealOf { x with units := 3, plain := 10000 }] = [some (0, 4096), some (0, 4096), some (0, 1808), none] := by decide +kernel
/-- 13 after R327: floors of 60,000 ns permit LP2 and not LP3; 2,000,000 ns permits LP3. -/
def tols (a b : Nat) : State := (up.modTenant 0 (fun x => { x with latTol := a })).modTenant 1 (fun x => { x with st := .active, latTol := b })
theorem test_tolerance : (tols 60000 2000000).effTol = 60000 ∧ (tols 60000 2000000).lpAllowed = 2 ∧ (tols 5000000 2000000).lpAllowed = 3 := by
  decide +kernel
/-- 13 after R341: the wake timer of the worked example. -/
theorem test_wake_ticks : wakeTicks 80000200000 80950000000 = 31089 := by decide
/-- 14 after R360: H 2,000 us, tPP 400 us; starts at 1 and 811 us fit, after a page program in progress only the one at 401 us. -/
theorem test_high_water : waterFits 2000 400 [1, 811] = 2 ∧ waterFits 2000 400 [401, 1211] = 1 := by decide
/-- 16 R413. -/
theorem test_idcode : tapIdcode = 0x102560E7 := by decide
/-- 08 after R213: with microframe count 8,003 tenant 67 comes first, its order flow before its handles, tenant 5 last. -/
def arrivals : State :=
  { up with frames := { f := 8003 }, flows := [{ flow 2 inEp with t := 5, entry := 50 }, { flow 9 inEp with t := 70, entry := 51 },
      { flow 4 inEp with t := 67, entry := 52 }, { flow 0 inEp with t := 200, entry := 53 }] }
theorem test_arrival_order : arrivals.arrivalOrder.filter (fun k => k < 16384 || k = 16384 + 67 || k = sealTask) =
    [sealTask, 16384 + 67, 52, 51, 53, 50] := by decide +kernel
/-- 10 R268: the generator of P-256 is a valid point; with another Y it is none. -/
def gen (y : Nat) : List Byte :=
  4 :: (natBytes 32 0x6b17d1f2e12c4247f8bce6e563a440f277037d812deb33a0f4a13945d898c296).reverse ++ (natBytes 32 y).reverse
theorem test_points : validPoint (gen 0x4fe342e2fe1a7f9b8ee7eb4a7c0f9e162bce33576b315ececbb6406837bf51f5) = true ∧ validPoint (gen 1) = false := by
  decide +kernel
/-- SP 800-186: twice the generator, and the order times it is the point at infinity. -/
theorem test_p256 : ecAdd (some p256Base) (some p256Base) =
      some (0x7CF27B188D034F7E8A52380304B51AC3C08969E277F21B35A60B48FC47669978,
            0x07775510DB8ED040293D9AC69F7430DBBA7DADE63CE982299E04B79D227873D1) ∧
    ecMul (some p256Base) 256 p256Order = none := by decide +kernel
/-- The check value of CRC-32 (IEEE 802.3). -/
theorem test_crc32 : crc32 (ascii "123456789") = [0x26, 0x39, 0xF4, 0xCB] := by decide +kernel

/-! ### Witnesses: each clause of each statement has a state and operands that meet its hypotheses -/

theorem witness_StepRunsFrontCommand :
    (∃ (c : Instr) (l : List Instr) (s : State), s.pending = c :: l) :=
  ⟨.idcode, [.dispatch], { up with pending := [.idcode, .dispatch] }, by decide +kernel⟩

theorem witness_EmptyQueueLetsTimePass :
    (∃ (s : State), s.pending = [] ∧ s.pins.porN = true ∧ s.power.saved = none) ∧
    (∃ (s : State), s.pending = [] ∧ s.pins.porN = false) ∧
    (∃ (s : State), s.pending = [] ∧ ¬s.power.saved = none) :=
  ⟨⟨up, by decide +kernel⟩,
    ⟨State.reset, by decide +kernel⟩,
    ⟨pow (fun p => { p with saved := some 500, lp := .lp3 }) up, by decide +kernel⟩⟩

theorem witness_RegisterWriteOutcomes :
    (∃ (f : Fn) (off : Nat) (s : State), Reaches f s ∧ (s.regAt f (off / 8 * 8)).kind = RegKind.silent) ∧
    (∃ (f : Fn) (off : Nat) (s : State), Reaches f s ∧ ¬(s.regAt f (off / 8 * 8)).kind = RegKind.silent ∧ ¬off % 8 = 0) ∧
    (∃ (f : Fn) (off : Nat) (s : State), Reaches f s ∧ (s.regAt f (off / 8 * 8)).kind = RegKind.side) ∧
    (∃ (f : Fn) (off : Nat) (s : State), Reaches f s ∧ (s.regAt f (off / 8 * 8)).kind = RegKind.window) ∧
    (∃ (f : Fn) (off : Nat) (v : Word) (s : State), Reaches f s ∧ off % 8 = 0 ∧ ((s.regAt f (off / 8 * 8)).kind = RegKind.plain ∨ (s.regAt f
      (off / 8 * 8)).kind = RegKind.side) ∧ v &&& masks (s.regAt f (off / 8 * 8)).rsv = 0) ∧
    (∃ (f : Fn) (off : Nat) (v : Word) (s : State), Reaches f s ∧ off % 8 = 0 ∧ ((s.regAt f (off / 8 * 8)).kind = RegKind.plain ∨ (s.regAt f
      (off / 8 * 8)).kind = RegKind.side) ∧ ¬v &&& masks (s.regAt f (off / 8 * 8)).rsv = 0) ∧
    (∃ (f : Fn) (off : Nat) (v : Word) (s : State), Reaches f s ∧ off % 8 = 0 ∧ (s.regAt f (off / 8 * 8)).kind = RegKind.plain ∧ mergeHalf
      WrAcc.low (s.regAt f (off / 8 * 8)).val v &&& masks (s.regAt f (off / 8 * 8)).rsv = 0) ∧
    (∃ (f : Fn) (s : State), Awake s ∧ s.unsupported f = true) ∧
    (∃ (f : Fn) (s : State), Awake s ∧ s.unsupported f = false ∧ s.fencedFn f = true) ∧
    (∃ (f : Fn) (off : Nat) (s : State) (src i : Island), off % 8 = 0 ∧ s.blocked Island.hostlink (s.wayTo f off) = some (src, i)) ∧
    (∃ (f : Fn) (off : Nat) (s : State), Reaches f s ∧ (s.regAt f (off / 8 * 8)).kind = RegKind.window) :=
  ⟨⟨.vf 0, 16392, up, by decide +kernel⟩,
    ⟨.pf0, 1, up, by decide +kernel⟩,
    ⟨.pf0, 8, up, by decide +kernel⟩,
    ⟨.pf0, 1048576, up, by decide +kernel⟩,
    ⟨.pf0, 0, 0, up, by decide +kernel⟩,
    ⟨.pf0, 0, 0xffffffffffffffff, up, by decide +kernel⟩,
    ⟨.pf0, 0, 0, up, by decide +kernel⟩,
    ⟨.vf 255, up, by decide +kernel⟩,
    ⟨.vf 4, up, by decide +kernel⟩,
    ⟨.vf 0, 8192, pow (fun p => { p with islands := p.islands.set 3 { state := .restarting } }) up, .func, .sched, by decide +kernel⟩,
    ⟨.pf0, 0x100000, up, by decide +kernel⟩⟩

theorem witness_RingEnableWrites :
    (∃ (v : Word) (s : State), v &&& bits 63 1 = 0 ∧ Reaches Fn.pf0 s) ∧
    (∃ (v : Word) (s : State) (t : TenantId), v &&& bits 63 1 = 0 ∧ Reaches (Fn.vf t) s) :=
  ⟨⟨0, up, by decide +kernel⟩,
    ⟨0, up, 0, by decide +kernel⟩⟩

theorem witness_RingGeometryWrites :
    (∃ (v : Word) (s : State), Reaches Fn.pf0 s ∧ s.ringIdle Fn.pf0 = true ∧ v &&& bits 5 0 = 0) ∧
    (∃ (v : Word) (s : State), Reaches Fn.pf0 s ∧ s.ringIdle Fn.pf0 = true ∧ v &&& bits 4 0 = 0) ∧
    (∃ (v : Word) (s : State), Reaches Fn.pf0 s ∧ s.ringIdle Fn.pf0 = true ∧ 4 ≤ BitVec.toNat v ∧ BitVec.toNat v ≤ 12) ∧
    (∃ (v : Word) (s : State), Reaches Fn.pf0 s ∧ s.ringIdle Fn.pf0 = true ∧ 6 ≤ BitVec.toNat v ∧ BitVec.toNat v ≤ 16) ∧
    (∃ (s : State), Reaches Fn.pf0 s ∧ s.ringIdle Fn.pf0 = false) ∧
    (∃ (v : Word) (s : State), Reaches Fn.pf0 s ∧ ¬(4 ≤ BitVec.toNat v ∧ BitVec.toNat v ≤ 12) ∧ BitVec.toNat v < 16) ∧
    (∃ (t : TenantId) (v : Word) (s : State), Reaches (Fn.vf t) s ∧ s.ringIdle (Fn.vf t) = true ∧ v &&& bits 5 0 = 0) ∧
    (∃ (t : TenantId) (v : Word) (s : State), Reaches (Fn.vf t) s ∧ s.ringIdle (Fn.vf t) = true ∧ v &&& bits 4 0 = 0) ∧
    (∃ (t : TenantId) (v : Word) (s : State), Reaches (Fn.vf t) s ∧ s.ringIdle (Fn.vf t) = true ∧ 4 ≤ BitVec.toNat v ∧ BitVec.toNat v ≤ 12) ∧
    (∃ (t : TenantId) (v : Word) (s : State), Reaches (Fn.vf t) s ∧ s.ringIdle (Fn.vf t) = true ∧ 6 ≤ BitVec.toNat v ∧ BitVec.toNat v ≤ 16) ∧
    (∃ (t : TenantId) (s : State), Reaches (Fn.vf t) s ∧ s.ringIdle (Fn.vf t) = false) :=
  ⟨⟨0, { up with mgr := {} }, by decide +kernel⟩,
    ⟨0, { up with mgr := {} }, by decide +kernel⟩,
    ⟨4, { up with mgr := {} }, by decide +kernel⟩,
    ⟨6, { up with mgr := {} }, by decide +kernel⟩,
    ⟨up, by decide +kernel⟩,
    ⟨0, up, by decide +kernel⟩,
    ⟨1, 0, up, by decide +kernel⟩,
    ⟨1, 0, up, by decide +kernel⟩,
    ⟨1, 4, up, by decide +kernel⟩,
    ⟨1, 6, up, by decide +kernel⟩,
    ⟨0, up, by decide +kernel⟩⟩

theorem witness_Doorbells :
    (∃ (v : Word) (s : State), Reaches Fn.pf0 s ∧ BitVec.toNat v < 4096 ∧ BitVec.toNat v < s.mgr.orderSize) ∧
    (∃ (v : Word) (s : State), Reaches Fn.pf0 s ∧ BitVec.toNat v < 4096 ∧ s.mgr.orderSize ≤ BitVec.toNat v) ∧
    (∃ (v : Word) (s : State), Reaches Fn.pf0 s ∧ BitVec.toNat v < 65536 ∧ s.mgr.ciOk (BitVec.toNat v) = true) ∧
    (∃ (v : Word) (s : State), Reaches Fn.pf0 s ∧ BitVec.toNat v < 65536 ∧ s.mgr.ciOk (BitVec.toNat v) = false) ∧
    (∃ (v : Word) (s : State) (t : TenantId), Reaches (Fn.vf t) s ∧ BitVec.toNat v < 4096 ∧ BitVec.toNat v < (s.tenant t).rings.orderSize) ∧
    (∃ (v : Word) (s : State) (t : TenantId), Reaches (Fn.vf t) s ∧ BitVec.toNat v < 4096 ∧ (s.tenant t).rings.orderSize ≤ BitVec.toNat v) ∧
    (∃ (v : Word) (s : State) (t : TenantId), Reaches (Fn.vf t) s ∧ BitVec.toNat v < 65536 ∧ (s.tenant t).rings.ciOk (BitVec.toNat v) = true) ∧
    (∃ (v : Word) (s : State) (t : TenantId), Reaches (Fn.vf t) s ∧ BitVec.toNat v < 65536 ∧ (s.tenant t).rings.ciOk (BitVec.toNat v) = false) ∧
    (∃ (t : TenantId) (h : Fin 1024) (v : Word) (s : State), Reaches (Fn.vf t) s ∧ BitVec.toNat v < 2 ^ 32 ∧ s.flow? t h = none) ∧
    (∃ (t : TenantId) (h : Fin 1024) (v : Word) (s : State) (g : Flow), Reaches (Fn.vf t) s ∧ BitVec.toNat v < 2 ^ 32 ∧ s.flow? t h = some g ∧
      (g.st = HandleState.detached ∨ g.st = HandleState.lost)) ∧
    (∃ (t : TenantId) (h : Fin 1024) (v : Word) (s : State) (g : Flow), Reaches (Fn.vf t) s ∧ BitVec.toNat v < 2 ^ 32 ∧ s.flow? t h = some g ∧
      (g.st = HandleState.running ∨ g.st = HandleState.halted) ∧ (BitVec.extractLsb' 0 32 v = g.last ∨ (g.last - BitVec.extractLsb' 0 32
      v).toNat ≤ g.ringEntries)) ∧
    (∃ (t : TenantId) (h : Fin 1024) (v : Word) (s : State) (g : Flow), Reaches (Fn.vf t) s ∧ BitVec.toNat v < 2 ^ 32 ∧ s.flow? t h = some g ∧
      (g.st = HandleState.running ∨ g.st = HandleState.halted) ∧ ¬BitVec.extractLsb' 0 32 v = g.last ∧ g.ringEntries < (g.last -
      BitVec.extractLsb' 0 32 v).toNat ∧ (BitVec.extractLsb' 0 32 v - g.consumed).toNat ≤ g.ringEntries ∧ ¬BitVec.extractLsb' 0 32 v =
      g.consumed) ∧
    (∃ (t : TenantId) (h : Fin 1024) (v : Word) (s : State) (g : Flow), Reaches (Fn.vf t) s ∧ BitVec.toNat v < 2 ^ 32 ∧ s.flow? t h = some g ∧
      (g.st = HandleState.running ∨ g.st = HandleState.halted) ∧ ¬BitVec.extractLsb' 0 32 v = g.last ∧ g.ringEntries < (g.last -
      BitVec.extractLsb' 0 32 v).toNat ∧ g.ringEntries < (BitVec.extractLsb' 0 32 v - g.consumed).toNat) :=
  ⟨⟨0, up, by decide +kernel⟩,
    ⟨16, up, by decide +kernel⟩,
    ⟨0, up, by decide +kernel⟩,
    ⟨1, up, by decide +kernel⟩,
    ⟨0, up, 0, by decide +kernel⟩,
    ⟨16, up, 0, by decide +kernel⟩,
    ⟨0, up, 0, by decide +kernel⟩,
    ⟨1, up, 0, by decide +kernel⟩,
    ⟨0, 0, 0, up, by decide +kernel⟩,
    ⟨0, 1, 0, ord (.vf 0) [2, 7, 1, 0, 0, 0, 0, 0] ((withFlows [{ flow 1 inEp with st := .detached }])),
      { t := 0, h := 1, entry := 1, vp := 1, dev := { port := 0, ss := false, path := [1] }, ep := { addr := 129, kind := .bulk, mps := 512, burst := 1, bInterval := 0 }, cls := 0, plOff := 0, ringBase := 4096, ringEntries := 16, st := .detached, deq := 4096 },
      by decide +kernel⟩,
    ⟨0, 1, 0, withFlows [{ flow 1 inEp with st := .halted }],
      { t := 0, h := 1, entry := 1, vp := 1, dev := { port := 0, ss := false, path := [1] }, ep := { addr := 129, kind := .bulk, mps := 512, burst := 1, bInterval := 0 }, cls := 0, plOff := 0, ringBase := 4096, ringEntries := 16, st := .halted, deq := 4096 },
      by decide +kernel⟩,
    ⟨0, 1, 1, withFlows [{ flow 1 inEp with st := .halted }],
      { t := 0, h := 1, entry := 1, vp := 1, dev := { port := 0, ss := false, path := [1] }, ep := { addr := 129, kind := .bulk, mps := 512, burst := 1, bInterval := 0 }, cls := 0, plOff := 0, ringBase := 4096, ringEntries := 16, st := .halted, deq := 4096 },
      by decide +kernel⟩,
    ⟨0, 1, 0x200001, withFlows [{ flow 1 inEp with st := .halted }],
      { t := 0, h := 1, entry := 1, vp := 1, dev := { port := 0, ss := false, path := [1] }, ep := { addr := 129, kind := .bulk, mps := 512, burst := 1, bInterval := 0 }, cls := 0, plOff := 0, ringBase := 4096, ringEntries := 16, st := .halted, deq := 4096 },
      by decide +kernel⟩⟩

theorem witness_TimeRegisters :
    (∃ (s : State) (f : Fn), Reaches f s) ∧
    (∃ (s : State), Reaches Fn.pf0 s ∧ (s.time.state = TimeState.free ∨ s.time.state = TimeState.holdover)) ∧
    (∃ (s : State), Reaches Fn.pf0 s ∧ (s.time.state = TimeState.acquiring ∨ s.time.state = TimeState.locked)) :=
  ⟨⟨up, .pf0, by decide +kernel⟩,
    ⟨up, by decide +kernel⟩,
    ⟨{ up with time := { now := 1000, state := .locked } }, by decide +kernel⟩⟩

theorem witness_InterruptRegisters :
    (∃ (s : State), Reaches Fn.pf0 s ∧ s.claimable (Target.fn Fn.pf0) = none) ∧
    (∃ (s : State) (x : Src), Reaches Fn.pf0 s ∧ s.claimable (Target.fn Fn.pf0) = some x) ∧
    (∃ (s : State) (x : Src), Reaches Fn.pf0 s ∧ x ∈ s.sources (Target.fn Fn.pf0) ∧ (s.irqSrc x).inService = false) ∧
    (∃ (s : State) (x : Src), Reaches Fn.pf0 s ∧ x ∈ s.sources (Target.fn Fn.pf0) ∧ (s.irqSrc x).inService = true) ∧
    (∃ (s : State) (v : Word), Reaches Fn.pf0 s ∧ 65536 ≤ BitVec.toNat v) ∧
    (∃ (s : State) (t : TenantId), Reaches (Fn.vf t) s ∧ s.claimable (Target.fn (Fn.vf t)) = none) ∧
    (∃ (s : State) (t : TenantId) (x : Src), Reaches (Fn.vf t) s ∧ s.claimable (Target.fn (Fn.vf t)) = some x) ∧
    (∃ (s : State) (t : TenantId) (n : Fin 32), Reaches (Fn.vf t) s ∧ n.val < 6 ∧ (s.irqSrc (Src.vf t n)).inService = false) ∧
    (∃ (s : State) (t : TenantId) (n : Fin 32), Reaches (Fn.vf t) s ∧ n.val < 6 ∧ (s.irqSrc (Src.vf t n)).inService = true) ∧
    (∃ (s : State) (t : TenantId) (v : Word), Reaches (Fn.vf t) s ∧ 6 ≤ BitVec.toNat v) ∧
    (∃ (s : State) (f : Fn) (x y : Src), s.claimable (Target.fn f) = some x ∧ y ∈ s.sources (Target.fn f) ∧ s.pendingSrc y = true) ∧
    (∃ (v : Word) (s : State) (f : Fn) (n : Fin 64) (x : Src), srcOf f n = some x ∧ x.listed = true ∧ Reaches f s ∧ v &&& x.rsv = 0 ∧
      vectorsOf f ≤ field v 16 8) ∧
    (∃ (v : Word) (s : State) (f : Fn) (n : Fin 64) (x : Src), srcOf f n = some x ∧ x.listed = true ∧ Reaches f s ∧ v &&& x.rsv = 0 ∧ field v
      16 8 < vectorsOf f) ∧
    (∃ (v : Word) (s : State) (n : Fin 96), n.val < 33 ∧ Reaches Fn.pf0 s ∧ v &&& (Src.shared n).rsv = 0 ∧ (4 < (BitVec.extractLsb' 24 8
      v).toNat ∨ BitVec.extractLsb' 24 8 v = 0 ∧ 63 < (BitVec.extractLsb' 16 8 v).toNat ∨ BitVec.extractLsb' 24 8 v ≠ 0 ∧
      BitVec.extractLsb' 16 8 v ≠ 0)) ∧
    (∃ (v : Word) (s : State) (n : Fin 96), n.val < 33 ∧ Reaches Fn.pf0 s ∧ v &&& (Src.shared n).rsv = 0 ∧ ¬(4 < (BitVec.extractLsb' 24 8
      v).toNat ∨ BitVec.extractLsb' 24 8 v = 0 ∧ 63 < (BitVec.extractLsb' 16 8 v).toNat ∨ BitVec.extractLsb' 24 8 v ≠ 0 ∧
      BitVec.extractLsb' 16 8 v ≠ 0)) ∧
    (∃ (v : Word) (s : State) (f : Fn), Reaches f s ∧ v &&& bits 63 1 = 0) :=
  ⟨⟨up, by decide +kernel⟩,
    ⟨{ up with pfIrq := up.pfIrq.set 1 { en := true, level := true, count := 4, prio := 3 } }, .pf 1, by decide +kernel⟩,
    ⟨up, .pf 0, by decide +kernel⟩,
    ⟨{ up with pfIrq := up.pfIrq.set 0 { en := true, level := true, inService := true } }, .pf 0, by decide +kernel⟩,
    ⟨up, 0x200001, by decide +kernel⟩,
    ⟨up, 0, by decide +kernel⟩,
    ⟨up.modTenant 0 (fun x => { x with irq := x.irq.set 2 { en := true, level := true, count := 1 } }), 0, .vf 0 2, by decide +kernel⟩,
    ⟨up, 0, 0, by decide +kernel⟩,
    ⟨up.modTenant 0 (fun x => { x with irq := x.irq.set 1 { en := true, inService := true } }), 0, 1, by decide +kernel⟩,
    ⟨up, 0, 0x200001, by decide +kernel⟩,
    ⟨{ up with pfIrq := up.pfIrq.set 1 { en := true, level := true, count := 4, prio := 3 } }, .pf0, .pf 1, .pf 1, by decide +kernel⟩,
    ⟨0x400001, up, .pf0, 0, .pf 0, by decide +kernel⟩,
    ⟨0, up, .pf0, 0, .pf 0, by decide +kernel⟩,
    ⟨0x400001, up, 0, by decide +kernel⟩,
    ⟨0, up, 0, by decide +kernel⟩,
    ⟨0, up, .pf0, by decide +kernel⟩⟩

theorem witness_PortAndPowerRegisters :
    (∃ (p : PortId) (s : State), Reaches Fn.pf0 s ∧ s.power.padsHeld = false ∧ (vget s.ports p).powerOff = false) ∧
    (∃ (p : PortId) (s : State), Reaches Fn.pf0 s ∧ (s.ocOf p).latched = true ∧ (vget s.ports p).powerOff = false ∧ s.gangOf p = none ∧ (∀ (d
      : Dev), d ∈ s.devs → d.hubOc = [])) ∧
    (∃ (p : PortId) (s : State) (v : Word), Reaches Fn.pf0 s ∧ BitVec.toNat v < 32768 ∧ BitVec.toNat v ≤ 25000 ∧ worstLoad s.resvs p true
      false ≤ slotCapacity true false (BitVec.toNat v)) ∧
    (∃ (p : PortId) (s : State) (v : Word), Reaches Fn.pf0 s ∧ BitVec.toNat v < 32768 ∧ ¬(BitVec.toNat v ≤ 25000 ∧ worstLoad s.resvs p true
      false ≤ slotCapacity true false (BitVec.toNat v))) ∧
    (∃ (v : Word) (s : State) (t : TenantId), Reaches (Fn.vf t) s ∧ BitVec.toNat v < 2 ^ 32) ∧
    (∃ (v : Word) (s : State), Reaches Fn.pf0 s ∧ BitVec.toNat v < 2 ^ 32) ∧
    (∃ (v : Word) (s : State), Reaches Fn.pf0 s ∧ BitVec.toNat v < 4 ∧ (BitVec.toNat v = 3 ∨ s.power.permit.getLsbD (BitVec.toNat v) = true)) ∧
    (∃ (v : Word) (s : State), Reaches Fn.pf0 s ∧ BitVec.toNat v < 4 ∧ ¬BitVec.toNat v = 3 ∧ s.power.permit.getLsbD (BitVec.toNat v) = false) ∧
    (∃ (s : State), Reaches Fn.pf0 s ∧ s.power.padsHeld = true) ∧
    (∃ (v : Word) (s : State), Reaches Fn.pf0 s ∧ BitVec.toNat v < 65536 ∧ BitVec.toNat v < 2 ^ s.trace.log2 ∧ (BitVec.toNat v + 2 ^
      s.trace.log2 - s.trace.ci) % 2 ^ s.trace.log2 ≤ (s.trace.pi + 2 ^ s.trace.log2 - s.trace.ci) % 2 ^ s.trace.log2) ∧
    (∃ (v : Word) (s : State), Reaches Fn.pf0 s ∧ BitVec.toNat v < 65536 ∧ ¬(BitVec.toNat v < 2 ^ s.trace.log2 ∧ (BitVec.toNat v + 2 ^
      s.trace.log2 - s.trace.ci) % 2 ^ s.trace.log2 ≤ (s.trace.pi + 2 ^ s.trace.log2 - s.trace.ci) % 2 ^ s.trace.log2)) :=
  ⟨⟨0, up, by decide +kernel⟩,
    ⟨0, { up with ports := up.ports.set 0 { up.ports[0] with oc := { retries := 4, latched := true } } }, by decide +kernel⟩,
    ⟨0, up, 0, by decide +kernel⟩,
    ⟨0, up, 30000, by decide +kernel⟩,
    ⟨0, up, 0, by decide +kernel⟩,
    ⟨0, up, by decide +kernel⟩,
    ⟨0, up, by decide +kernel⟩,
    ⟨1, pow (fun p => { p with permit := 1 }) up, by decide +kernel⟩,
    ⟨pow (fun p => { p with padsHeld := true, waiting := [(0, true)] }) up, by decide +kernel⟩,
    ⟨0, up, by decide +kernel⟩,
    ⟨1, up, by decide +kernel⟩⟩

theorem witness_FaultAndServiceRegisters :
    (∃ (s : State), Reaches Fn.pf0 s ∧ (∀ (j : FaultJob), j ∈ s.faults.jobs → j.worker = none)) ∧
    (∃ (s : State) (v : Word), Reaches Fn.pf0 s ∧ BitVec.toNat v < 4 ∧ BitVec.getLsbD v 0 = true) ∧
    (∃ (s : State), Reaches Fn.pf0 s ∧ s.self.busy = false ∧ s.tap.custody = true) ∧
    (∃ (s : State), Reaches Fn.pf0 s ∧ s.self.busy = false ∧ s.tap.custody = false) ∧
    (∃ (s : State), Reaches Fn.pf0 s ∧ s.self.busy = true) :=
  ⟨⟨up, by decide +kernel⟩,
    ⟨up, 1, by decide +kernel⟩,
    ⟨{ up with tap := { up.tap with custody := true } }, by decide +kernel⟩,
    ⟨up, by decide +kernel⟩,
    ⟨{ up with self := { loopBusy := true } }, by decide +kernel⟩⟩

theorem witness_ReadsThatClearTheirCounts :
    (∃ (s : State), Reaches Fn.pf0 s) :=
  ⟨up, by decide +kernel⟩

theorem witness_ResetsAndStartUp :
    (∃ (s : State), s.pins.vddioN = false) ∧
    (∃ (n : Nat), n < 7000) ∧
    (∃ (n : Nat), 9000 ≤ n) ∧
    (∃ (s : State), s.pins.porN = false ∧ s.tap.custody = false) ∧
    (∃ (s : State), s.watched = true) :=
  ⟨⟨State.reset, by decide +kernel⟩,
    ⟨0, by decide +kernel⟩,
    ⟨9000, by decide +kernel⟩,
    ⟨State.reset, by decide +kernel⟩,
    ⟨up, by decide +kernel⟩⟩

theorem witness_HostResets :
    (∃ (s : State), AtWork s ∧ s.pins.perstN = true) ∧
    (∃ (s : State) (t : TenantId), Awake s ∧ s.img.locked = true ∧ (s.tenant t).vf = true ∧ ((s.tenant t).st = TenantState.active ∨ (s.tenant
      t).st = TenantState.quiescing)) ∧
    (∃ (s : State) (t : TenantId), Awake s ∧ s.img.locked = true ∧ (s.tenant t).vf = true ∧ ((s.tenant t).st = TenantState.standby ∨ (s.tenant
      t).st = TenantState.quiesced)) ∧
    (∃ (s : State), Awake s ∧ s.img.locked = true ∧ s.pf.bit 360 4 = true ∧ ¬s.img.image = none) ∧
    (∃ (s : State), Awake s ∧ s.img.locked = true ∧ s.pf.bit 360 4 = false) :=
  ⟨⟨up, by decide +kernel⟩,
    ⟨up, 0, by decide +kernel⟩,
    ⟨up, 1, by decide +kernel⟩,
    ⟨up, by decide +kernel⟩,
    ⟨{ up with link := .l1, pf := { cfg := [(0x04, 6), (0x278, 12)] } }, by decide +kernel⟩⟩

theorem witness_ConfigurationAndMessages :
    (∃ (s : State), Awake s ∧ s.img.locked = false) ∧
    (∃ (s : State) (f : Fn) (v : BitVec 2), Awake s ∧ s.img.locked = true ∧ s.fnPresent f = true ∧ (v = 0 ∨ v = 3)) ∧
    (∃ (s : State) (f : Fn) (v : BitVec 2), Awake s ∧ s.img.locked = true ∧ s.fnPresent f = true ∧ (v = 1 ∨ v = 2)) ∧
    (∃ (s : State) (f : Fn) (n : Fin 64), Awake s ∧ s.unsupported f = false ∧ n.val < vectorsOf f) ∧
    (∃ (s : State) (f : Fn) (off size : Nat), Awake s ∧ s.unsupported f = false ∧ off < vectorsOf f * 16 ∧ ¬size = 4 ∧ ¬size = 8) ∧
    (∃ (s : State), s.link = LinkState.down ∧ s.pins.perstN = true ∧ s.pins.porN = true ∧ s.tap.pinsTaken = false ∧ s.power.perstDue = false) ∧
    (∃ (s : State) (u : UnitId) (o : Op), Awake s ∧ s.timeoutOff = false ∧ s.opAt u = some o ∧ o.node = Node.fetch ∧ o.item = none ∧ o.kind =
      OpKind.graph ∧ o.stale = false ∧ o.task = 16640 ∧ ¬o.arg = 0 ∧ (∀ (g : Flow), g ∈ s.flows → g.entry < 16384) ∧ s.canSend Fn.pf0 =
      true) :=
  ⟨⟨State.reset, by decide +kernel⟩,
    ⟨up, .pf0, 0, by decide +kernel⟩,
    ⟨up, .pf0, 1, by decide +kernel⟩,
    ⟨up, .pf0, 0, by decide +kernel⟩,
    ⟨up, .pf0, 0, 0, by decide +kernel⟩,
    ⟨{ up with link := .down }, by decide +kernel⟩,
    ⟨inW (op 16640 .fetch 0 2) up, .worker 0, { task := 16640, node := .fetch, pl := 0, arg := 2 }, by decide +kernel⟩⟩

theorem witness_PinsAndReference :
    (∃ (s : State) (p : PortId), AtWork s ∧ s.gangOf p = none ∧ s.powered p = true) ∧
    (∃ (s : State) (p : PortId) (w : WorkerId) (o : Op), s.gangOf p = none ∧ Due s (DelayFor.ocRetry (OcRef.root p)) w o ∧ ¬(s.ocOf p).waiting
      = none) ∧
    (∃ (s : State) (p : PortId) (w : WorkerId) (o : Op), s.gangOf p = none ∧ Due s (DelayFor.ocQuiet (OcRef.root p)) w o ∧ ¬(s.ocOf p).retries
      = 0 ∧ (s.ocOf p).waiting = none ∧ (s.ocOf p).latched = false) ∧
    (∃ (s : State) (i : Fin 2), AtWork s ∧ s.pins.porN = true ∧ s.pins.vaon = true ∧ s.pins.tamper.getLsbD i.val = false) ∧
    (∃ (s : State) (i : Fin 2), s.pins.tamper.getLsbD i.val = true) ∧
    (∃ (s : State) (i : Fin 2), s.pins.porN = false ∧ s.pins.vbat = true ∧ s.pins.tamper.getLsbD i.val = false) ∧
    (∃ (s : State), AtWork s ∧ s.pins.pwrfailN = true) ∧
    (∃ (s : State), s.pins.pwrfailN = false) ∧
    (∃ (s : State) (falling : Bool), AtWork s ∧ s.power.saved = none ∧ s.img.locked = true ∧ s.ppsInUse = true ∧ falling = s.timeSec.falling ∧
      (∀ (l : Nat), s.time.lastPps = some l → l + 900000000 ≤ s.time.now)) ∧
    (∃ (s : State) (falling : Bool), AtWork s ∧ ¬falling = s.timeSec.falling) ∧
    (∃ (s : State), s.img.locked = true ∧ s.timeSec.usesPtm = true ∧ s.time.dialogue = false ∧ s.ptmEnabled = true) ∧
    (∃ (s : State), s.time.dialogue = true ∧ s.ptmEnabled = true) ∧
    (∃ (s : State), (s.time.state = TimeState.acquiring ∨ s.time.state = TimeState.locked)) ∧
    (∃ (s : State), s.time.ppsOutEn = true ∧ s.power.padsHeld = false) ∧
    (∃ (s : State), s.power.padsHeld = true) :=
  ⟨⟨up, 0, by decide +kernel⟩,
    ⟨due (.ocRetry (.root 0)) 16641 { up with ports := up.ports.set 0 { up.ports[0] with oc := { retries := 2, waiting := some 10 } } }, 0, 0,
      { task := 16641, node := .check, pl := 3, why := some (.ocRetry (.root 0)) }, by decide +kernel⟩,
    ⟨due (.ocQuiet (.root 0)) 16641 { up with ports := up.ports.set 0 { up.ports[0] with oc := { retries := 2 } } }, 0, 0,
      { task := 16641, node := .check, pl := 3, why := some (.ocQuiet (.root 0)) }, by decide +kernel⟩,
    ⟨up, 0, by decide +kernel⟩,
    ⟨{ up with pins := { up.pins with tamper := 1, pwrfailN := false } }, 0, by decide +kernel⟩,
    ⟨State.reset, 0, by decide +kernel⟩,
    ⟨up, by decide +kernel⟩,
    ⟨{ up with pins := { up.pins with tamper := 1, pwrfailN := false } }, by decide +kernel⟩,
    ⟨{ up with img := { up.img with image := some { img0 with time := { source := 2 } } } }, false, by decide +kernel⟩,
    ⟨up, true, by decide +kernel⟩,
    ⟨up, by decide +kernel⟩,
    ⟨{ up with time := { now := 1000000000, state := .holdover, ppsOutEn := true, dialogue := true, ptmFails := 3, steps := 2 } }, by
      decide +kernel⟩,
    ⟨{ up with time := { now := 1000, state := .locked } }, by decide +kernel⟩,
    ⟨{ up with time := { now := 1000000000, state := .holdover, ppsOutEn := true, dialogue := true, ptmFails := 3, steps := 2 } }, by
      decide +kernel⟩,
    ⟨pow (fun p => { p with padsHeld := true, waiting := [(0, true)] }) up, by decide +kernel⟩⟩

theorem witness_OrderCompletions :
    (∃ (s : State) (f : Fn) (k : Nat) (o : Order) (j : Nat), s.order? f k = some o ∧ o.ghost = false ∧ (o.stage = OrderStage.acting ∨ o.stage
      = OrderStage.waiting) ∧ ¬j = k) ∧
    (∃ (s : State) (f : Fn) (k : Nat) (o : Order), s.order? f k = some o ∧ o.code = 0 ∧ o.stage = OrderStage.acting ∧ s.orderFree f o = true ∧
      o.ghost = false) ∧
    (∃ (s : State) (c : Instr) (f : Fn) (code k : Nat), orderRow c = some (f, code, k) ∧ (∀ (o : Order), ¬(s.order? f k = some o ∧ o.code =
      code ∧ o.stage = OrderStage.acting ∧ s.orderFree f o = true))) :=
  ⟨⟨ord .pf0 [0, 7, 0, 0, 0, 0, 0, 0] up, .pf0, 0, { k := 0, words := [0, 7, 0, 0, 0, 0, 0, 0], stage := .acting }, 1, by decide +kernel⟩,
    ⟨ord .pf0 [0, 7, 0, 0, 0, 0, 0, 0] up, .pf0, 0, { k := 0, words := [0, 7, 0, 0, 0, 0, 0, 0], stage := .acting }, by decide +kernel⟩,
    ⟨up, .grant 0, .pf0, 0x45, 0, rfl, fun o h => by
    have e : up.order? .pf0 0 = none := by decide +kernel
    exact absurd (e.symm.trans
      h.1) nofun⟩⟩

theorem witness_OpenEndpointChecks :
    (∃ (t : TenantId) (k : Nat) (s : State) (o : Order), OrderReady s (Fn.vf t) k 1 o ∧ o.openOk = false) ∧
    (∃ (t : TenantId) (k : Nat) (s : State) (o : Order), OrderReady s (Fn.vf t) k 1 o ∧ o.openOk = true ∧ (s.flow? t o.handle).isSome = true) ∧
    (∃ (t : TenantId) (k : Nat) (s : State) (o : Order), OrderReady s (Fn.vf t) k 1 o ∧ o.openOk = true ∧ s.flow? t o.handle = none ∧ o.gone =
      true) ∧
    (∃ (t : TenantId) (k : Nat) (s : State) (o : Order), OrderReady s (Fn.vf t) k 1 o ∧ o.openOk = true ∧ s.flow? t o.handle = none ∧ o.gone =
      false ∧ s.vpDev t o.openVp = none) ∧
    (∃ (t : TenantId) (k : Nat) (cfg : List AltSetting) (s : State) (o : Order) (d : Dev), OrderReady s (Fn.vf t) k 1 o ∧ o.openOk = true ∧
      s.flow? t o.handle = none ∧ o.gone = false ∧ s.vpDev t o.openVp = some d ∧ d.reset = ResetFor.none ∧ d.resume = ResumeSt.none ∧
      d.endpoint cfg o.epAddr = none) ∧
    (∃ (t : TenantId) (k : Nat) (cfg : List AltSetting) (s : State) (o : Order) (d : Dev) (e : EpDesc), OrderReady s (Fn.vf t) k 1 o ∧
      o.openOk = true ∧ s.flow? t o.handle = none ∧ o.gone = false ∧ s.vpDev t o.openVp = some d ∧ d.reset = ResetFor.none ∧ d.resume =
      ResumeSt.none ∧ d.endpoint cfg o.epAddr = some e ∧ (s.share t).epQuota ≤ s.use t) ∧
    (∃ (t : TenantId) (k : Nat) (cfg : List AltSetting) (s : State) (o : Order) (d : Dev) (e : EpDesc) (r : Option Resv) (s1 : State) (n :
      Nat), OrderReady s (Fn.vf t) k 1 o ∧ o.openOk = true ∧ s.flow? t o.handle = none ∧ o.gone = false ∧ s.vpDev t o.openVp = some d ∧
      d.reset = ResetFor.none ∧ d.resume = ResumeSt.none ∧ d.endpoint cfg o.epAddr = some e ∧ s.use t < (s.share t).epQuota ∧ s.admitEp t
      d e = (some r, s1) ∧ s1.freeEntry (s1.share t).bank = some n) ∧
    (∃ (t : TenantId) (k : Nat) (cfg : List AltSetting) (s : State) (o : Order) (d : Dev) (e : EpDesc) (s1 : State), OrderReady s (Fn.vf t) k
      1 o ∧ o.openOk = true ∧ s.flow? t o.handle = none ∧ o.gone = false ∧ s.vpDev t o.openVp = some d ∧ d.reset = ResetFor.none ∧
      d.resume = ResumeSt.none ∧ d.endpoint cfg o.epAddr = some e ∧ s.use t < (s.share t).epQuota ∧ s.admitEp t d e = (none, s1)) :=
  ⟨⟨0, 0, ord (.vf 0) [1, 7, 0x81010009, 0x4000, 4, 0, 0, 0] devs,
      { k := 0, words := [1, 7, 0x81010009, 16384, 4, 0, 0, 0], stage := .acting }, by decide +kernel⟩,
    ⟨0, 0, ord (.vf 0) [1, 7, 0x81010001, 0x4000, 0x10, 0, 0, 0] ((withFlows [flow 1 inEp, flow 2 outEp, flow 0 ctlEp, flow 3 isoEp])),
      { k := 0, words := [1, 7, 0x81010001, 16384, 16, 0, 0, 0], stage := .acting }, by decide +kernel⟩,
    ⟨0, 0, (ord (.vf 0) [1, 7, 0x81010009, 0x4000, 0x10, 0, 0, 0] devs).modOrder (.vf 0) 0 (fun o => { o with gone := true }),
      { k := 0, words := [1, 7, 0x81010009, 16384, 16, 0, 0, 0], stage := .acting, gone := true }, by decide +kernel⟩,
    ⟨0, 0, ord (.vf 0) [1, 7, 0x81050009, 0x4000, 0x10, 0, 0, 0] devs,
      { k := 0, words := [1, 7, 0x81050009, 16384, 16, 0, 0, 0], stage := .acting }, by decide +kernel⟩,
    ⟨0, 0, [], ord (.vf 0) [1, 7, 0x81010001, 0x4000, 0x10, 0, 0, 0] devs,
      { k := 0, words := [1, 7, 0x81010001, 16384, 16, 0, 0, 0], stage := .acting },
      { id := { port := 0, ss := false, path := [1] }, speed := .high, addr := 2, st := .granted, step := .done, desc := some { vid := 1, pid := 2, bcd := 0, bcdUsb := 512, cls := 0, sub := 0, proto := 0, numConfigs := 1, iSerial := 0 }, tenant := some 0, vp := 1, config := 1 },
      by decide +kernel⟩,
    ⟨0, 0, [], ord (.vf 0) [1, 7, 0x10009, 0x4000, 0x10, 0, 0, 0] ((withFlows [flow 1 inEp, flow 2 outEp, flow 0 ctlEp, flow 3 isoEp])),
      { k := 0, words := [1, 7, 65545, 16384, 16, 0, 0, 0], stage := .acting },
      { id := { port := 0, ss := false, path := [1] }, speed := .high, addr := 2, st := .granted, step := .done, desc := some { vid := 1, pid := 2, bcd := 0, bcdUsb := 512, cls := 0, sub := 0, proto := 0, numConfigs := 1, iSerial := 0 }, tenant := some 0, vp := 1, config := 1 },
      { addr := 0, kind := .control, mps := 8, burst := 1, bInterval := 0 }, by decide +kernel⟩,
    ⟨0, 0, [], openDef, { k := 0, words := [1, 7, 65545, 16384, 16, 0, 0, 0], stage := .acting }, dv, ep0, none, openDef, 0, by
      decide +kernel, by decide +kernel, by decide +kernel, by decide +kernel, by decide +kernel, rfl, rfl, by decide +kernel, by
      decide +kernel, rfl, by decide +kernel⟩,
    ⟨0, 0, [⟨0, 0, 8, 6, 80, [isoEp]⟩], noRoom, openIso, dv, isoEp, (noRoom.admitEp 0 dv isoEp).2, by decide +kernel, by decide +kernel, by
      decide +kernel, by decide +kernel, by decide +kernel, rfl, rfl, by decide +kernel, by decide +kernel, pair_eq _ _ (by
      decide +kernel)⟩⟩

theorem witness_CloseEndpoint :
    (∃ (t : TenantId) (k : Nat) (s : State) (o : Order), OrderReady s (Fn.vf t) k 2 o ∧ s.flow? t o.handle = none) ∧
    (∃ (t : TenantId) (k : Nat) (s : State) (o : Order) (f : Flow), OrderReady s (Fn.vf t) k 2 o ∧ s.flow? t o.handle = some f ∧
      s.inTransaction f.entry = true) ∧
    (∃ (t : TenantId) (k : Nat) (s : State) (o : Order) (f : Flow), OrderReady s (Fn.vf t) k 2 o ∧ s.flow? t o.handle = some f ∧
      s.inTransaction f.entry = false ∧ f.xs = [] ∧ f.done = []) ∧
    (∃ (t : TenantId) (k : Nat) (s : State) (o : Order) (f : Flow), OrderReady s (Fn.vf t) k 2 o ∧ s.flow? t o.handle = some f ∧
      s.inTransaction f.entry = false ∧ (f.xs ≠ [] ∨ f.done ≠ [])) :=
  ⟨⟨0, 0, ord (.vf 0) [2, 7, 1, 0, 0, 0, 0, 0] devs, { k := 0, words := [2, 7, 1, 0, 0, 0, 0, 0], stage := .acting }, by decide +kernel⟩,
    ⟨0, 0, ord (.vf 0) [2, 7, 1, 0, 0, 0, 0, 0] ((inW (op 1 .issue) (withFlows
      [{ flow 1 inEp with st := .halted, xs := [xf], tds := [td 0x1000000001] }]))),
      { k := 0, words := [2, 7, 1, 0, 0, 0, 0, 0], stage := .acting },
      { t := 0, h := 1, entry := 1, vp := 1, dev := { port := 0, ss := false, path := [1] }, ep := { addr := 129, kind := .bulk, mps := 512, burst := 1, bInterval := 0 }, cls := 0, plOff := 0, ringBase := 4096, ringEntries := 16, st := .halted, deq := 4096, tds := [{ words := [0x1000000001, 0, 7, 0, 0, 0, 0, 0], addr := 4096, slot := 0, seq := 0, x := 0 }], xs := [{ id := 0, seq := 0, closed := true }] },
      by decide +kernel⟩,
    ⟨0, 0, ord (.vf 0) [2, 7, 1, 0, 0, 0, 0, 0] ((withFlows [{ flow 1 inEp with st := .halted }])),
      { k := 0, words := [2, 7, 1, 0, 0, 0, 0, 0], stage := .acting },
      { t := 0, h := 1, entry := 1, vp := 1, dev := { port := 0, ss := false, path := [1] }, ep := { addr := 129, kind := .bulk, mps := 512, burst := 1, bInterval := 0 }, cls := 0, plOff := 0, ringBase := 4096, ringEntries := 16, st := .halted, deq := 4096 },
      by decide +kernel⟩,
    ⟨0, 0, ord (.vf 0) [2, 7, 1, 0, 0, 0, 0, 0] ((withFlows
      [{ flow 1 inEp with done := [{ seq := 0, sub := 1, ev := none, bad := false }] }])),
      { k := 0, words := [2, 7, 1, 0, 0, 0, 0, 0], stage := .acting },
      { flow 1 inEp with done := [{ seq := 0, sub := 1, ev := none, bad := false }] }, by decide +kernel⟩⟩

theorem witness_HandleOrders :
    (∃ (t : TenantId) (k : Nat) (s : State) (o : Order) (d : Nat), OrderReady s (Fn.vf t) k 3 o ∧ s.haltedChecks t o.handle = some d) ∧
    (∃ (t : TenantId) (k : Nat) (s : State) (o : Order) (f : Flow), OrderReady s (Fn.vf t) k 3 o ∧ s.flow? t o.handle = some f ∧ f.st =
      HandleState.halted) ∧
    (∃ (t : TenantId) (k : Nat) (s : State) (o : Order), OrderReady s (Fn.vf t) k 4 o ∧ ¬field (o.p 1) 0 6 = 0) ∧
    (∃ (t : TenantId) (k : Nat) (s : State) (o : Order) (d : Nat), OrderReady s (Fn.vf t) k 4 o ∧ field (o.p 1) 0 6 = 0 ∧ s.haltedChecks t
      o.handle = some d) ∧
    (∃ (t : TenantId) (k : Nat) (s : State) (o : Order) (f : Flow), OrderReady s (Fn.vf t) k 4 o ∧ field (o.p 1) 0 6 = 0 ∧ s.flow? t o.handle
      = some f ∧ f.st = HandleState.halted) ∧
    (∃ (t : TenantId) (k : Nat) (s : State) (o : Order), OrderReady s (Fn.vf t) k 12 o ∧ 64 < o.group) ∧
    (∃ (t : TenantId) (k : Nat) (s : State) (o : Order), OrderReady s (Fn.vf t) k 12 o ∧ o.group ≤ 64 ∧ s.flow? t o.handle = none) ∧
    (∃ (t : TenantId) (k : Nat) (s : State) (o : Order) (f : Flow), OrderReady s (Fn.vf t) k 12 o ∧ o.group ≤ 64 ∧ s.flow? t o.handle = some f
      ∧ ¬o.group = 0 ∧ ¬f.group = o.group ∧ 16 ≤ (List.filter (fun g => decide (g.t = t) && decide (g.group = o.group)) s.flows).length) ∧
    (∃ (t : TenantId) (k : Nat) (s : State) (o : Order) (f : Flow), OrderReady s (Fn.vf t) k 12 o ∧ o.group ≤ 64 ∧ s.flow? t o.handle = some f
      ∧ (f.group = o.group ∨ o.group = 0 ∨ (List.filter (fun g => decide (g.t = t) && decide (g.group = o.group)) s.flows).length < 16) ∧
      ¬f.tds = []) ∧
    (∃ (t : TenantId) (k : Nat) (s : State) (o : Order) (f : Flow), OrderReady s (Fn.vf t) k 12 o ∧ o.group ≤ 64 ∧ s.flow? t o.handle = some f
      ∧ (f.group = o.group ∨ o.group = 0 ∨ (List.filter (fun g => decide (g.t = t) && decide (g.group = o.group)) s.flows).length < 16) ∧
      f.tds = [] ∧ f.done = []) :=
  ⟨⟨0, 0, ord (.vf 0) [3, 7, 1, 0, 0, 0, 0, 0] devs, { k := 0, words := [3, 7, 1, 0, 0, 0, 0, 0], stage := .acting }, 2, by decide +kernel⟩,
    ⟨0, 0, ord (.vf 0) [3, 7, 1, 0, 0, 0, 0, 0] ((withFlows [{ flow 1 inEp with st := .halted }])),
      { k := 0, words := [3, 7, 1, 0, 0, 0, 0, 0], stage := .acting },
      { t := 0, h := 1, entry := 1, vp := 1, dev := { port := 0, ss := false, path := [1] }, ep := { addr := 129, kind := .bulk, mps := 512, burst := 1, bInterval := 0 }, cls := 0, plOff := 0, ringBase := 4096, ringEntries := 16, st := .halted, deq := 4096 },
      by decide +kernel⟩,
    ⟨0, 0, ord (.vf 0) [4, 7, 1, 0x5001, 3, 0, 0, 0] devs, { k := 0, words := [4, 7, 1, 20481, 3, 0, 0, 0], stage := .acting }, by
      decide +kernel⟩,
    ⟨0, 0, ord (.vf 0) [4, 7, 1, 0x5000, 3, 0, 0, 0] devs, { k := 0, words := [4, 7, 1, 20480, 3, 0, 0, 0], stage := .acting }, 2, by
      decide +kernel⟩,
    ⟨0, 0, ord (.vf 0) [4, 7, 1, 0x5000, 3, 0, 0, 0] ((withFlows [{ flow 1 inEp with st := .halted }])),
      { k := 0, words := [4, 7, 1, 20480, 3, 0, 0, 0], stage := .acting },
      { t := 0, h := 1, entry := 1, vp := 1, dev := { port := 0, ss := false, path := [1] }, ep := { addr := 129, kind := .bulk, mps := 512, burst := 1, bInterval := 0 }, cls := 0, plOff := 0, ringBase := 4096, ringEntries := 16, st := .halted, deq := 4096 },
      by decide +kernel⟩,
    ⟨0, 0, ord (.vf 0) [0xc, 7, 0x460001, 0, 0, 0, 0, 0] devs, { k := 0, words := [12, 7, 0x460001, 0, 0, 0, 0, 0], stage := .acting }, by
      decide +kernel⟩,
    ⟨0, 0, ord (.vf 0) [0xc, 7, 1, 0, 0, 0, 0, 0] devs, { k := 0, words := [12, 7, 1, 0, 0, 0, 0, 0], stage := .acting }, by decide +kernel⟩,
    ⟨0, 0, ord (.vf 0) [0xc, 7, 0x50001, 0, 0, 0, 0, 0] ((withFlows ((List.range 17).map (fun i =>
      { flow (Fin.ofNat 1024 (i + 1)) inEp with group := if i = 0 then 0 else 5 })))),
      { k := 0, words := [12, 7, 0x50001, 0, 0, 0, 0, 0], stage := .acting }, flow 1 inEp, by decide +kernel⟩,
    ⟨0, 0, ord (.vf 0) [0xc, 7, 1, 0, 0, 0, 0, 0] ((withFlows [{ flow 1 inEp with xs := [xf], tds := [td 0x1000000001] }])),
      { k := 0, words := [12, 7, 1, 0, 0, 0, 0, 0], stage := .acting },
      { flow 1 inEp with tds := [{ words := [0x1000000001, 0, 7, 0, 0, 0, 0, 0], addr := 4096, slot := 0, seq := 0, x := 0 }], xs := [{ id := 0, seq := 0, closed := true }] },
      by decide +kernel⟩,
    ⟨0, 0, ord (.vf 0) [0xc, 7, 1, 0, 0, 0, 0, 0] ((withFlows [{ flow 1 inEp with st := .halted }])),
      { k := 0, words := [12, 7, 1, 0, 0, 0, 0, 0], stage := .acting },
      { t := 0, h := 1, entry := 1, vp := 1, dev := { port := 0, ss := false, path := [1] }, ep := { addr := 129, kind := .bulk, mps := 512, burst := 1, bInterval := 0 }, cls := 0, plOff := 0, ringBase := 4096, ringEntries := 16, st := .halted, deq := 4096 },
      by decide +kernel⟩⟩

theorem witness_DevicePortOrders :
    (∃ (t : TenantId) (k : Nat) (s : State) (o : Order) (code : Nat), (code = 5 ∨ code = 6 ∨ code = 7) ∧ s.order? (Fn.vf t) k = some o ∧
      o.code = code ∧ o.stage = OrderStage.acting ∧ s.orderFree (Fn.vf t) o = true ∧ o.ghost = false ∧ (o.vp = 0 ∨ 64 < o.vp)) ∧
    (∃ (t : TenantId) (k : Nat) (s : State) (o : Order) (code : Nat), (code = 5 ∨ code = 6 ∨ code = 7) ∧ s.order? (Fn.vf t) k = some o ∧
      o.code = code ∧ o.stage = OrderStage.acting ∧ s.orderFree (Fn.vf t) o = true ∧ o.ghost = false ∧ 1 ≤ o.vp ∧ o.vp ≤ 64 ∧ o.gone =
      true) ∧
    (∃ (t : TenantId) (k : Nat) (s : State) (o : Order) (code : Nat), (code = 5 ∨ code = 6 ∨ code = 7) ∧ s.order? (Fn.vf t) k = some o ∧
      o.code = code ∧ o.stage = OrderStage.acting ∧ s.orderFree (Fn.vf t) o = true ∧ o.ghost = false ∧ 1 ≤ o.vp ∧ o.vp ≤ 64 ∧ o.gone =
      false ∧ s.vpDev t o.vp = none) ∧
    (∃ (t : TenantId) (k : Nat) (s : State) (o : Order) (d : Dev), 1 ≤ o.vp ∧ o.vp ≤ 64 ∧ o.gone = false ∧ s.vpDev t o.vp = some d ∧ s.dev?
      d.id = some d ∧ d.reset = ResetFor.none ∧ d.suspendWait = none ∧ OrderReady s (Fn.vf t) k 5 o ∧ d.resume = ResumeSt.none ∧
      s.handshaking d.id = false ∧ s.devBusy d.id = false) ∧
    (∃ (t : TenantId) (k : Nat) (s : State) (o : Order) (d : Dev), 1 ≤ o.vp ∧ o.vp ≤ 64 ∧ o.gone = false ∧ s.vpDev t o.vp = some d ∧ s.dev?
      d.id = some d ∧ d.reset = ResetFor.none ∧ d.suspendWait = none ∧ OrderReady s (Fn.vf t) k 6 o ∧ d.resume = ResumeSt.none ∧
      d.suspended = true) ∧
    (∃ (t : TenantId) (k : Nat) (s : State) (o : Order) (d : Dev), 1 ≤ o.vp ∧ o.vp ≤ 64 ∧ o.gone = false ∧ s.vpDev t o.vp = some d ∧ s.dev?
      d.id = some d ∧ d.reset = ResetFor.none ∧ d.suspendWait = none ∧ OrderReady s (Fn.vf t) k 6 o ∧ d.resume = ResumeSt.none ∧
      d.suspended = false ∧ s.devBusy d.id = true) ∧
    (∃ (t : TenantId) (k : Nat) (s : State) (o : Order) (d : Dev), 1 ≤ o.vp ∧ o.vp ≤ 64 ∧ o.gone = false ∧ s.vpDev t o.vp = some d ∧ s.dev?
      d.id = some d ∧ d.reset = ResetFor.none ∧ d.suspendWait = none ∧ OrderReady s (Fn.vf t) k 6 o ∧ d.resume = ResumeSt.none ∧
      d.suspended = false ∧ s.devBusy d.id = false) ∧
    (∃ (t : TenantId) (k : Nat) (s : State) (o : Order) (d : Dev), 1 ≤ o.vp ∧ o.vp ≤ 64 ∧ o.gone = false ∧ s.vpDev t o.vp = some d ∧ s.dev?
      d.id = some d ∧ d.reset = ResetFor.none ∧ d.suspendWait = none ∧ OrderReady s (Fn.vf t) k 7 o ∧ d.resume = ResumeSt.none ∧
      d.suspended = false) ∧
    (∃ (t : TenantId) (k : Nat) (s : State) (o : Order) (d : Dev), 1 ≤ o.vp ∧ o.vp ≤ 64 ∧ o.gone = false ∧ s.vpDev t o.vp = some d ∧ s.dev?
      d.id = some d ∧ d.reset = ResetFor.none ∧ d.suspendWait = none ∧ OrderReady s (Fn.vf t) k 7 o ∧ d.resume = ResumeSt.none ∧
      d.suspended = true) :=
  ⟨⟨0, 0, ord (.vf 0) [5, 7, 0, 0, 0, 0, 0, 0] up, { k := 0, words := [5, 7, 0, 0, 0, 0, 0, 0], stage := .acting }, 5, by decide +kernel⟩,
    ⟨0, 0, (ord (.vf 0) [5, 7, 1, 0, 0, 0, 0, 0] devs).modOrder (.vf 0) 0 (fun o => { o with gone := true }),
      { k := 0, words := [5, 7, 1, 0, 0, 0, 0, 0], stage := .acting, gone := true }, 5, by decide +kernel⟩,
    ⟨0, 0, ord (.vf 0) [5, 7, 1, 0, 0, 0, 0, 0] up, { k := 0, words := [5, 7, 1, 0, 0, 0, 0, 0], stage := .acting }, 5, by decide +kernel⟩,
    ⟨0, 0, ord (.vf 0) [5, 7, 1, 0, 0, 0, 0, 0] devs, { k := 0, words := [5, 7, 1, 0, 0, 0, 0, 0], stage := .acting },
      { id := { port := 0, ss := false, path := [1] }, speed := .high, addr := 2, st := .granted, step := .done, desc := some { vid := 1, pid := 2, bcd := 0, bcdUsb := 512, cls := 0, sub := 0, proto := 0, numConfigs := 1, iSerial := 0 }, tenant := some 0, vp := 1, config := 1 },
      by decide +kernel⟩,
    ⟨0, 0, ord (.vf 0) [6, 7, 1, 0, 0, 0, 0, 0] ((setDev (fun d => { d with suspended := true }) devs)),
      { k := 0, words := [6, 7, 1, 0, 0, 0, 0, 0], stage := .acting },
      { id := { port := 0, ss := false, path := [1] }, speed := .high, addr := 2, st := .granted, step := .done, desc := some { vid := 1, pid := 2, bcd := 0, bcdUsb := 512, cls := 0, sub := 0, proto := 0, numConfigs := 1, iSerial := 0 }, tenant := some 0, vp := 1, config := 1, suspended := true },
      by decide +kernel⟩,
    ⟨0, 0, ord (.vf 0) [6, 7, 1, 0, 0, 0, 0, 0] ((inW { op 1 .issue with tx := some (0, ⟨.data, true, 512, 512, 1⟩) } (withFlows [flow 1
      inEp]))), { k := 0, words := [6, 7, 1, 0, 0, 0, 0, 0], stage := .acting },
      { id := { port := 0, ss := false, path := [1] }, speed := .high, addr := 2, st := .granted, step := .done, desc := some { vid := 1, pid := 2, bcd := 0, bcdUsb := 512, cls := 0, sub := 0, proto := 0, numConfigs := 1, iSerial := 0 }, tenant := some 0, vp := 1, config := 1 },
      by decide +kernel⟩,
    ⟨0, 0, ord (.vf 0) [6, 7, 1, 0, 0, 0, 0, 0] devs, { k := 0, words := [6, 7, 1, 0, 0, 0, 0, 0], stage := .acting },
      { id := { port := 0, ss := false, path := [1] }, speed := .high, addr := 2, st := .granted, step := .done, desc := some { vid := 1, pid := 2, bcd := 0, bcdUsb := 512, cls := 0, sub := 0, proto := 0, numConfigs := 1, iSerial := 0 }, tenant := some 0, vp := 1, config := 1 },
      by decide +kernel⟩,
    ⟨0, 0, ord (.vf 0) [7, 7, 1, 0, 0, 0, 0, 0] devs, { k := 0, words := [7, 7, 1, 0, 0, 0, 0, 0], stage := .acting },
      { id := { port := 0, ss := false, path := [1] }, speed := .high, addr := 2, st := .granted, step := .done, desc := some { vid := 1, pid := 2, bcd := 0, bcdUsb := 512, cls := 0, sub := 0, proto := 0, numConfigs := 1, iSerial := 0 }, tenant := some 0, vp := 1, config := 1 },
      by decide +kernel⟩,
    ⟨0, 0, ord (.vf 0) [7, 7, 1, 0, 0, 0, 0, 0] ((setDev (fun d => { d with suspended := true }) devs)),
      { k := 0, words := [7, 7, 1, 0, 0, 0, 0, 0], stage := .acting },
      { id := { port := 0, ss := false, path := [1] }, speed := .high, addr := 2, st := .granted, step := .done, desc := some { vid := 1, pid := 2, bcd := 0, bcdUsb := 512, cls := 0, sub := 0, proto := 0, numConfigs := 1, iSerial := 0 }, tenant := some 0, vp := 1, config := 1, suspended := true },
      by decide +kernel⟩⟩

theorem witness_SealingAndCountOrders :
    (∃ (t : TenantId) (k : Nat) (s : State) (o : Order) (d : Nat), OrderReady s (Fn.vf t) k 8 o ∧ s.sealChecks t o.handle = some d) ∧
    (∃ (t : TenantId) (k : Nat) (s : State) (o : Order) (f : Flow), OrderReady s (Fn.vf t) k 8 o ∧ s.flow? t o.handle = some f ∧ s.sealChecks
      t o.handle = none ∧ ¬f.tds = []) ∧
    (∃ (t : TenantId) (k : Nat) (s : State) (o : Order) (f : Flow), OrderReady s (Fn.vf t) k 8 o ∧ s.flow? t o.handle = some f ∧ s.sealChecks
      t o.handle = none ∧ f.tds = [] ∧ s.sealStep1 t false = none) ∧
    (∃ (t : TenantId) (k : Nat) (s : State) (o : Order) (f : Flow), OrderReady s (Fn.vf t) k 9 o ∧ s.flow? t o.handle = some f ∧ (f.st =
      HandleState.running ∨ f.st = HandleState.halted) ∧ f.key = none) ∧
    (∃ (t : TenantId) (k : Nat) (s : State) (o : Order) (f : Flow) (c : KeyCtx), OrderReady s (Fn.vf t) k 9 o ∧ s.flow? t o.handle = some f ∧
      (f.st = HandleState.running ∨ f.st = HandleState.halted) ∧ f.key = some c ∧ s.sealPolicy (s.classOf f) = 1) ∧
    (∃ (t : TenantId) (k : Nat) (s : State) (o : Order) (f : Flow) (c : KeyCtx), OrderReady s (Fn.vf t) k 9 o ∧ s.flow? t o.handle = some f ∧
      (f.st = HandleState.running ∨ f.st = HandleState.halted) ∧ f.key = some c ∧ ¬s.sealPolicy (s.classOf f) = 1 ∧ ¬f.tds = []) ∧
    (∃ (t : TenantId) (k : Nat) (s : State) (o : Order) (f : Flow) (c : KeyCtx), OrderReady s (Fn.vf t) k 9 o ∧ s.flow? t o.handle = some f ∧
      (f.st = HandleState.running ∨ f.st = HandleState.halted) ∧ f.key = some c ∧ ¬s.sealPolicy (s.classOf f) = 1 ∧ f.tds = []) ∧
    (∃ (t : TenantId) (k : Nat) (s : State) (o : Order) (st : Status) (d : Nat), OrderReady s (Fn.vf t) k 10 o ∧ s.countChecks t o = some (st,
      d)) ∧
    (∃ (t : TenantId) (k : Nat) (s : State) (o : Order), OrderReady s (Fn.vf t) k 10 o ∧ s.countChecks t o = none ∧ s.peat.powerFail = true) ∧
    (∃ (t : TenantId) (k : Nat) (s : State) (o : Order), OrderReady s (Fn.vf t) k 10 o ∧ s.countChecks t o = none ∧ s.peat.powerFail = false ∧
      (s.counter (o.counterIdx t)).next + o.count ≤ (s.counter (o.counterIdx t)).limit) ∧
    (∃ (t : TenantId) (k : Nat) (s : State) (o : Order), OrderReady s (Fn.vf t) k 11 o ∧ ¬field (o.p 0) 0 3 = 0) ∧
    (∃ (t : TenantId) (k : Nat) (s : State) (o : Order), OrderReady s (Fn.vf t) k 11 o ∧ field (o.p 0) 0 3 = 0 ∧ s.fuses.revoked = true) ∧
    (∃ (t : TenantId) (k : Nat) (s : State) (o : Order), OrderReady s (Fn.vf t) k 11 o ∧ field (o.p 0) 0 3 = 0 ∧ s.fuses.revoked = false) ∧
    (∃ (t : TenantId) (k : Nat) (s : State) (o : Order) (u : CoreId), s.order? (Fn.vf t) k = some o ∧ o.code = 11 ∧ o.stage =
      OrderStage.waiting ∧ o.ghost = false ∧ s.itemCore ItemCode.sealArith (attestArg t k) = some u) :=
  ⟨⟨0, 0, ord (.vf 0) [8, 7, 1]
      { withFlows [flow 1 inEp] with seals := { hs := [{ t := 0, h := 1, rekey := false, step := .pipe }] }, peat := mounted.peat },
      { k := 0, words := [8, 7, 1], stage := .acting }, 7, by decide +kernel⟩,
    ⟨0, 0, ord (.vf 0) [8, 7, 1, 0, 0, 0, 0, 0] ((sealing ({ flow 1 inEp with xs := [xf], tds := [td 0x1000000001] }) (up.peat))),
      { k := 0, words := [8, 7, 1, 0, 0, 0, 0, 0], stage := .acting },
      { flow 1 inEp with tds := [{ words := [0x1000000001, 0, 7, 0, 0, 0, 0, 0], addr := 4096, slot := 0, seq := 0, x := 0 }], xs := [{ id := 0, seq := 0, closed := true }] },
      by decide +kernel⟩,
    ⟨0, 0, ord (.vf 0) [8, 7, 1, 0, 0, 0, 0, 0] ((sealing (flow 1 inEp) (mounted.peat))),
      { k := 0, words := [8, 7, 1, 0, 0, 0, 0, 0], stage := .acting }, flow 1 inEp, by decide +kernel⟩,
    ⟨0, 0, ord (.vf 0) [9, 7, 1, 0, 0, 0, 0, 0] ((withFlows [{ flow 1 inEp with st := .halted }])),
      { k := 0, words := [9, 7, 1, 0, 0, 0, 0, 0], stage := .acting },
      { t := 0, h := 1, entry := 1, vp := 1, dev := { port := 0, ss := false, path := [1] }, ep := { addr := 129, kind := .bulk, mps := 512, burst := 1, bInterval := 0 }, cls := 0, plOff := 0, ringBase := 4096, ringEntries := 16, st := .halted, deq := 4096 },
      by decide +kernel⟩,
    ⟨0, 0, ord (.vf 0) [9, 7, 1, 0, 0, 0, 0, 0]
      (({ withFlows [{ flow 1 inEp with key := some key0 }] with img := { up.img with image := some { img0 with sealSec := some { repin := false, tcPolicy := 0x5555, rekeyS := 1, anchors := [] } } } })),
      { k := 0, words := [9, 7, 1, 0, 0, 0, 0, 0], stage := .acting },
      { flow 1 inEp with key := some { entry := 9, epoch := 0, seq := 0, deadline := some 100, unitLog2 := 9, prk := 0 } },
      { entry := 9, epoch := 0, seq := 0, deadline := some 100, unitLog2 := 9, prk := 0 }, by decide +kernel⟩,
    ⟨0, 0, ord (.vf 0) [9, 7, 1, 0, 0, 0, 0, 0] ((withFlows [{ flow 1 inEp with key := some key0, xs := [xf], tds := [td 0x1000000001] }])),
      { k := 0, words := [9, 7, 1, 0, 0, 0, 0, 0], stage := .acting },
      { flow 1 inEp with tds := [{ words := [0x1000000001, 0, 7, 0, 0, 0, 0, 0], addr := 4096, slot := 0, seq := 0, x := 0 }], xs := [{ id := 0, seq := 0, closed := true }], key := some { entry := 9, epoch := 0, seq := 0, deadline := some 100, unitLog2 := 9, prk := 0 } },
      { entry := 9, epoch := 0, seq := 0, deadline := some 100, unitLog2 := 9, prk := 0 }, by decide +kernel⟩,
    ⟨0, 0, ord (.vf 0) [9, 7, 1, 0, 0, 0, 0, 0] ((withFlows [{ flow 1 inEp with key := some key0 }])),
      { k := 0, words := [9, 7, 1, 0, 0, 0, 0, 0], stage := .acting },
      { flow 1 inEp with key := some { entry := 9, epoch := 0, seq := 0, deadline := some 100, unitLog2 := 9, prk := 0 } },
      { entry := 9, epoch := 0, seq := 0, deadline := some 100, unitLog2 := 9, prk := 0 }, by decide +kernel⟩,
    ⟨0, 0, ord (.vf 0) [0xa, 7, 0, 0, 0, 0, 0, 0] up, { k := 0, words := [10, 7, 0, 0, 0, 0, 0, 0], stage := .acting }, .badDescriptor, 0, by
      decide +kernel⟩,
    ⟨0, 0, ord (.vf 0) [0xa, 7, 0x501, 0, 0, 0, 0, 0] ((peat (fun p => { p with powerFail := true }) mounted)),
      { k := 0, words := [10, 7, 1281, 0, 0, 0, 0, 0], stage := .acting }, by decide +kernel⟩,
    ⟨0, 0, ord (.vf 0) [0xa, 7, 0x501, 0, 0, 0, 0, 0] ((mounted.modTenant 0 (fun x =>
      { x with counters := Vector.replicate 4 { next := 5, limit := 100, size := 4096 } }))),
      { k := 0, words := [10, 7, 1281, 0, 0, 0, 0, 0], stage := .acting }, by decide +kernel⟩,
    ⟨0, 0, ord (.vf 0) [0xb, 7, 7, 0, 0, 0, 0, 0] up, { k := 0, words := [11, 7, 7, 0, 0, 0, 0, 0], stage := .acting }, by decide +kernel⟩,
    ⟨0, 0, ord (.vf 0) [0xb, 7, 8, 0, 0, 0, 0, 0] ({ up with fuses := { revoked := true } }),
      { k := 0, words := [11, 7, 8, 0, 0, 0, 0, 0], stage := .acting }, by decide +kernel⟩,
    ⟨0, 0, ord (.vf 0) [0xb, 7, 8, 0, 0, 0, 0, 0] up, { k := 0, words := [11, 7, 8, 0, 0, 0, 0, 0], stage := .acting }, by decide +kernel⟩,
    ⟨0, 0,
      { (item .sealArith (attestArg 0 0) up) with tenants := up.tenants.set 0 { up.tenants[0] with rings := { up.tenants[0].rings with orders := [{ k := 0, words := [11, 7, 8], stage := .waiting }] } } },
      { k := 0, words := [11, 7, 8], stage := .waiting }, 0, by decide +kernel⟩⟩

theorem witness_TenancyOrders :
    (∃ (k : Nat) (s : State) (o : Order) (e : TenantEntry), OrderReady s Fn.pf0 k 64 o ∧ s.entry? o.tenant = some e ∧ (s.tenant o.tenant).st =
      TenantState.quiesced) ∧
    (∃ (k : Nat) (s : State) (o : Order) (e : TenantEntry), OrderReady s Fn.pf0 k 64 o ∧ s.entry? o.tenant = some e ∧ (s.tenant o.tenant).st =
      TenantState.standby ∧ s.missing o.tenant e.init.epQuota = 0) ∧
    (∃ (k : Nat) (s : State) (o : Order) (e : TenantEntry), OrderReady s Fn.pf0 k 64 o ∧ s.entry? o.tenant = some e ∧ (s.tenant o.tenant).st =
      TenantState.standby ∧ ¬s.missing o.tenant e.init.epQuota = 0) ∧
    (∃ (k : Nat) (s : State) (o : Order), OrderReady s Fn.pf0 k 64 o ∧ s.entry? o.tenant = none) ∧
    (∃ (k : Nat) (s : State) (o : Order), OrderReady s Fn.pf0 k 65 o ∧ (s.entry? o.tenant).isSome = true ∧ (s.tenant o.tenant).st =
      TenantState.quiesced) ∧
    (∃ (k : Nat) (s : State) (o : Order), OrderReady s Fn.pf0 k 65 o ∧ (s.entry? o.tenant).isSome = true ∧ (s.tenant o.tenant).st =
      TenantState.quiescing) ∧
    (∃ (k : Nat) (s : State) (o : Order), OrderReady s Fn.pf0 k 65 o ∧ (s.entry? o.tenant).isSome = true ∧ (s.tenant o.tenant).st =
      TenantState.active) ∧
    (∃ (k : Nat) (s : State) (o : Order), OrderReady s Fn.pf0 k 65 o ∧ (s.entry? o.tenant).isSome = true ∧ (s.tenant o.tenant).st =
      TenantState.standby) ∧
    (∃ (k : Nat) (s : State) (o : Order), OrderReady s Fn.pf0 k 66 o ∧ (s.entry? o.tenant).isSome = true ∧ (s.tenant o.tenant).st =
      TenantState.quiesced ∧ (s.tenant o.tenant).vf = true) ∧
    (∃ (k : Nat) (s : State) (o : Order), OrderReady s Fn.pf0 k 66 o ∧ (s.entry? o.tenant).isSome = true ∧ ¬(s.tenant o.tenant).st =
      TenantState.quiesced) ∧
    (∃ (k : Nat) (s : State) (o : Order), OrderReady s Fn.pf0 k 67 o ∧ (s.entry? o.tenant).isSome = true ∧ (s.tenant o.tenant).st =
      TenantState.quiesced ∧ (s.tenant o.tenant).vf = true ∧ s.devs = []) ∧
    (∃ (k : Nat) (s : State) (o : Order) (t : TenantId), OrderReady s Fn.pf0 k 68 o ∧ t.val = field (o.p 5) 8 8 ∧ s.shareOk o t = false) ∧
    (∃ (k : Nat) (s : State) (o : Order) (t : TenantId) (e : TenantEntry) (i : Nat), OrderReady s Fn.pf0 k 68 o ∧ t.val = field (o.p 5) 8 8 ∧
      s.shareOk o t = true ∧ s.entry? t = some e ∧ ((s.tenant t).st = TenantState.active ∨ (s.tenant t).st = TenantState.quiesced) ∧
      ¬o.shareMask = 0 ∧ s.missing t (o.newShare t (s.share t)).epQuota = 0 ∧ o.outside t e = some i) ∧
    (∃ (k : Nat) (s : State) (o : Order) (t : TenantId) (e : TenantEntry), OrderReady s Fn.pf0 k 68 o ∧ t.val = field (o.p 5) 8 8 ∧ s.shareOk
      o t = true ∧ s.entry? t = some e ∧ ((s.tenant t).st = TenantState.active ∨ (s.tenant t).st = TenantState.quiesced) ∧ ¬o.shareMask =
      0 ∧ s.missing t (o.newShare t (s.share t)).epQuota = 0 ∧ o.outside t e = none) :=
  ⟨⟨0, ord .pf0 [0x40, 7, 2, 0, 0, 0, 0, 0] up, { k := 0, words := [64, 7, 2, 0, 0, 0, 0, 0], stage := .acting },
      { tenant := 2, auto := false, min := vmin, max := vmax, init := share0 }, by decide +kernel⟩,
    ⟨0, ord .pf0 [0x40, 7, 1, 0, 0, 0, 0, 0] up, { k := 0, words := [64, 7, 1, 0, 0, 0, 0, 0], stage := .acting },
      { tenant := 1, auto := false, min := vmin, max := vmax, init := share0 }, by decide +kernel⟩,
    ⟨0, ord .pf0 [0x40, 7, 1, 0, 0, 0, 0, 0]
      ({ up with img := { up.img with image := some { img0 with tenants := [{ tenant := 1, auto := false, min := vmin, max := vmax, init := { share0 with epQuota := 16384 } }] } }, flows := [flow 1 inEp, flow 2 outEp] }),
      { k := 0, words := [64, 7, 1, 0, 0, 0, 0, 0], stage := .acting },
      { tenant := 1, auto := false, min := vmin, max := vmax, init := { share0 with epQuota := 16384 } }, by decide +kernel⟩,
    ⟨0, ord .pf0 [0x40, 7, 9, 0, 0, 0, 0, 0] up, { k := 0, words := [64, 7, 9, 0, 0, 0, 0, 0], stage := .acting }, by decide +kernel⟩,
    ⟨0, ord .pf0 [0x41, 7, 2, 0, 0, 0, 0, 0] up, { k := 0, words := [65, 7, 2, 0, 0, 0, 0, 0], stage := .acting }, by decide +kernel⟩,
    ⟨0, ord .pf0 [0x41, 7, 3, 0, 0, 0, 0, 0] up, { k := 0, words := [65, 7, 3, 0, 0, 0, 0, 0], stage := .acting }, by decide +kernel⟩,
    ⟨0, ord .pf0 [0x41, 7, 0, 0, 0, 0, 0, 0] up, { k := 0, words := [65, 7, 0, 0, 0, 0, 0, 0], stage := .acting }, by decide +kernel⟩,
    ⟨0, ord .pf0 [0x41, 7, 1, 0, 0, 0, 0, 0] up, { k := 0, words := [65, 7, 1, 0, 0, 0, 0, 0], stage := .acting }, by decide +kernel⟩,
    ⟨0, ord .pf0 [0x42, 7, 2, 0, 0, 0, 0, 0] up, { k := 0, words := [66, 7, 2, 0, 0, 0, 0, 0], stage := .acting }, by decide +kernel⟩,
    ⟨0, ord .pf0 [0x42, 7, 0, 0, 0, 0, 0, 0] up, { k := 0, words := [66, 7, 0, 0, 0, 0, 0, 0], stage := .acting }, by decide +kernel⟩,
    ⟨0, ord .pf0 [0x43, 7, 2, 0, 0, 0, 0, 0] up, { k := 0, words := [67, 7, 2, 0, 0, 0, 0, 0], stage := .acting }, by decide +kernel⟩,
    ⟨0, ord .pf0 [0x44, 7, 1, 2, 3, 4, 5, 0x3fff0000] up, { k := 0, words := [68, 7, 1, 2, 3, 4, 5, 0x3fff0000], stage := .acting }, 0, by
      decide +kernel⟩,
    ⟨0, ord .pf0 [0x44, 7, 0x3e8, 0, 0, 0, 0, 0x10000] up, { k := 0, words := [68, 7, 1000, 0, 0, 0, 0, 65536], stage := .acting }, 0,
      { tenant := 0, auto := false, min := vmin, max := vmax, init := share0 }, 0, by decide +kernel⟩,
    ⟨0, ord .pf0 [0x44, 7, 1, 0, 0, 0, 0, 0x10000] up, { k := 0, words := [68, 7, 1, 0, 0, 0, 0, 65536], stage := .acting }, 0,
      { tenant := 0, auto := false, min := vmin, max := vmax, init := share0 }, by decide +kernel⟩⟩

theorem witness_GrantOrders :
    (∃ (k : Nat) (s : State) (o : Order), OrderReady s Fn.pf0 k 69 o ∧ o.grantVpField ≤ 64 ∧ s.devAt o.device = none) ∧
    (∃ (k : Nat) (s : State) (o : Order) (d : Dev), OrderReady s Fn.pf0 k 69 o ∧ o.grantVpField ≤ 64 ∧ s.devAt o.device = some d ∧ s.dev? d.id
      = some d ∧ d.reset = ResetFor.none ∧ d.resetWait = ResetFor.none ∧ d.resume = ResumeSt.none ∧ ¬d.st = DevState.unmatched) ∧
    (∃ (k : Nat) (s : State) (o : Order) (d : Dev), OrderReady s Fn.pf0 k 69 o ∧ o.grantVpField ≤ 64 ∧ s.devAt o.device = some d ∧ s.dev? d.id
      = some d ∧ d.reset = ResetFor.none ∧ d.resetWait = ResetFor.none ∧ d.resume = ResumeSt.none ∧ d.st = DevState.unmatched ∧ s.entry?
      o.grantTenant = none) ∧
    (∃ (k : Nat) (s : State) (o : Order) (d : Dev), OrderReady s Fn.pf0 k 69 o ∧ o.grantVpField ≤ 64 ∧ s.devAt o.device = some d ∧ s.dev? d.id
      = some d ∧ d.reset = ResetFor.none ∧ d.resetWait = ResetFor.none ∧ d.resume = ResumeSt.none ∧ d.st = DevState.unmatched ∧ (s.entry?
      o.grantTenant).isSome = true ∧ s.grantVp o.grantTenant o.grantVpField = none) ∧
    (∃ (k : Nat) (s : State) (o : Order) (d : Dev) (v : Nat), OrderReady s Fn.pf0 k 69 o ∧ o.grantVpField ≤ 64 ∧ s.devAt o.device = some d ∧
      s.dev? d.id = some d ∧ d.reset = ResetFor.none ∧ d.resetWait = ResetFor.none ∧ d.resume = ResumeSt.none ∧ d.st = DevState.unmatched
      ∧ (s.entry? o.grantTenant).isSome = true ∧ s.grantVp o.grantTenant o.grantVpField = some v ∧ s.pathAsleep d = false) ∧
    (∃ (k : Nat) (s : State) (o : Order), OrderReady s Fn.pf0 k 70 o ∧ s.devAt o.device = none) ∧
    (∃ (k : Nat) (s : State) (o : Order) (d : Dev), OrderReady s Fn.pf0 k 70 o ∧ s.devAt o.device = some d ∧ ¬d.st = DevState.granted) ∧
    (∃ (k : Nat) (s : State) (o : Order) (d : Dev) (t : TenantId), OrderReady s Fn.pf0 k 70 o ∧ s.devAt o.device = some d ∧ s.dev? d.id = some
      d ∧ d.st = DevState.granted ∧ d.tenant = some t ∧ d.reset = ResetFor.none ∧ d.resume = ResumeSt.none ∧ d.suspendWait = none ∧
      s.pathAsleep d = false) :=
  ⟨⟨0, ord .pf0 [0x45, 7, 0, 0, 0, 0, 0, 0] devs, { k := 0, words := [69, 7, 0, 0, 0, 0, 0, 0], stage := .acting }, by decide +kernel⟩,
    ⟨0, ord .pf0 [0x45, 7, 1, 0, 0, 0, 0, 0] devs, { k := 0, words := [69, 7, 1, 0, 0, 0, 0, 0], stage := .acting }, hubD, by decide +kernel⟩,
    ⟨0, ord .pf0 [0x45, 7, 0x90003, 0, 0, 0, 0, 0] devs, { k := 0, words := [69, 7, 0x90003, 0, 0, 0, 0, 0], stage := .acting },
      { id := { port := 0, ss := false, path := [2] }, speed := .high, addr := 3, st := .unmatched, step := .done, desc := some { vid := 1, pid := 2, bcd := 0, bcdUsb := 512, cls := 0, sub := 0, proto := 0, numConfigs := 1, iSerial := 0 }, config := 1 },
      by decide +kernel⟩,
    ⟨0, ord .pf0 [0x45, 7, 0x1000003, 0, 0, 0, 0, 0] devs, { k := 0, words := [69, 7, 0x1000003, 0, 0, 0, 0, 0], stage := .acting },
      { id := { port := 0, ss := false, path := [2] }, speed := .high, addr := 3, st := .unmatched, step := .done, desc := some { vid := 1, pid := 2, bcd := 0, bcdUsb := 512, cls := 0, sub := 0, proto := 0, numConfigs := 1, iSerial := 0 }, config := 1 },
      by decide +kernel⟩,
    ⟨0, ord .pf0 [0x45, 7, 3, 0, 0, 0, 0, 0] devs, { k := 0, words := [69, 7, 3, 0, 0, 0, 0, 0], stage := .acting },
      { id := { port := 0, ss := false, path := [2] }, speed := .high, addr := 3, st := .unmatched, step := .done, desc := some { vid := 1, pid := 2, bcd := 0, bcdUsb := 512, cls := 0, sub := 0, proto := 0, numConfigs := 1, iSerial := 0 }, config := 1 },
      2, by decide +kernel⟩,
    ⟨0, ord .pf0 [0x46, 7, 0, 0, 0, 0, 0, 0] devs, { k := 0, words := [70, 7, 0, 0, 0, 0, 0, 0], stage := .acting }, by decide +kernel⟩,
    ⟨0, ord .pf0 [0x46, 7, 1, 0, 0, 0, 0, 0] devs, { k := 0, words := [70, 7, 1, 0, 0, 0, 0, 0], stage := .acting }, hubD, by decide +kernel⟩,
    ⟨0, ord .pf0 [0x46, 7, 2, 0, 0, 0, 0, 0] devs, { k := 0, words := [70, 7, 2, 0, 0, 0, 0, 0], stage := .acting },
      { id := { port := 0, ss := false, path := [1] }, speed := .high, addr := 2, st := .granted, step := .done, desc := some { vid := 1, pid := 2, bcd := 0, bcdUsb := 512, cls := 0, sub := 0, proto := 0, numConfigs := 1, iSerial := 0 }, tenant := some 0, vp := 1, config := 1 },
      0, by decide +kernel⟩⟩

theorem witness_SluiceOrders :
    (∃ (k : Nat) (s : State) (o : Order), OrderReady s Fn.pf0 k 71 o ∧ (field (o.p 0) 8 8 = 0 ∨ 128 < field (o.p 0) 8 8)) ∧
    (∃ (k : Nat) (s : State) (o : Order), OrderReady s Fn.pf0 k 71 o ∧ 1 ≤ field (o.p 0) 8 8 ∧ field (o.p 0) 8 8 ≤ 128 ∧ s.sluice.staging =
      false) ∧
    (∃ (k : Nat) (s : State) (o : Order), OrderReady s Fn.pf0 k 71 o ∧ 1 ≤ field (o.p 0) 8 8 ∧ field (o.p 0) 8 8 ≤ 128 ∧ s.sluice.staging =
      true ∧ (vget s.sluice.ports o.sluicePort).state = AdminState.pending) ∧
    (∃ (k : Nat) (s : State) (o : Order) (l : List Word) (i : Nat), OrderReady s Fn.pf0 k 71 o ∧ 1 ≤ field (o.p 0) 8 8 ∧ field (o.p 0) 8 8 ≤
      128 ∧ s.sluice.staging = true ∧ ¬(vget s.sluice.ports o.sluicePort).state = AdminState.pending ∧ s.canSend Fn.pf0 = true ∧ l.length
      = field (o.p 0) 8 8 ∧ List.findIdx? (fun w => !gateWordOk w) l = some i) ∧
    (∃ (k : Nat) (s : State) (o : Order) (l : List Word), OrderReady s Fn.pf0 k 71 o ∧ 1 ≤ field (o.p 0) 8 8 ∧ field (o.p 0) 8 8 ≤ 128 ∧
      s.sluice.staging = true ∧ ¬(vget s.sluice.ports o.sluicePort).state = AdminState.pending ∧ s.canSend Fn.pf0 = true ∧ l.length =
      field (o.p 0) 8 8 ∧ (∀ (w : Word), w ∈ l → gateWordOk w = true) ∧ cycleOf (List.map gateEntry l) ≤ 1000000000) ∧
    (∃ (k : Nat) (s : State) (o : Order), OrderReady s Fn.pf0 k 72 o ∧ o.cancel = false ∧ s.sluice.staging = false) ∧
    (∃ (k : Nat) (s : State) (o : Order), OrderReady s Fn.pf0 k 72 o ∧ o.cancel = false ∧ s.sluice.staging = true ∧ (vget s.sluice.ports
      o.sluicePort).state = AdminState.empty) ∧
    (∃ (k : Nat) (s : State) (o : Order), OrderReady s Fn.pf0 k 72 o ∧ o.cancel = false ∧ s.sluice.staging = true ∧ ¬(vget s.sluice.ports
      o.sluicePort).state = AdminState.empty ∧ ¬s.gateConflicts o.sluicePort (vget s.sluice.ports o.sluicePort).admin (BitVec.toNat (o.p
      1)) = [] ∧ o.force = false) ∧
    (∃ (k : Nat) (s : State) (o : Order), OrderReady s Fn.pf0 k 72 o ∧ o.cancel = false ∧ s.sluice.staging = true ∧ ¬(vget s.sluice.ports
      o.sluicePort).state = AdminState.empty ∧ (s.gateConflicts o.sluicePort (vget s.sluice.ports o.sluicePort).admin (BitVec.toNat (o.p
      1)) = [] ∨ o.force = true)) ∧
    (∃ (k : Nat) (s : State) (o : Order), OrderReady s Fn.pf0 k 72 o ∧ o.cancel = true ∧ ¬o.p 1 = 0) ∧
    (∃ (k : Nat) (s : State) (o : Order), OrderReady s Fn.pf0 k 72 o ∧ o.cancel = true ∧ o.p 1 = 0 ∧ s.sluice.staging = true) ∧
    (∃ (cycle : Nat), 0 < cycle) :=
  ⟨⟨0, ord .pf0 [0x47, 7, 0, 0, 0, 0, 0, 0] up, { k := 0, words := [71, 7, 0, 0, 0, 0, 0, 0], stage := .acting }, by decide +kernel⟩,
    ⟨0, ord .pf0 [0x47, 7, 0x100, 0x1000, 0, 0, 0, 0] (({ up with sluice := { staging := false } })),
      { k := 0, words := [71, 7, 256, 4096, 0, 0, 0, 0], stage := .acting }, by decide +kernel⟩,
    ⟨0, ord .pf0 [0x47, 7, 0x100, 0x1000, 0, 0, 0, 0]
      (({ up with sluice := { staging := true, ports := up.sluice.ports.set 0 { state := .pending, admin := [⟨0xFF, 1000⟩] } } })),
      { k := 0, words := [71, 7, 256, 4096, 0, 0, 0, 0], stage := .acting }, by decide +kernel⟩,
    ⟨0, ord .pf0 [0x47, 7, 0x100, 0x1000, 0, 0, 0, 0] up, { k := 0, words := [71, 7, 256, 4096, 0, 0, 0, 0], stage := .acting }, [1], 0, by
      decide +kernel⟩,
    ⟨0, ord .pf0 [0x47, 7, 0x201, 0x1000, 0, 0, 0, 0] up, { k := 0, words := [71, 7, 513, 4096, 0, 0, 0, 0], stage := .acting },
   
      [256000254, 256000255], by decide +kernel, by decide +kernel, by decide +kernel, by decide +kernel, by decide +kernel, by
      decide +kernel,
    by decide +kernel, fun w h => List.all_eq_true.mp (by decide +kernel : [(256000254 : Word), 256000255].all
      gateWordOk = true) w h, by decide +kernel⟩,
    ⟨0, ord .pf0 [0x48, 7, 0, 0x64, 0, 0, 0, 0] (({ up with sluice := { staging := false } })),
      { k := 0, words := [72, 7, 0, 100, 0, 0, 0, 0], stage := .acting }, by decide +kernel⟩,
    ⟨0, ord .pf0 [0x48, 7, 0, 0x64, 0, 0, 0, 0] up, { k := 0, words := [72, 7, 0, 100, 0, 0, 0, 0], stage := .acting }, by decide +kernel⟩,
    ⟨0, ord .pf0 [0x48, 7, 0, 0x64, 0, 0, 0, 0]
      (({ withFlows [{ flow 3 isoEp with resv := some { port := 0, ss := false, frame := false, phase := 0, width := 1, interval := 1, loads := [(0, 1000)], bytes := 64 } }] with sluice := { staging := true, ports := up.sluice.ports.set 0 { state := .staged, admin := [⟨0xFE, 1000⟩, ⟨0xFF, 1000⟩] } } })),
      { k := 0, words := [72, 7, 0, 100, 0, 0, 0, 0], stage := .acting }, by decide +kernel⟩,
    ⟨0, ord .pf0 [0x48, 7, 0, 0x64, 0, 0, 0, 0]
      (({ up with sluice := { staging := true, ports := up.sluice.ports.set 0 { state := .staged, admin := [⟨0xFF, 1000⟩] } } })),
      { k := 0, words := [72, 7, 0, 100, 0, 0, 0, 0], stage := .acting }, by decide +kernel⟩,
    ⟨0, ord .pf0 [0x48, 7, 0x200, 0x64, 0, 0, 0, 0] up, { k := 0, words := [72, 7, 512, 100, 0, 0, 0, 0], stage := .acting }, by
      decide +kernel⟩,
    ⟨0, ord .pf0 [0x48, 7, 0x200, 0, 0, 0, 0, 0] up, { k := 0, words := [72, 7, 512, 0, 0, 0, 0, 0], stage := .acting }, by decide +kernel⟩,
    ⟨1, by decide +kernel⟩⟩

theorem witness_ImagePeatAndTraceOrders :
    (∃ (k : Nat) (s : State) (o : Order), OrderReady s Fn.pf0 k 73 o ∧ (field (o.p 1) 0 32 = 0 ∨ field (o.p 1) 0 32 % 8 ≠ 0 ∨ 65536 < field
      (o.p 1) 0 32 ∨ 2 ^ 23 < field (o.p 1) 32 24 + field (o.p 1) 0 32)) ∧
    (∃ (k : Nat) (s : State) (o : Order), OrderReady s Fn.pf0 k 73 o ∧ ¬field (o.p 1) 0 32 = 0 ∧ field (o.p 1) 0 32 % 8 = 0 ∧ field (o.p 1) 0
      32 ≤ 65536 ∧ field (o.p 1) 32 24 + field (o.p 1) 0 32 ≤ 2 ^ 23 ∧ s.img.active = (if (o.p 2).getLsbD 1 = true then 1 else 0 : Fin
      2).val + 1) ∧
    (∃ (k : Nat) (s : State) (o : Order), OrderReady s Fn.pf0 k 73 o ∧ ¬field (o.p 1) 0 32 = 0 ∧ field (o.p 1) 0 32 % 8 = 0 ∧ field (o.p 1) 0
      32 ≤ 65536 ∧ field (o.p 1) 32 24 = 0 ∧ ¬s.img.active = (if (o.p 2).getLsbD 1 = true then 1 else 0 : Fin 2).val + 1 ∧
      s.peat.powerFail = false ∧ s.canSend Fn.pf0 = true ∧ BitVec.getLsbD (o.p 2) 0 = false) ∧
    (∃ (k : Nat) (s : State) (o : Order), OrderReady s Fn.pf0 k 76 o ∧ ¬s.fuses.ownerHash = 0) ∧
    (∃ (k : Nat) (s : State) (o : Order), OrderReady s Fn.pf0 k 76 o ∧ s.fuses.ownerHash = 0 ∧ BitVec.getLsbD (o.p 0) 0 = true ∧ s.canSend
      Fn.pf0 = true) ∧
    (∃ (k : Nat) (s : State) (o : Order), OrderReady s Fn.pf0 k 74 o ∧ BitVec.getLsbD (o.p 0) 16 = true ∧ ¬field (o.p 0) 0 11 = 0) ∧
    (∃ (k : Nat) (s : State) (o : Order), OrderReady s Fn.pf0 k 74 o ∧ s.peatUp = false ∧ BitVec.getLsbD (o.p 0) 16 = false) ∧
    (∃ (k : Nat) (s : State) (o : Order), OrderReady s Fn.pf0 k 74 o ∧ s.peatUp = true ∧ BitVec.getLsbD (o.p 0) 16 = true ∧ field (o.p 0) 0 11
      = 0 ∧ s.peat.quars = []) ∧
    (∃ (k : Nat) (s : State) (o : Order), OrderReady s Fn.pf0 k 74 o ∧ s.peatUp = true ∧ BitVec.getLsbD (o.p 0) 16 = true ∧ field (o.p 0) 0 11
      = 0 ∧ ¬s.peat.quars = []) ∧
    (∃ (k : Nat) (s : State) (o : Order), OrderReady s Fn.pf0 k 75 o ∧ (field (o.p 1) 0 16 = 0 ∨ 1024 < field (o.p 1) 0 16)) ∧
    (∃ (k : Nat) (s : State) (o : Order), OrderReady s Fn.pf0 k 75 o ∧ 1 ≤ field (o.p 1) 0 16 ∧ field (o.p 1) 0 16 ≤ 1024 ∧ s.peat.state =
      PeatState.absent) ∧
    (∃ (k : Nat) (s : State) (o : Order), OrderReady s Fn.pf0 k 75 o ∧ 1 ≤ field (o.p 1) 0 16 ∧ field (o.p 1) 0 16 ≤ 1024 ∧ ¬s.peat.state =
      PeatState.absent ∧ (s.canSend Fn.pf0 = true ∨ List.take (field (o.p 1) 0 16) (List.filter (fun e => decide (BitVec.toNat (o.p 2) ≤
      e.index)) s.retained) = [])) ∧
    (∃ (k : Nat) (s : State) (o : Order), OrderReady s Fn.pf0 k 75 o ∧ 1 ≤ field (o.p 1) 0 16 ∧ field (o.p 1) 0 16 ≤ 1024 ∧ ¬s.peat.state =
      PeatState.absent ∧ s.canSend Fn.pf0 = false ∧ ¬List.take (field (o.p 1) 0 16) (List.filter (fun e => decide (BitVec.toNat (o.p 2) ≤
      e.index)) s.retained) = []) ∧
    (∃ (k : Nat) (s : State) (o : Order), OrderReady s Fn.pf0 k 77 o ∧ field (o.p 0) 0 2 = 1 ∧ 8 ≤ field (o.p 2) 0 5 ∧ field (o.p 2) 0 5 ≤ 16
      ∧ s.trace.spilling = false) ∧
    (∃ (k : Nat) (s : State) (o : Order), OrderReady s Fn.pf0 k 77 o ∧ field (o.p 0) 0 2 = 1 ∧ 8 ≤ field (o.p 2) 0 5 ∧ field (o.p 2) 0 5 ≤ 16
      ∧ s.trace.spilling = true) ∧
    (∃ (k : Nat) (s : State) (o : Order), OrderReady s Fn.pf0 k 77 o ∧ field (o.p 0) 0 2 = 0 ∧ o.p 1 = 0 ∧ field (o.p 2) 0 5 = 0 ∧
      s.trace.spilling = false) ∧
    (∃ (k : Nat) (s : State) (o : Order), OrderReady s Fn.pf0 k 77 o ∧ field (o.p 0) 0 2 = 0 ∧ o.p 1 = 0 ∧ field (o.p 2) 0 5 = 0 ∧
      s.trace.spilling = true) ∧
    (∃ (k : Nat) (s : State) (o : Order), OrderReady s Fn.pf0 k 77 o ∧ field (o.p 0) 0 2 = 2 ∧ o.p 1 = 0 ∧ field (o.p 2) 0 5 = 0) ∧
    (∃ (k : Nat) (s : State) (o : Order) (c : Instr), OrderReady s Fn.pf0 k 77 o ∧ field (o.p 0) 0 2 = 3 ∧ (c = Instr.traceStart k ∨ c =
      Instr.traceStop k ∨ c = Instr.traceClear k)) :=
  ⟨⟨0, ord .pf0 [0x49, 7, 0x1000, 0, 0, 0, 0, 0] up, { k := 0, words := [73, 7, 4096, 0, 0, 0, 0, 0], stage := .acting }, by decide +kernel⟩,
    ⟨0, ord .pf0 [0x49, 7, 0x1000, 0x10, 0, 0, 0, 0] up, { k := 0, words := [73, 7, 4096, 16, 0, 0, 0, 0], stage := .acting }, by
      decide +kernel⟩,
    ⟨0, ord .pf0 [0x49, 7, 0x1000, 0x10, 2, 0, 0, 0] up, { k := 0, words := [73, 7, 4096, 16, 2, 0, 0, 0], stage := .acting }, by
      decide +kernel⟩,
    ⟨0, ord .pf0 [0x4c, 7, 1, 0x1000, 0, 0, 0, 0] (({ up with fuses := { ownerHash := 5 } })),
      { k := 0, words := [76, 7, 1, 4096, 0, 0, 0, 0], stage := .acting }, by decide +kernel⟩,
    ⟨0, ord .pf0 [0x4c, 7, 1, 0x1000, 0, 0, 0, 0] up, { k := 0, words := [76, 7, 1, 4096, 0, 0, 0, 0], stage := .acting }, by decide +kernel⟩,
    ⟨0, ord .pf0 [0x4a, 7, 0x10002, 0, 0, 0, 0, 0] up, { k := 0, words := [74, 7, 65538, 0, 0, 0, 0, 0], stage := .acting }, by
      decide +kernel⟩,
    ⟨0, ord .pf0 [0x4a, 7, 2, 0, 0, 0, 0, 0] up, { k := 0, words := [74, 7, 2, 0, 0, 0, 0, 0], stage := .acting }, by decide +kernel⟩,
    ⟨0, ord .pf0 [0x4a, 7, 0x10000, 0, 0, 0, 0, 0] mounted, { k := 0, words := [74, 7, 65536, 0, 0, 0, 0, 0], stage := .acting }, by
      decide +kernel⟩,
    ⟨0, ord .pf0 [0x4a, 7, 0x10000, 0, 0, 0, 0, 0] (({ devs with peat := { mounted.peat with quars := [(1, dv.identity)] } })),
      { k := 0, words := [74, 7, 65536, 0, 0, 0, 0, 0], stage := .acting }, by decide +kernel⟩,
    ⟨0, ord .pf0 [0x4b, 7, 0x1000, 0, 0, 0, 0, 0] up, { k := 0, words := [75, 7, 4096, 0, 0, 0, 0, 0], stage := .acting }, by decide +kernel⟩,
    ⟨0, ord .pf0 [0x4b, 7, 0x1000, 5, 0, 0, 0, 0] up, { k := 0, words := [75, 7, 4096, 5, 0, 0, 0, 0], stage := .acting }, by decide +kernel⟩,
    ⟨0, ord .pf0 [0x4b, 7, 0x1000, 5, 0, 0, 0, 0] mounted, { k := 0, words := [75, 7, 4096, 5, 0, 0, 0, 0], stage := .acting }, by
      decide +kernel⟩,
    ⟨0, ord .pf0 [0x4b, 7, 0x1000, 5]
      { mounted with link := .down, peat := { mounted.peat with events := [{ index := 0, time := 1, mount := 0, code := 3 }], logNext := 1 } },
      { k := 0, words := [75, 7, 4096, 5], stage := .acting }, by decide +kernel⟩,
    ⟨0, ord .pf0 [0x4d, 7, 1, 0x1000, 8, 0, 0, 0] up, { k := 0, words := [77, 7, 1, 4096, 8, 0, 0, 0], stage := .acting }, by decide +kernel⟩,
    ⟨0, ord .pf0 [0x4d, 7, 1, 0x1000, 8, 0, 0, 0] (({ up with trace := { buf := [], spilling := true, log2 := 8, pi := 2, ci := 2 } })),
      { k := 0, words := [77, 7, 1, 4096, 8, 0, 0, 0], stage := .acting }, by decide +kernel⟩,
    ⟨0, ord .pf0 [0x4d, 7, 0, 0, 0, 0, 0, 0] up, { k := 0, words := [77, 7, 0, 0, 0, 0, 0, 0], stage := .acting }, by decide +kernel⟩,
    ⟨0, ord .pf0 [0x4d, 7, 0, 0, 0, 0, 0, 0] (({ up with trace := { buf := [], spilling := true, log2 := 8, pi := 2, ci := 2 } })),
      { k := 0, words := [77, 7, 0, 0, 0, 0, 0, 0], stage := .acting }, by decide +kernel⟩,
    ⟨0, ord .pf0 [0x4d, 7, 2, 0, 0, 0, 0, 0] up, { k := 0, words := [77, 7, 2, 0, 0, 0, 0, 0], stage := .acting }, by decide +kernel⟩,
    ⟨0, ord .pf0 [0x4d, 7, 3, 0, 0, 0, 0, 0] up, { k := 0, words := [77, 7, 3, 0, 0, 0, 0, 0], stage := .acting }, .traceStop 0, by
      decide +kernel⟩⟩

theorem witness_DispatchPlacement :
    (∃ (s : State), s.running Island.sched = false) ∧
    (∃ (s : State), s.restarting Island.sched = true) ∧
    (∃ (s : State), s.running Island.sched = true) :=
  ⟨⟨pow (fun p => { p with islands := p.islands.set 3 { state := .restarting } }) up, by decide +kernel⟩,
    ⟨pow (fun p => { p with islands := p.islands.set 3 { state := .restarting } }) up, by decide +kernel⟩,
    ⟨up, by decide +kernel⟩⟩

theorem witness_FetchTakesEntries :
    (∃ (w : WorkerId) (o : Op) (s : State), Works s (UnitId.worker w) o Node.fetch ∧ ¬o.arg = 0 ∧ o.task = 16640 ∧ (∀ (g : Flow), g ∈ s.flows
      → g.entry < 16384) ∧ s.canSend Fn.pf0 = true) ∧
    (∃ (w : WorkerId) (o : Op) (s : State) (f : Flow), Works s (UnitId.worker w) o Node.fetch ∧ ¬o.arg = 0 ∧ List.find? (fun g => decide
      (g.entry = o.task)) s.flows = some f ∧ s.flow? f.t f.h = some f ∧ (s.tenant f.t).st = TenantState.active ∧ f.st =
      HandleState.running ∧ f.slots = o.ref ∧ f.fetchFault = false ∧ f.ending = none ∧ s.canSend (Fn.vf f.t) = true ∧ o.task < 16384) :=
  ⟨⟨0, { task := 16640, node := .fetch, pl := 0, arg := 2 }, inW (op 16640 .fetch 0 2) up, by decide +kernel⟩,
    ⟨0, { task := 1, node := .fetch, pl := 0, arg := 1 }, inW (op 1 .fetch 0 1) (withFlows
      [{ flow 1 inEp with announced := [(0, 2)], last := 2 }]), { flow 1 inEp with last := 2, announced := [(0, 2)] }, by decide +kernel⟩⟩

theorem witness_CheckJudges :
    (∃ (s : State) (o : Op) (c : CoreId) (r : Order), (∀ (g : Flow), g ∈ s.flows → g.entry < 16384) ∧ Works s (UnitId.core c) o Node.check ∧
      o.task = 16640 ∧ s.order? Fn.pf0 o.ref = some r ∧ r.stage = OrderStage.fetched) ∧
    (∃ (s : State) (o : Op) (w : WorkerId) (f : Flow) (d : Td) (y : Xfer), (∀ (g : Flow), g ∈ s.flows → g.entry < 16384) ∧ Works s
      (UnitId.worker w) o Node.check ∧ o.task < 16384 ∧ List.find? (fun g => decide (g.entry = o.task)) s.flows = some f ∧ s.flow? f.t f.h
      = some f ∧ (s.tenant f.t).st = TenantState.active ∧ f.fetchFault = false ∧ f.ending = none ∧ f.checkNext = some d ∧ d.slot = o.ref ∧
      f.xfer? d.x = some y) :=
  ⟨⟨inC (op 16640 .check)
      ({ up with mgr := { up.mgr with orders := [{ k := 0, words := [0x40, 7, 1, 0, 0, 0, 0, 0], stage := .fetched }] } }),
      { task := 16640, node := .check, pl := 0 }, 0, { k := 0, words := [64, 7, 1, 0, 0, 0, 0, 0] }, by decide +kernel⟩,
    ⟨inW (op 1 .check) (withFlows [{ flow 1 inEp with xs := [xf], tds := [td (norm 16) 0x9000] }]), { task := 1, node := .check, pl := 0 }, 0,
      { flow 1 inEp with tds := [{ words := [0x1000000001, 36864, 7, 0, 0, 0, 0, 0], addr := 4096, slot := 0, seq := 0, x := 0 }], xs := [{ id := 0, seq := 0, closed := true }] },
      { words := [0x1000000001, 36864, 7, 0, 0, 0, 0, 0], addr := 4096, slot := 0, seq := 0, x := 0 },
      { id := 0, seq := 0, closed := true }, by decide +kernel⟩⟩

theorem witness_DataNodes :
    (∃ (w : WorkerId) (o : Op) (f : Flow) (s : State) (p : Piece) (y : Xfer) (d : Td) (readOk : Bool), o.task < 16384 ∧ List.find? (fun g =>
      decide (g.entry = o.task)) s.flows = some f ∧ s.flow? f.t f.h = some f ∧ (s.tenant f.t).st = TenantState.active ∧ f.fetchFault =
      false ∧ f.ending = none ∧ Works s (UnitId.worker w) o Node.move ∧ f.movePiece = some p ∧ f.xfer? p.x = some y ∧ List.find? (fun e =>
      decide (e.slot = p.slot)) f.tds = some d ∧ p.slot = o.ref ∧ s.canSend (Fn.vf f.t) = true ∧ (f.xIn y = true ∨ readOk = true)) ∧
    (∃ (w : WorkerId) (o : Op) (f : Flow) (s : State) (id n : Nat) (k : KeyCtx) (y : Xfer) (text : List Byte), o.task < 16384 ∧ List.find?
      (fun g => decide (g.entry = o.task)) s.flows = some f ∧ s.flow? f.t f.h = some f ∧ (s.tenant f.t).st = TenantState.active ∧
      f.fetchFault = false ∧ f.ending = none ∧ Works s (UnitId.worker w) o Node.seal ∧ f.sealNext = some (id, n) ∧ f.key = some k ∧
      f.xfer? id = some y ∧ (match s.nodeTd f Node.seal with | some d => d.slot | none => 0) = o.ref ∧ text.length = n) ∧
    (∃ (w : WorkerId) (o : Op) (f : Flow) (s : State) (id n : Nat) (k : KeyCtx) (y : Xfer) (epoch : Byte) (seq cipher tag : List Byte), o.task
      < 16384 ∧ List.find? (fun g => decide (g.entry = o.task)) s.flows = some f ∧ s.flow? f.t f.h = some f ∧ (s.tenant f.t).st =
      TenantState.active ∧ f.fetchFault = false ∧ f.ending = none ∧ Works s (UnitId.worker w) o Node.unseal ∧ f.unsealNext = some (id, n)
      ∧ f.key = some k ∧ f.xfer? id = some y ∧ (match s.nodeTd f Node.unseal with | some d => d.slot | none => 0) = o.ref ∧ (epoch :: (seq
      ++ cipher ++ tag)).length = n) :=
  ⟨⟨0, { task := 1, node := .move, pl := 0 },
      { flow 1 outEp with tds := [{ words := [0x1000000001, 36864, 7, 0, 0, 0, 0, 0], addr := 4096, slot := 0, seq := 0, x := 0, stage := .checked }], xs := [{ id := 0, seq := 0, closed := true }] },
      inW (op 1 .move) (withFlows [{ flow 1 outEp with ep := outEp, xs := [xf], tds := [td (norm 16) 0x9000 0 0 .checked] }]),
      { x := 0, slot := 0, bytes := 16 }, { id := 0, seq := 0, closed := true },
      { words := [0x1000000001, 36864, 7, 0, 0, 0, 0, 0], addr := 4096, slot := 0, seq := 0, x := 0, stage := .checked }, true, by
      decide +kernel⟩,
    ⟨0, { task := 1, node := .seal, pl := 0 },
      { flow 1 outEp with tds := [{ words := [0x1000000001, 36864, 7, 0, 0, 0, 0, 0], addr := 4096, slot := 0, seq := 0, x := 0, stage := .checked }], xs := [{ id := 0, seq := 0, unit := 512, closed := true, moved := 16 }], key := some { entry := 9, epoch := 0, seq := 0, deadline := some 100, unitLog2 := 9, prk := 0 } },
      inW (op 1 .seal) (withFlows
      [{ flow 1 outEp with key := some key0, xs := [{ xf with unit := 512, moved := 16 }], tds := [td (norm 16) 0x9000 0 0 .checked] }]),
      0, 16, { entry := 9, epoch := 0, seq := 0, deadline := some 100, unitLog2 := 9, prk := 0 },
      { id := 0, seq := 0, unit := 512, closed := true, moved := 16 }, (List.replicate 16 0), by decide +kernel⟩,
    ⟨0, { task := 1, node := .unseal, pl := 0 },
      { flow 1 inEp with tds := [{ words := [0x1000000001, 36864, 7, 0, 0, 0, 0, 0], addr := 4096, slot := 0, seq := 0, x := 0, stage := .checked }], xs := [{ id := 0, seq := 0, unit := 512, closed := true, wire := 40 }], key := some { entry := 9, epoch := 0, seq := 0, deadline := some 100, unitLog2 := 9, prk := 0 } },
      inW (op 1 .unseal) (withFlows
      [{ flow 1 inEp with key := some key0, xs := [{ xf with unit := 512, wire := 40 }], tds := [td (norm 16) 0x9000 0 0 .checked] }]), 0,
      40, { entry := 9, epoch := 0, seq := 0, deadline := some 100, unitLog2 := 9, prk := 0 },
      { id := 0, seq := 0, unit := 512, closed := true, wire := 40 }, 0, (List.replicate 16 0), (List.replicate 16 0), [0, 0, 0, 0, 0, 0,
      0], by decide +kernel⟩⟩

theorem witness_TransactionOutcomes :
    (∃ (w : WorkerId) (o : Op) (f : Flow) (id : Nat) (tx : Tx) (y : Xfer) (s : State) (out : BusOutcome), Works s (UnitId.worker w) o
      Node.issue ∧ o.task < 16384 ∧ List.find? (fun g => decide (g.entry = o.task)) s.flows = some f ∧ s.flow? f.t f.h = some f ∧
      (s.tenant f.t).st = TenantState.active ∧ f.fetchFault = false ∧ f.ending = none ∧ o.tx = some (id, tx) ∧ f.xfer? id = some y ∧
      y.status = none ∧ y.expires = none ∧ f.iso = false ∧ (f.key ≠ none ∨ y.unit = 0) ∧ (out = BusOutcome.error ∨ out =
      BusOutcome.noResponse) ∧ 2 ≤ f.strikes) ∧
    (∃ (w : WorkerId) (o : Op) (f : Flow) (id : Nat) (tx : Tx) (y : Xfer) (s : State) (out : BusOutcome), Works s (UnitId.worker w) o
      Node.issue ∧ o.task < 16384 ∧ List.find? (fun g => decide (g.entry = o.task)) s.flows = some f ∧ s.flow? f.t f.h = some f ∧
      (s.tenant f.t).st = TenantState.active ∧ f.fetchFault = false ∧ f.ending = none ∧ o.tx = some (id, tx) ∧ f.xfer? id = some y ∧
      y.status = none ∧ y.expires = none ∧ f.iso = false ∧ (f.key ≠ none ∨ y.unit = 0) ∧ (out = BusOutcome.error ∨ out =
      BusOutcome.noResponse) ∧ f.strikes < 2) :=
  ⟨⟨0, { task := 1, node := .issue, pl := 0, tx := some (0, { kind := .data, isIn := true, bytes := 512, wire := 512 }) },
      { flow 1 inEp with tds := [{ words := [0x1000000001, 36864, 7, 0, 0, 0, 0, 0], addr := 4096, slot := 0, seq := 0, x := 0, stage := .checked }], xs := [{ id := 0, seq := 0, closed := true, moved := 16, wire := 16 }], strikes := 2 },
      0, { kind := .data, isIn := true, bytes := 512, wire := 512 }, { id := 0, seq := 0, closed := true, moved := 16, wire := 16 }, inW
      { op 1 .issue with tx := some (0, ⟨.data, true, 512, 512, 1⟩) } (withFlows
      [{ flow 1 inEp with xs := [{ xf with wire := 16, moved := 16 }], tds := [td (norm 16) 0x9000 0 0 .checked], strikes := 2 }]),
      .error, by decide +kernel⟩,
    ⟨0, { task := 1, node := .issue, pl := 0, tx := some (0, { kind := .data, isIn := true, bytes := 512, wire := 512 }) },
      { flow 1 inEp with tds := [{ words := [0x1000000001, 36864, 7, 0, 0, 0, 0, 0], addr := 4096, slot := 0, seq := 0, x := 0 }], xs := [{ id := 0, seq := 0, closed := true }] },
      0, { kind := .data, isIn := true, bytes := 512, wire := 512 }, { id := 0, seq := 0, closed := true }, inW
      { op 1 .issue with tx := some (0, ⟨.data, true, 512, 512, 1⟩) } (withFlows
      [{ flow 1 inEp with xs := [xf], tds := [td (norm 16) 0x9000] }]), .error, by decide +kernel⟩⟩

theorem witness_RetireReleaseNotify :
    (∃ (s : State) (w : WorkerId) (o : Op) (r : Order), Works s (UnitId.worker w) o Node.retire ∧ o.task = 16640 ∧ (∀ (g : Flow), g ∈ s.flows
      → g.entry < 16384) ∧ s.order? Fn.pf0 o.ref = some r ∧ r.stage = OrderStage.ended) ∧
    (∃ (s : State) (w : WorkerId) (o : Op) (f : Flow) (d : Td) (y : Xfer), Works s (UnitId.worker w) o Node.retire ∧ o.task < 16384 ∧
      List.find? (fun g => decide (g.entry = o.task)) s.flows = some f ∧ s.flow? f.t f.h = some f ∧ (s.tenant f.t).st = TenantState.active
      ∧ f.fetchFault = false ∧ f.ending = none ∧ f.retireNext = some d ∧ d.slot = o.ref ∧ f.xfer? d.x = some y ∧ d.isEnd = true) ∧
    (∃ (s : State) (w : WorkerId) (o : Op) (n : NotifyOp), Works s (UnitId.worker w) o Node.notify ∧ o.task = 16640 ∧ (∀ (g : Flow), g ∈
      s.flows → g.entry < 16384) ∧ s.canSend Fn.pf0 = true ∧ s.pf.held = [] ∧ List.find? (fun n => decide (n.idx = o.ref) && n.placed &&
      !n.reported) s.mgr.notify = some n) ∧
    (∃ (s : State) (f : Fn) (o : Order), s.runs f = true ∧ (s.rings f).orders = [o] ∧ o.ghost = false ∧ o.stage = OrderStage.retired ∧
      (s.rings f).buf = [] ∧ (s.rings f).again = [] ∧ (s.rings f).en = true ∧ (s.rings f).hasFree = true ∧ (∀ (g : Flow), g ∈ s.flows →
      g.done = [] ∧ g.closing = none)) ∧
    (∃ (s : State) (t : TenantId) (f : Flow) (d : Done), s.runs (Fn.vf t) = true ∧ s.flows = [f] ∧ f.t = t ∧ f.closing = none ∧ f.done = [d] ∧
      s.dueDone f = some d) :=
  ⟨⟨inW (op 16640 .retire)
      ({ up with mgr := { up.mgr with orders := [{ k := 0, words := [0x40, 7, 1, 0, 0, 0, 0, 0], stage := .ended }] } }), 0,
      { task := 16640, node := .retire, pl := 0 }, { k := 0, words := [64, 7, 1, 0, 0, 0, 0, 0], stage := .ended }, by decide +kernel⟩,
    ⟨inW (op 1 .retire) (withFlows [{ flow 1 inEp with xs := [xf], tds := [td 6 0 0 0 .checked] }]), 0,
      { task := 1, node := .retire, pl := 0 },
      { flow 1 inEp with tds := [{ words := [6, 0, 7, 0, 0, 0, 0, 0], addr := 4096, slot := 0, seq := 0, x := 0, stage := .checked }], xs := [{ id := 0, seq := 0, closed := true }] },
      { words := [6, 0, 7, 0, 0, 0, 0, 0], addr := 4096, slot := 0, seq := 0, x := 0, stage := .checked },
      { id := 0, seq := 0, closed := true }, by decide +kernel⟩,
    ⟨inW (op 16640 .notify) { up with mgr := { up.mgr with notify := [{ idx := 0, cycle := true, ev := { type := 2 }, placed := true }] } },
      0, { task := 16640, node := .notify, pl := 0 }, { idx := 0, cycle := true, ev := { type := 2 }, placed := true }, by decide +kernel⟩,
    ⟨{ up with mgr := { up.mgr with orders := [{ k := 0, words := [0x40], stage := .retired }] } }, .pf0,
      { k := 0, words := [64], stage := .retired }, by decide +kernel⟩,
    ⟨withFlows [{ flow 1 inEp with done := [{ seq := 0, sub := 1, ev := none, bad := false }] }], 0,
      { flow 1 inEp with done := [{ seq := 0, sub := 1, ev := none, bad := false }] }, { seq := 0, sub := 1, ev := none, bad := false },
      by decide +kernel⟩⟩

theorem witness_TimeoutsAndInternalOps :
    (∃ (s : State) (t : TenantId) (h : Fin 1024) (f : Flow) (y : Xfer) (l : List Xfer) (e : Nat), s.flow? t h = some f ∧ f.xs = y :: l ∧
      s.inTransaction f.entry = false ∧ y.status = none ∧ f.busDone y = false ∧ f.fetchFault = false ∧ f.ending = none ∧ y.expires = some
      e ∧ e ≤ s.time.now) ∧
    (∃ (s : State) (d : DevId) (y : Dev) (b : BosDesc) (u1 u2 : ReqEnd), s.dev? d = some y ∧ y.uWait = true ∧ y.bos = some b ∧ b.u2Exit ≤ 2000
      ∧ s.reqOver d (fun r => decide (r = UsbReq.setU1)) (decide (u1 = ReqEnd.ok)) = true ∧ s.reqOver d (fun r => decide (r =
      UsbReq.setU2)) (decide (u2 = ReqEnd.ok)) = true) ∧
    (∃ (s : State) (d : DevId) (y : Dev), s.dev? d = some y ∧ y.uWait = false) ∧
    (∃ (s : State) (w : WorkerId) (o : Op), Awake s ∧ (vget s.sched.workers w).cur = some o ∧ o.item = none ∧ o.kind = OpKind.internal ∧
      o.stale = false ∧ (∀ (g : Flow), g ∈ s.flows → g.entry < 16384) ∧ o.task = 16657 ∧ o.node = Node.issue) ∧
    (∃ (s : State) (w : WorkerId) (o : Op) (r : BitVec 128) (l : List (BitVec 128)), Awake s ∧ (vget s.sched.workers w).cur = some o ∧ o.item
      = none ∧ o.kind = OpKind.internal ∧ o.stale = false ∧ (∀ (g : Flow), g ∈ s.flows → g.entry < 16384) ∧ o.task = 16662 ∧ o.node =
      Node.move ∧ s.canSpill = true ∧ s.canSend Fn.pf0 = true ∧ s.pf.held = [] ∧ s.trace.buf = r :: l) ∧
    (∃ (x : Frames), x.lock = MfLock.slewing ∧ x.phase.natAbs ≤ 16) ∧
    (∃ (x : Frames), x.lock = MfLock.slewing ∧ 16 < x.phase) ∧
    (∃ (x : Frames), x.lock = MfLock.slewing ∧ x.phase < -16) :=
  ⟨⟨{ withFlows [{ flow 1 inEp with xs := [{ xf with expires := some 5 }], tds := [td (norm 16) 0x9000 0 0 .checked] }] with time := { now := 1000 } },
      0, 1,
      { flow 1 inEp with tds := [{ words := [0x1000000001, 36864, 7, 0, 0, 0, 0, 0], addr := 4096, slot := 0, seq := 0, x := 0, stage := .checked }], xs := [{ id := 0, seq := 0, closed := true, expires := some 5 }] },
      { id := 0, seq := 0, closed := true, expires := some 5 }, [], 5, by decide +kernel⟩,
    ⟨{ (setDev (fun d => { d with uWait := true, bos := some ⟨[], false, none, 5⟩ }) devs) with sched := { devs.sched with reqs := [{ d := dv.id, r := .setU1, task := 16641, stage := 3 }, { d := dv.id, r := .setU2, task := 16641, stage := 3 }] } },
      { port := 0, ss := false, path := [1] },
      { id := { port := 0, ss := false, path := [1] }, speed := .high, addr := 2, st := .granted, step := .done, desc := some { vid := 1, pid := 2, bcd := 0, bcdUsb := 512, cls := 0, sub := 0, proto := 0, numConfigs := 1, iSerial := 0 }, bos := some { caps := [], lpm := false, besl := none, u2Exit := 5 }, tenant := some 0, vp := 1, config := 1, uWait := true },
      { caps := [], lpm := false, besl := none, u2Exit := 5 }, .ok, .ok, by decide +kernel⟩,
    ⟨devs, { port := 0, ss := false, path := [] }, hubD, by decide +kernel⟩,
    ⟨inW (op 16657 .issue) { up with frames := { lock := .slewing, phase := 100 } }, 0, { task := 16657, node := .issue, pl := 0 }, by
      decide +kernel⟩,
    ⟨inW (op 16662 .move) { up with trace := { buf := [1, 2, 3], spilling := true, log2 := 8, pi := 5, ci := 2 } }, 0,
      { task := 16662, node := .move, pl := 0 }, 1, [2, 3], by decide +kernel⟩,
    ⟨{ lock := .slewing, phase := 10 }, by decide +kernel⟩,
    ⟨{ lock := .slewing, phase := 17 }, by decide +kernel⟩,
    ⟨{ lock := .slewing, phase := - 100 }, by decide +kernel⟩⟩

theorem witness_PeriodicTicks :
    (∃ (s : State), s.pins.porN = true ∧ s.power.saved = none) ∧
    (∃ (s : State), (s.pins.porN = false ∨ s.power.saved.isSome = true)) ∧
    (∃ (s : State), s.power.saved.isSome = true) ∧
    (∃ (s : State), s.energy.enabled = true ∧ (s.power.lp = LpState.lp0 ∨ s.power.lp = LpState.lp1)) ∧
    (∃ (s : State), (s.energy.enabled = false ∨ s.power.lp = LpState.lp2 ∨ s.power.lp = LpState.lp3)) :=
  ⟨⟨up, by decide +kernel⟩,
    ⟨State.reset, by decide +kernel⟩,
    ⟨pow (fun p => { p with saved := some 500, lp := .lp3 }) up, by decide +kernel⟩,
    ⟨{ up with energy := { enabled := true, level := 5, active := { burst := 10, sustained := 5, low := 1, high := 2 } } }, by decide +kernel⟩,
    ⟨up, by decide +kernel⟩⟩

theorem witness_GatesAndPortPowerSteps :
    (∃ (p : PortId) (s : State), (vget s.sluice.ports p).state = AdminState.pending ∧ (vget s.sluice.ports p).switchAt ≤ s.time.now) ∧
    (∃ (p : PortId) (s : State), ((vget s.sluice.ports p).state ≠ AdminState.pending ∨ s.time.now < (vget s.sluice.ports p).switchAt)) ∧
    (∃ (s : State), s.img.portSeq = []) ∧
    (∃ (p : PortId) (s : State) (l : List PortId), s.img.portSeq = p :: l ∧ s.power.padsHeld = false ∧
      ({ s with img := { s.img with portSeq := l } } : State).mayPower p = true ∧ s.powered p = false) ∧
    (∃ (p : PortId) (s : State) (l : List PortId), s.img.portSeq = p :: l ∧ s.power.padsHeld = false ∧
      ({ s with img := { s.img with portSeq := l } } : State).mayPower p = false) :=
  ⟨⟨0,
      { up with sluice := { ports := up.sluice.ports.set 0 { state := .pending, admin := [⟨1, 1000⟩], switchAt := 5 } }, time := { now := 1000 } },
      by decide +kernel⟩,
    ⟨0, up, by decide +kernel⟩,
    ⟨up, by decide +kernel⟩,
    ⟨1, { up with img := { up.img with portSeq := [1, 2] } }, [2], by decide +kernel⟩,
    ⟨1, { up with img := { up.img with portSeq := [1], step := 8 } }, [], by decide +kernel⟩⟩

theorem witness_EnumerationStartsAndSteps :
    (∃ (s : State) (d : DevId) (sp : Speed), AtWork s ∧ s.canAttach d sp = true) ∧
    (∃ (s : State) (d : DevId) (sp : Speed), AtWork s ∧ s.canAttach d sp = false) ∧
    (∃ (s : State) (d : DevId) (y : Dev) (w : WorkerId) (o : Op), Due s (DelayFor.debounce d) w o ∧ s.dev? d = some y ∧ y.step =
      EnumStep.debounce ∧ (vget s.ports d.port).defOwner = none ∧ d.ss = false) ∧
    (∃ (s : State) (d : DevId) (y : Dev) (w : WorkerId) (o : Op) (e : DevId), Due s (DelayFor.debounce d) w o ∧ s.dev? d = some y ∧ y.step =
      EnumStep.debounce ∧ (vget s.ports d.port).defOwner = some e ∧ ¬e = d) ∧
    (∃ (s : State) (d : DevId), s.delayUnit (DelayFor.debounce d) = none) ∧
    (∃ (s : State) (d : DevId) (y : Dev) (q : Req), s.dev? d = some y ∧ y.id = d ∧ y.step = EnumStep.reset ∧ y.reset = ResetFor.none ∧ s.reqOf
      d resetReq = some q ∧ q.stage = 3 ∧ q.failed = false) ∧
    (∃ (s : State) (d : DevId) (y : Dev) (q : Req), s.dev? d = some y ∧ y.id = d ∧ y.step = EnumStep.reset ∧ y.reset = ResetFor.none ∧ s.reqOf
      d resetReq = some q ∧ y.attempts < 2) ∧
    (∃ (s : State) (d : DevId) (y : Dev) (w : WorkerId) (o : Op), Due s (DelayFor.resetRecovery d) w o ∧ s.dev? d = some y ∧ y.step =
      EnumStep.recovery) ∧
    (∃ (s : State) (d : DevId) (y : Dev) (q : Req) (a : Nat), s.dev? d = some y ∧ y.id = d ∧ s.reqOf d y.awaits = some q ∧ q.stage = 3 ∧
      q.failed = false ∧ y.step = EnumStep.desc8 ∧ s.ttOf d y.speed = none ∧ d.ss = false ∧ s.freeAddr d.port = some a) ∧
    (∃ (s : State) (d : DevId) (y : Dev) (q : Req), s.dev? d = some y ∧ y.id = d ∧ s.reqOf d y.awaits = some q ∧ q.stage = 3 ∧ q.failed =
      false ∧ y.step = EnumStep.setAddress) ∧
    (∃ (s : State) (d : DevId) (y : Dev) (q : Req), s.dev? d = some y ∧ y.id = d ∧ s.reqOf d y.awaits = some q ∧ y.attempts < 2) ∧
    (∃ (s : State) (d : DevId) (y : Dev) (q : Req), s.dev? d = some y ∧ y.id = d ∧ s.reqOf d y.awaits = some q ∧ 2 ≤ y.attempts) ∧
    (∃ (s : State) (p : PortId) (a : Nat) (d : Dev), s.freeAddr p = some a ∧ d ∈ s.devs ∧ d.id.port = p) ∧
    (∃ (s : State) (p : PortId) (a b : Nat), s.freeAddr p = some a ∧ 1 ≤ b ∧ b < a) ∧
    (∃ (p : PortId) (s : State) (w : WorkerId) (o : Op), Due s (DelayFor.enumStart p) w o ∧ s.img.locked = true ∧ s.powered p = true ∧ (vget
      s.ports p).usb2.on = false) ∧
    (∃ (p : PortId) (s : State) (w : WorkerId) (o : Op), Due s (DelayFor.enumStart p) w o ∧ (s.img.locked = false ∨ s.powered p = false)) ∧
    (∃ (p : PortId) (s : State), s.delayUnit (DelayFor.enumStart p) = none) ∧
    (∃ (p : PortId) (s : State) (w : WorkerId) (o : Op), Due s (DelayFor.enumerate p) w o) ∧
    (∃ (p : PortId) (s : State), s.delayUnit (DelayFor.enumerate p) = none) :=
  ⟨⟨up, { port := 0, ss := false, path := [] }, .low, by decide +kernel⟩,
    ⟨up, { port := 0, ss := true, path := [] }, .low, by decide +kernel⟩,
    ⟨due (.debounce dv.id) 16641 { up with devs := [{ dv with st := .enumerating, step := .debounce, tenant := none }] },
      { port := 0, ss := false, path := [1] },
      { id := { port := 0, ss := false, path := [1] }, speed := .high, addr := 2, desc := some { vid := 1, pid := 2, bcd := 0, bcdUsb := 512, cls := 0, sub := 0, proto := 0, numConfigs := 1, iSerial := 0 }, vp := 1, config := 1 },
      0, { task := 16641, node := .check, pl := 3, why := some (.debounce { port := 0, ss := false, path := [1] }) }, by decide +kernel⟩,
    ⟨due (.debounce dv.id) 16641
      { up with devs := [{ dv with st := .enumerating, step := .debounce, tenant := none }], ports := up.ports.set 0 { up.ports[0] with defOwner := some ⟨0, false, [2]⟩ } },
      { port := 0, ss := false, path := [1] },
      { id := { port := 0, ss := false, path := [1] }, speed := .high, addr := 2, desc := some { vid := 1, pid := 2, bcd := 0, bcdUsb := 512, cls := 0, sub := 0, proto := 0, numConfigs := 1, iSerial := 0 }, vp := 1, config := 1 },
      0, { task := 16641, node := .check, pl := 3, why := some (.debounce { port := 0, ss := false, path := [1] }) },
      { port := 0, ss := false, path := [2] }, by decide +kernel⟩,
    ⟨up, { port := 0, ss := true, path := [] }, by decide +kernel⟩,
    ⟨asked dv.id (.portReset false) { up with devs := [{ dv with st := .enumerating, step := .reset, tenant := none }] },
      { port := 0, ss := false, path := [1] },
      { id := { port := 0, ss := false, path := [1] }, speed := .high, addr := 2, step := .reset, desc := some { vid := 1, pid := 2, bcd := 0, bcdUsb := 512, cls := 0, sub := 0, proto := 0, numConfigs := 1, iSerial := 0 }, vp := 1, config := 1 },
      { d := { port := 0, ss := false, path := [1] }, r := .portReset false, task := 16641, stage := 3 }, by decide +kernel⟩,
    ⟨asked dv.id (.portReset false) { up with devs := [{ dv with st := .enumerating, step := .reset, tenant := none }] },
      { port := 0, ss := false, path := [1] },
      { id := { port := 0, ss := false, path := [1] }, speed := .high, addr := 2, step := .reset, desc := some { vid := 1, pid := 2, bcd := 0, bcdUsb := 512, cls := 0, sub := 0, proto := 0, numConfigs := 1, iSerial := 0 }, vp := 1, config := 1 },
      { d := { port := 0, ss := false, path := [1] }, r := .portReset false, task := 16641, stage := 3 }, by decide +kernel⟩,
    ⟨due (.resetRecovery dv.id) 16641 { up with devs := [{ dv with st := .enumerating, step := .recovery, tenant := none }] },
      { port := 0, ss := false, path := [1] },
      { id := { port := 0, ss := false, path := [1] }, speed := .high, addr := 2, step := .recovery, desc := some { vid := 1, pid := 2, bcd := 0, bcdUsb := 512, cls := 0, sub := 0, proto := 0, numConfigs := 1, iSerial := 0 }, vp := 1, config := 1 },
      0, { task := 16641, node := .check, pl := 3, why := some (.resetRecovery { port := 0, ss := false, path := [1] }) }, by
      decide +kernel⟩,
    ⟨asked dv.id .getDevice8 { up with devs := [{ dv with st := .enumerating, step := .desc8, tenant := none }] },
      { port := 0, ss := false, path := [1] },
      { id := { port := 0, ss := false, path := [1] }, speed := .high, addr := 2, step := .desc8, desc := some { vid := 1, pid := 2, bcd := 0, bcdUsb := 512, cls := 0, sub := 0, proto := 0, numConfigs := 1, iSerial := 0 }, vp := 1, config := 1 },
      { d := { port := 0, ss := false, path := [1] }, r := .getDevice8, task := 16641, stage := 3 }, 1, by decide +kernel⟩,
    ⟨asked dv.id (.setAddress 5) { up with devs := [{ dv with newAddr := 5, st := .enumerating, step := .setAddress, tenant := none }] },
      { port := 0, ss := false, path := [1] },
      { id := { port := 0, ss := false, path := [1] }, speed := .high, addr := 2, newAddr := 5, step := .setAddress, desc := some { vid := 1, pid := 2, bcd := 0, bcdUsb := 512, cls := 0, sub := 0, proto := 0, numConfigs := 1, iSerial := 0 }, vp := 1, config := 1 },
      { d := { port := 0, ss := false, path := [1] }, r := .setAddress 5, task := 16641, stage := 3 }, by decide +kernel⟩,
    ⟨asked dv.id (.getDescriptor 1 0 0 18)
      { up with devs := [{ dv with st := .enumerating, step := .descriptors, tenant := none, desc := none }] },
      { port := 0, ss := false, path := [1] },
      { id := { port := 0, ss := false, path := [1] }, speed := .high, addr := 2, step := .descriptors, vp := 1, config := 1 },
      { d := { port := 0, ss := false, path := [1] }, r := .getDescriptor 1 0 0 18, task := 16641, stage := 3 }, by decide +kernel⟩,
    ⟨asked dv.id (.getDescriptor 1 0 0 18)
      { up with devs := [{ dv with attempts := 2, st := .enumerating, step := .descriptors, tenant := none, desc := none }] },
      { port := 0, ss := false, path := [1] },
      { id := { port := 0, ss := false, path := [1] }, speed := .high, addr := 2, step := .descriptors, attempts := 2, vp := 1, config := 1 },
      { d := { port := 0, ss := false, path := [1] }, r := .getDescriptor 1 0 0 18, task := 16641, stage := 3 }, by decide +kernel⟩,
    ⟨devs, 0, 4, hubD, by decide +kernel⟩,
    ⟨devs, 0, 4, 1, by decide +kernel⟩,
    ⟨0, due (.enumStart 0) 16641 { up with ports := up.ports.set 0 {} }, 0,
      { task := 16641, node := .check, pl := 3, why := some (.enumStart 0) }, by decide +kernel⟩,
    ⟨1, due (.enumStart 1) 16642 up, 0, { task := 16642, node := .check, pl := 3, why := some (.enumStart 1) }, by decide +kernel⟩,
    ⟨0, up, by decide +kernel⟩,
    ⟨1, due (.enumerate 1) 16642 up, 0, { task := 16642, node := .check, pl := 3, why := some (.enumerate 1) }, by decide +kernel⟩,
    ⟨0, up, by decide +kernel⟩⟩

theorem witness_HubsAndDisconnect :
    (∃ (d : DevId) (s : State) (y : Dev) (w : WorkerId) (o : Op), Due s (DelayFor.hubPower d) w o ∧ s.dev? d = some y ∧ y.step =
      EnumStep.hubPower) ∧
    (∃ (d : DevId) (s : State) (y : Dev) (w : WorkerId) (o : Op), Due s (DelayFor.hubPoll d) w o ∧ s.dev? d = some y ∧ y.st = DevState.hub ∧
      y.suspended = false ∧ y.resume = ResumeSt.none) ∧
    (∃ (d : DevId) (s : State) (q : Req), (s.reqOf d fun r => decide (r = UsbReq.hubPoll)) = some q ∧ q.stage = 3 ∧ q.failed = false) ∧
    (∃ (d : DevId) (s : State), (s.reqOf d fun r => decide (r = UsbReq.hubPoll)) = none) ∧
    (∃ (s : State), AtWork s) :=
  ⟨⟨{ port := 0, ss := false, path := [] }, due (.hubPower ⟨0, false, []⟩) 16641
      { up with devs := [{ hubD with step := .hubPower, st := .enumerating }] },
      { id := { port := 0, ss := false, path := [] }, speed := .high, addr := 1, step := .hubPower, config := 1, hub := some { ports := 4, pwrOn := 50, ganged := false } },
      0, { task := 16641, node := .check, pl := 3, why := some (.hubPower { port := 0, ss := false, path := [] }) }, by decide +kernel⟩,
    ⟨{ port := 0, ss := false, path := [] }, due (.hubPoll ⟨0, false, []⟩) 16641 devs, hubD, 0,
      { task := 16641, node := .check, pl := 3, why := some (.hubPoll { port := 0, ss := false, path := [] }) }, by decide +kernel⟩,
    ⟨{ port := 0, ss := false, path := [1] }, asked dv.id .hubPoll devs,
      { d := { port := 0, ss := false, path := [1] }, r := .hubPoll, task := 16641, stage := 3 }, by decide +kernel⟩,
    ⟨{ port := 0, ss := true, path := [] }, up, by decide +kernel⟩,
    ⟨up, by decide +kernel⟩⟩

theorem witness_ResumeAndResetEnds :
    (∃ (d : DevId) (y : Dev) (s : State), s.dev? d = some y ∧ y.id = d ∧ AtWork s ∧ y.reset = ResetFor.none ∧ y.resume = ResumeSt.none ∧
      y.suspendWait = none ∧ y.suspended = true) ∧
    (∃ (d : DevId) (y : Dev) (s : State), s.dev? d = some y ∧ y.id = d ∧ AtWork s ∧ y.reset = ResetFor.none ∧ y.resume = ResumeSt.none ∧
      y.suspendWait = none ∧ y.suspended = false ∧ y.l1 = false) ∧
    (∃ (d : DevId) (y : Dev) (s : State), s.dev? d = some y ∧ y.id = d ∧ AtWork s ∧ y.reset = ResetFor.none ∧ ¬y.resume = ResumeSt.none ∧
      y.remote = false) ∧
    (∃ (d : DevId) (y : Dev) (s : State) (t : TenantId), s.dev? d = some y ∧ y.id = d ∧ AtWork s ∧ d.ss = true ∧ y.reset = ResetFor.none ∧
      y.suspended = false ∧ y.suspendWait = none ∧ y.st = DevState.granted ∧ y.tenant = some t) ∧
    (∃ (d : DevId) (y : Dev) (s : State) (q : Req), s.dev? d = some y ∧ y.id = d ∧ y.resume = ResumeSt.signalling ∧ s.watching d = false ∧
      (s.reqOf d fun r => decide (r = UsbReq.resume)) = some q ∧ q.stage = 3) ∧
    (∃ (d : DevId) (y : Dev) (s : State) (w : WorkerId) (p : Op) (e : Option DevDesc) (serial : Option (List Byte)), s.dev? d = some y ∧ y.id
      = d ∧ Due s (DelayFor.resumeRecovery d) w p ∧ y.resume = ResumeSt.recovery ∧ (∀ (f : DevDesc), e = some f → y.differs f serial =
      false) ∧ y.resetWait = ResetFor.none) ∧
    (∃ (d : DevId) (y : Dev) (s : State) (w : WorkerId) (p : Op) (e : Option DevDesc) (serial : Option (List Byte)) (f : DevDesc), s.dev? d =
      some y ∧ y.id = d ∧ Due s (DelayFor.resumeRecovery d) w p ∧ y.resume = ResumeSt.recovery ∧ e = some f ∧ y.differs f serial = true) ∧
    (∃ (d : DevId) (y : Dev) (s : State) (q : Req), s.dev? d = some y ∧ y.id = d ∧ y.step = EnumStep.reset ∧ ¬y.reset = ResetFor.none ∧
      s.reqOf d resetReq = some q ∧ q.stage = 3 ∧ q.failed = false) ∧
    (∃ (d : DevId) (y : Dev) (s : State) (q : Req), s.dev? d = some y ∧ y.id = d ∧ y.step = EnumStep.reset ∧ ¬y.reset = ResetFor.none ∧
      s.reqOf d resetReq = some q ∧ y.attempts < 2) ∧
    (∃ (d : DevId) (y : Dev) (s : State), s.dev? d = some y ∧ y.id = d ∧ (∀ (e : Dev), e ∈ s.devs → e.id.port = d.port → (fun e => (e.st =
      DevState.hub ∨ e.st = DevState.unmatched) ∧ e.step = EnumStep.done ∧ e.reset = ResetFor.none ∧ e.resume = ResumeSt.none) e) ∧ (∀ (q
      : Req), q ∈ s.sched.reqs → q.d.port = d.port → q.r = UsbReq.hubPoll)) ∧
    (∃ (d : DevId) (y : Dev) (s : State), s.dev? d = some y ∧ y.id = d ∧ (∃ e, e ∈ s.devs ∧ e.id.port = d.port ∧ ¬(fun e => (e.st =
      DevState.hub ∨ e.st = DevState.unmatched) ∧ e.step = EnumStep.done ∧ e.reset = ResetFor.none ∧ e.resume = ResumeSt.none) e)) :=
  ⟨⟨{ port := 0, ss := false, path := [1] },
      { id := { port := 0, ss := false, path := [1] }, speed := .high, addr := 2, st := .granted, step := .done, desc := some { vid := 1, pid := 2, bcd := 0, bcdUsb := 512, cls := 0, sub := 0, proto := 0, numConfigs := 1, iSerial := 0 }, tenant := some 0, vp := 1, config := 1, suspended := true },
      ord (.vf 0) [5, 7, 0, 0, 0, 0, 0, 0] ((setDev (fun d => { d with suspended := true }) devs)), by decide +kernel⟩,
    ⟨{ port := 0, ss := false, path := [] }, hubD, devs, by decide +kernel⟩,
    ⟨{ port := 0, ss := false, path := [1] },
      { id := { port := 0, ss := false, path := [1] }, speed := .high, addr := 2, st := .granted, step := .done, desc := some { vid := 1, pid := 2, bcd := 0, bcdUsb := 512, cls := 0, sub := 0, proto := 0, numConfigs := 1, iSerial := 0 }, tenant := some 0, vp := 1, config := 1, suspended := true, resume := .recovery },
      setDev (fun d => { d with resume := .recovery, suspended := true }) devs, by decide +kernel⟩,
    ⟨{ port := 0, ss := true, path := [] },
      { id := { port := 0, ss := true, path := [] }, speed := .gen1, addr := 2, st := .granted, step := .done, desc := some { vid := 1, pid := 2, bcd := 0, bcdUsb := 512, cls := 0, sub := 0, proto := 0, numConfigs := 1, iSerial := 0 }, tenant := some 0, vp := 1, config := 1 },
      { up with devs := [{ dv with id := ⟨0, true, []⟩, speed := .gen1 }] }, 0, by decide +kernel⟩,
    ⟨{ port := 0, ss := false, path := [1] },
      { id := { port := 0, ss := false, path := [1] }, speed := .high, addr := 2, st := .granted, step := .done, desc := some { vid := 1, pid := 2, bcd := 0, bcdUsb := 512, cls := 0, sub := 0, proto := 0, numConfigs := 1, iSerial := 0 }, tenant := some 0, vp := 1, config := 1, suspended := true, resume := .signalling },
      asked dv.id .resume (setDev (fun d => { d with resume := .signalling, suspended := true }) devs),
      { d := { port := 0, ss := false, path := [1] }, r := .resume, task := 16641, stage := 3 }, by decide +kernel⟩,
    ⟨{ port := 0, ss := false, path := [1] },
      { id := { port := 0, ss := false, path := [1] }, speed := .high, addr := 2, st := .granted, step := .done, desc := some { vid := 1, pid := 2, bcd := 0, bcdUsb := 512, cls := 0, sub := 0, proto := 0, numConfigs := 1, iSerial := 0 }, tenant := some 0, vp := 1, config := 1, suspended := true, resume := .recovery },
      due (.resumeRecovery dv.id) 16641 (setDev (fun d => { d with resume := .recovery, suspended := true }) devs), 0,
      { task := 16641, node := .check, pl := 3, why := some (.resumeRecovery { port := 0, ss := false, path := [1] }) }, none, none, by
      decide +kernel⟩,
    ⟨{ port := 0, ss := false, path := [1] },
      { id := { port := 0, ss := false, path := [1] }, speed := .high, addr := 2, st := .granted, step := .done, desc := some { vid := 1, pid := 2, bcd := 0, bcdUsb := 512, cls := 0, sub := 0, proto := 0, numConfigs := 1, iSerial := 0 }, tenant := some 0, vp := 1, config := 1, suspended := true, resume := .recovery },
      due (.resumeRecovery dv.id) 16641 (setDev (fun d => { d with resume := .recovery, suspended := true }) devs), 0,
      { task := 16641, node := .check, pl := 3, why := some (.resumeRecovery { port := 0, ss := false, path := [1] }) }, some
      { vid := 9, pid := 2, bcd := 0, bcdUsb := 512, cls := 0, sub := 0, proto := 0, numConfigs := 1, iSerial := 0 }, none,
      { vid := 9, pid := 2, bcd := 0, bcdUsb := 512, cls := 0, sub := 0, proto := 0, numConfigs := 1, iSerial := 0 }, by decide +kernel⟩,
    ⟨{ port := 0, ss := false, path := [1] },
      { id := { port := 0, ss := false, path := [1] }, speed := .high, addr := 2, step := .reset, desc := some { vid := 1, pid := 2, bcd := 0, bcdUsb := 512, cls := 0, sub := 0, proto := 0, numConfigs := 1, iSerial := 0 }, vp := 1, config := 1, reset := .order 0 1 },
      asked dv.id (.portReset false)
      { up with devs := [{ dv with reset := .order 0 1, st := .enumerating, step := .reset, tenant := none }] },
      { d := { port := 0, ss := false, path := [1] }, r := .portReset false, task := 16641, stage := 3 }, by decide +kernel⟩,
    ⟨{ port := 0, ss := false, path := [1] },
      { id := { port := 0, ss := false, path := [1] }, speed := .high, addr := 2, step := .reset, desc := some { vid := 1, pid := 2, bcd := 0, bcdUsb := 512, cls := 0, sub := 0, proto := 0, numConfigs := 1, iSerial := 0 }, vp := 1, config := 1, reset := .order 0 1 },
      asked dv.id (.portReset false)
      { up with devs := [{ dv with reset := .order 0 1, st := .enumerating, step := .reset, tenant := none }] },
      { d := { port := 0, ss := false, path := [1] }, r := .portReset false, task := 16641, stage := 3 }, by decide +kernel⟩,
    ⟨{ port := 0, ss := false, path := [] }, hubD, ord .pf0 [0x45, 7, 0, 0, 0, 0, 0, 0] ((setDev (fun d =>
      { d with st := .unmatched, tenant := none, vp := 0 }) devs)), by decide +kernel⟩,
    ⟨{ port := 0, ss := false, path := [] }, hubD, devs, by decide +kernel⟩⟩

theorem witness_LinkPowerAndPhyFaults :
    (∃ (s : State) (t : TenantId) (h : Fin 1024), List.find? (fun q => UsbReq.clears t h q.r) s.sched.reqs = none) ∧
    (∃ (s : State) (t : TenantId) (h : Fin 1024) (d : DevId) (e : EpDesc) (n : Nat) (q : Req), List.find? (fun q => UsbReq.clears t h q.r)
      s.sched.reqs = some q ∧ q.r = UsbReq.clearTt t h d e n ∧ n < 3) ∧
    (∃ (s : State) (t : TenantId) (h : Fin 1024) (d : DevId) (e : EpDesc) (n : Nat) (q : Req), List.find? (fun q => UsbReq.clears t h q.r)
      s.sched.reqs = some q ∧ q.r = UsbReq.clearTt t h d e n ∧ 3 ≤ n) ∧
    (∃ (s : State) (t : TenantId) (h : Fin 1024) (d : DevId) (e : EpDesc) (n : Nat) (q : Req), List.find? (fun q => UsbReq.clears t h q.r)
      s.sched.reqs = some q ∧ q.r = UsbReq.clearTt t h d e n ∧ q.stage = 3 ∧ q.failed = false) ∧
    (∃ (s : State) (d : DevId) (y : Dev) (n : Nat), s.dev? d = some y ∧ d.ss = false ∧ s.idleDev y = true ∧ y.l1 = false ∧ y.lpmOff = false ∧
      s.lpmPath d = true ∧ (∀ (f : Flow), f ∈ s.flows → f.dev = d → f.periodic = false) ∧ 200 ≤ n) ∧
    (∃ (s : State) (d : DevId) (y : Dev) (n : Nat), s.dev? d = some y ∧ (s.idleDev y = false ∨ n < 200)) ∧
    (∃ (s : State) (d : DevId) (y : Dev), s.dev? d = some y ∧ d.ss = true ∧ y.step = EnumStep.done ∧ y.suspended = false ∧ y.resume =
      ResumeSt.none ∧ y.reset = ResetFor.none ∧ s.devBusy d = false ∧ y.u1 = true ∧ y.linkU = 0 ∧ ¬y.timeouts.fst = 0) ∧
    (∃ (s : State) (d : DevId) (y : Dev), s.dev? d = some y ∧ d.ss = true ∧ y.step = EnumStep.done ∧ y.suspended = false ∧ y.resume =
      ResumeSt.none ∧ y.reset = ResetFor.none ∧ s.devBusy d = false ∧ y.u2 = true ∧ ¬y.linkU = 2 ∧ ¬y.timeouts.snd = 0) ∧
    (∃ (s : State) (d : DevId) (y : Dev), s.dev? d = some y ∧ d.ss = true ∧ y.step = EnumStep.done ∧ y.suspended = false ∧ y.resume =
      ResumeSt.none ∧ y.reset = ResetFor.none ∧ s.devBusy d = false ∧ (y.u1 = false ∨ y.timeouts.fst = 0)) ∧
    (∃ (s : State) (d : DevId) (y : Dev), s.dev? d = some y ∧ d.ss = true ∧ y.step = EnumStep.done ∧ y.suspended = false ∧ y.resume =
      ResumeSt.none ∧ y.reset = ResetFor.none ∧ s.devBusy d = false ∧ (y.u2 = false ∨ y.timeouts.snd = 0)) ∧
    (∃ (s : State) (i : SideId), (s.side (sidePort i).fst (sidePort i).snd).on = true) ∧
    (∃ (s : State) (i : SideId), s.powered (sidePort i).fst = true ∧ (s.side (sidePort i).fst (sidePort i).snd).on = false ∧ (s.side (sidePort
      i).fst (sidePort i).snd).phyLatched = false ∧ ¬(s.side (sidePort i).fst (sidePort i).snd).phyFaults = []) ∧
    (∃ (s : State) (i : SideId), (s.side (sidePort i).fst (sidePort i).snd).phyLatched = true) :=
  ⟨⟨up, 0, 0, by decide +kernel⟩,
    ⟨asked dv.id (.clearTt 0 1 dv.id inEp 0) devs, 0, 1, { port := 0, ss := false, path := [1] },
      { addr := 129, kind := .bulk, mps := 512, burst := 1, bInterval := 0 }, 0,
      { d := { port := 0, ss := false, path := [1] }, r := .clearTt 0 1 { port := 0, ss := false, path := [1] } { addr := 129, kind := .bulk, mps := 512, burst := 1, bInterval := 0 } 0, task := 16641, stage := 3 },
      by decide +kernel⟩,
    ⟨asked dv.id (.clearTt 0 1 dv.id inEp 3) devs, 0, 1, { port := 0, ss := false, path := [1] },
      { addr := 129, kind := .bulk, mps := 512, burst := 1, bInterval := 0 }, 3,
      { d := { port := 0, ss := false, path := [1] }, r := .clearTt 0 1 { port := 0, ss := false, path := [1] } { addr := 129, kind := .bulk, mps := 512, burst := 1, bInterval := 0 } 3, task := 16641, stage := 3 },
      by decide +kernel⟩,
    ⟨asked dv.id (.clearTt 0 1 dv.id inEp 0) devs, 0, 1, { port := 0, ss := false, path := [1] },
      { addr := 129, kind := .bulk, mps := 512, burst := 1, bInterval := 0 }, 0,
      { d := { port := 0, ss := false, path := [1] }, r := .clearTt 0 1 { port := 0, ss := false, path := [1] } { addr := 129, kind := .bulk, mps := 512, burst := 1, bInterval := 0 } 0, task := 16641, stage := 3 },
      by decide +kernel⟩,
    ⟨{ up with devs := [{ dv with id := ⟨0, false, []⟩, bos := some ⟨[], true, some 4, 0⟩ }] }, { port := 0, ss := false, path := [] },
      { id := { port := 0, ss := false, path := [] }, speed := .high, addr := 2, st := .granted, step := .done, desc := some { vid := 1, pid := 2, bcd := 0, bcdUsb := 512, cls := 0, sub := 0, proto := 0, numConfigs := 1, iSerial := 0 }, bos := some { caps := [], lpm := true, besl := some 4, u2Exit := 0 }, tenant := some 0, vp := 1, config := 1 },
      2000, by decide +kernel⟩,
    ⟨devs, { port := 0, ss := false, path := [] }, hubD, 0, by decide +kernel⟩,
    ⟨{ up with devs := [{ dv with id := ⟨0, true, []⟩, speed := .gen1, u1 := true, u2 := true, timeouts := (10, 256) }], ports := up.ports.set 0 { up.ports[0] with ss := { on := true } } },
      { port := 0, ss := true, path := [] },
      { id := { port := 0, ss := true, path := [] }, speed := .gen1, addr := 2, st := .granted, step := .done, desc := some { vid := 1, pid := 2, bcd := 0, bcdUsb := 512, cls := 0, sub := 0, proto := 0, numConfigs := 1, iSerial := 0 }, tenant := some 0, vp := 1, config := 1, u1 := true, u2 := true, timeouts := (10, 256) },
      by decide +kernel⟩,
    ⟨{ up with devs := [{ dv with id := ⟨0, true, []⟩, speed := .gen1, u1 := true, u2 := true, timeouts := (10, 256) }], ports := up.ports.set 0 { up.ports[0] with ss := { on := true } } },
      { port := 0, ss := true, path := [] },
      { id := { port := 0, ss := true, path := [] }, speed := .gen1, addr := 2, st := .granted, step := .done, desc := some { vid := 1, pid := 2, bcd := 0, bcdUsb := 512, cls := 0, sub := 0, proto := 0, numConfigs := 1, iSerial := 0 }, tenant := some 0, vp := 1, config := 1, u1 := true, u2 := true, timeouts := (10, 256) },
      by decide +kernel⟩,
    ⟨{ up with devs := [{ dv with id := ⟨0, true, []⟩, speed := .gen1 }] }, { port := 0, ss := true, path := [] },
      { id := { port := 0, ss := true, path := [] }, speed := .gen1, addr := 2, st := .granted, step := .done, desc := some { vid := 1, pid := 2, bcd := 0, bcdUsb := 512, cls := 0, sub := 0, proto := 0, numConfigs := 1, iSerial := 0 }, tenant := some 0, vp := 1, config := 1 },
      by decide +kernel⟩,
    ⟨{ up with devs := [{ dv with id := ⟨0, true, []⟩, speed := .gen1 }] }, { port := 0, ss := true, path := [] },
      { id := { port := 0, ss := true, path := [] }, speed := .gen1, addr := 2, st := .granted, step := .done, desc := some { vid := 1, pid := 2, bcd := 0, bcdUsb := 512, cls := 0, sub := 0, proto := 0, numConfigs := 1, iSerial := 0 }, tenant := some 0, vp := 1, config := 1 },
      by decide +kernel⟩,
    ⟨up, 0, by decide +kernel⟩,
    ⟨{ up with ports := up.ports.set 0 { usb2 := { phyFaults := [5] } } }, 0, by decide +kernel⟩,
    ⟨{ up with ports := up.ports.set 0 { usb2 := { phyFaults := [5, 6, 7], phyLatched := true } } }, 0, by decide +kernel⟩⟩

theorem witness_HandshakeSteps :
    (∃ (t : TenantId) (h : Fin 1024) (y : Handshake) (f : Flow) (s : State) (q : Req) (m : HelloMsg), s.hs? t h = some y ∧ s.flow? t h = some
      f ∧ y.step = HsStep.hello ∧ s.reqOf f.dev (UsbReq.isTirael SealReq.hello) = some q ∧ q.stage = 3 ∧ q.failed = false ∧ m.ok f.ep.addr
      = true) ∧
    (∃ (t : TenantId) (h : Fin 1024) (y : Handshake) (f : Flow) (s : State) (q : Req) (m : HelloMsg), s.hs? t h = some y ∧ s.flow? t h = some
      f ∧ y.step = HsStep.hello ∧ s.reqOf f.dev (UsbReq.isTirael SealReq.hello) = some q ∧ q.stage = 3 ∧ q.failed = false ∧ m.ok f.ep.addr
      = false) ∧
    (∃ (t : TenantId) (h : Fin 1024) (y : Handshake) (f : Flow) (s : State) (q : Req) (r : ReqEnd), s.hs? t h = some y ∧ s.flow? t h = some f
      ∧ y.step = HsStep.hello ∧ s.reqOf f.dev (UsbReq.isTirael SealReq.hello) = some q ∧ ¬r = ReqEnd.ok) ∧
    (∃ (t : TenantId) (h : Fin 1024) (y : Handshake) (f : Flow) (s : State) (q : Req), s.hs? t h = some y ∧ s.flow? t h = some f ∧ y.step =
      HsStep.keyShare ∧ s.reqOf f.dev (UsbReq.isTirael SealReq.keyShare) = some q ∧ q.stage = 3 ∧ q.failed = false) ∧
    (∃ (t : TenantId) (h : Fin 1024) (y : Handshake) (f : Flow) (s : State) (q : Req) (m : List Byte), s.hs? t h = some y ∧ s.flow? t h = some
      f ∧ y.step = HsStep.confirm ∧ s.reqOf f.dev (UsbReq.isTirael SealReq.confirm) = some q ∧ q.stage = 3 ∧ q.failed = false ∧ confirmOk
      f.ep.addr m = true) ∧
    (∃ (t : TenantId) (h : Fin 1024) (y : Handshake) (f : Flow) (s : State) (q : Req) (m : List Byte), s.hs? t h = some y ∧ s.flow? t h = some
      f ∧ y.step = HsStep.confirm ∧ s.reqOf f.dev (UsbReq.isTirael SealReq.confirm) = some q ∧ q.stage = 3 ∧ q.failed = false ∧ confirmOk
      f.ep.addr m = false) ∧
    (∃ (t : TenantId) (h : Fin 1024) (y : Handshake) (f : Flow) (s : State) (q : Req) (r : ReqEnd), s.hs? t h = some y ∧ s.flow? t h = some f
      ∧ y.step = HsStep.confirm ∧ s.reqOf f.dev (UsbReq.isTirael SealReq.confirm) = some q ∧ ¬r = ReqEnd.ok) ∧
    (∃ (t : TenantId) (h : Fin 1024) (y : Handshake) (f : Flow) (s : State) (q : Req) (d : Dev) (n : Nat), s.hs? t h = some y ∧ s.flow? t h =
      some f ∧ y.step = HsStep.finish ∧ y.t = t ∧ y.h = h ∧ s.reqOf f.dev (UsbReq.isTirael SealReq.finish) = some q ∧ s.dev? f.dev = some
      d ∧ q.stage = 3 ∧ q.failed = false ∧ ¬s.pinOf d.identity = none ∧ y.repin = false ∧ f.key = none ∧ s.freeEntry (s.share t).bank =
      some n) ∧
    (∃ (t : TenantId) (h : Fin 1024) (y : Handshake) (f : Flow) (s : State) (q : Req) (d : Dev), s.hs? t h = some y ∧ s.flow? t h = some f ∧
      y.step = HsStep.finish ∧ y.t = t ∧ y.h = h ∧ s.reqOf f.dev (UsbReq.isTirael SealReq.finish) = some q ∧ s.dev? f.dev = some d ∧
      q.stage = 3 ∧ q.failed = false ∧ s.pinOf d.identity = none ∧ s.peatUp = true) ∧
    (∃ (t : TenantId) (h : Fin 1024) (y : Handshake) (f : Flow) (s : State) (q : Req) (d : Dev), s.hs? t h = some y ∧ s.flow? t h = some f ∧
      y.step = HsStep.finish ∧ y.t = t ∧ y.h = h ∧ s.reqOf f.dev (UsbReq.isTirael SealReq.finish) = some q ∧ s.dev? f.dev = some d ∧
      q.stage = 3 ∧ q.failed = false ∧ s.pinOf d.identity = none ∧ s.peatUp = false) ∧
    (∃ (t : TenantId) (h : Fin 1024) (y : Handshake) (f : Flow) (s : State) (u : CoreId) (m : HelloMsg) (d : Dev), s.hs? t h = some y ∧
      s.flow? t h = some f ∧ s.itemCore ItemCode.sealArith (arithArg t h) = some u ∧ y.hello = some m ∧ s.dev? f.dev = some d ∧ y.step =
      HsStep.arith) ∧
    (∃ (t : TenantId) (h : Fin 1024) (y : Handshake) (f : Flow) (s : State) (u : CoreId) (m : HelloMsg), s.hs? t h = some y ∧ s.flow? t h =
      some f ∧ s.itemCore ItemCode.sealArith (arithArg t h) = some u ∧ y.hello = some m ∧ y.step = HsStep.verify) ∧
    (∃ (t : TenantId) (h : Fin 1024) (y : Handshake) (f : Flow) (s : State) (u : TenantId) (k : Fin 1024) (g : Flow), s.hs? t h = some y ∧
      s.flow? t h = some f ∧ y.rekey = false ∧ s.flow? u k = some g) :=
  ⟨⟨0, 1, { t := 0, h := 1, rekey := true, step := .hello }, flow 1 inEp, asked dv.id (.tirael .hello 0x81 0 0 [])
      { withFlows [flow 1 inEp] with seals := { hs := [{ t := 0, h := 1, rekey := true, step := .hello }] }, peat := up.peat },
      { d := { port := 0, ss := false, path := [1] }, r := .tirael (.hello) 129 0 0 [], task := 16641, stage := 3 },
      { type := 1, version := 1, length := 109, epAddr := 129, unitLog2 := 9, chainLength := 1, received := 109, nonceP := 0, ephP := [4, 107, 23, 209, 242, 225, 44, 66, 71, 248, 188, 230, 229, 99, 164, 64, 242, 119, 3, 125, 129, 45, 235, 51, 160, 244, 161, 57, 69, 216, 152, 194, 150, 79, 227, 66, 226, 254, 26, 127, 155, 142, 231, 235, 74, 124, 15, 158, 22, 43, 206, 51, 87, 107, 49, 94, 206, 203, 182, 64, 104, 55, 191, 81, 245], certs := [[7]] },
      by decide +kernel⟩,
    ⟨0, 1, { t := 0, h := 1, rekey := true, step := .hello }, flow 1 inEp, asked dv.id (.tirael .hello 0x81 0 0 [])
      { withFlows [flow 1 inEp] with seals := { hs := [{ t := 0, h := 1, rekey := true, step := .hello }] }, peat := up.peat },
      { d := { port := 0, ss := false, path := [1] }, r := .tirael (.hello) 129 0 0 [], task := 16641, stage := 3 },
      { type := 1, version := 1, length := 4, epAddr := 129, unitLog2 := 12, chainLength := 1, received := 5, nonceP := 0, ephP := [], certs := [] },
      by decide +kernel⟩,
    ⟨0, 1, { t := 0, h := 1, rekey := true, step := .hello }, flow 1 inEp, asked dv.id (.tirael .hello 0x81 0 0 [])
      { withFlows [flow 1 inEp] with seals := { hs := [{ t := 0, h := 1, rekey := true, step := .hello }] }, peat := up.peat },
      { d := { port := 0, ss := false, path := [1] }, r := .tirael (.hello) 129 0 0 [], task := 16641, stage := 3 }, .stall, by
      decide +kernel⟩,
    ⟨0, 1, { t := 0, h := 1, rekey := true, step := .keyShare }, flow 1 inEp, asked dv.id (.tirael .keyShare 0x81 0 0 [])
      { withFlows [flow 1 inEp] with seals := { hs := [{ t := 0, h := 1, rekey := true, step := .keyShare }] }, peat := up.peat },
      { d := { port := 0, ss := false, path := [1] }, r := .tirael (.keyShare) 129 0 0 [], task := 16641, stage := 3 }, by decide +kernel⟩,
    ⟨0, 1, { t := 0, h := 1, rekey := true, step := .confirm }, flow 1 inEp, asked dv.id (.tirael .confirm 0x81 0 0 [])
      { withFlows [flow 1 inEp] with seals := { hs := [{ t := 0, h := 1, rekey := true, step := .confirm }] }, peat := up.peat },
      { d := { port := 0, ss := false, path := [1] }, r := .tirael (.confirm) 129 0 0 [], task := 16641, stage := 3 }, [3, 1, 72, 0, 129,
      0, 0, 0, 1, 1, 1, 1, 1, 1, 1, 1, 1, 1, 1, 1, 1, 1, 1, 1, 1, 1, 1, 1, 1, 1, 1, 1, 1, 1, 1, 1, 1, 1, 1, 1, 1, 1, 1, 1, 1, 1, 1, 1, 1,
      1, 1, 1, 1, 1, 1, 1, 1, 1, 1, 1, 1, 1, 1, 1, 1, 1, 1, 1, 1, 1, 1, 1], by decide +kernel⟩,
    ⟨0, 1, { t := 0, h := 1, rekey := true, step := .confirm }, flow 1 inEp, asked dv.id (.tirael .confirm 0x81 0 0 [])
      { withFlows [flow 1 inEp] with seals := { hs := [{ t := 0, h := 1, rekey := true, step := .confirm }] }, peat := up.peat },
      { d := { port := 0, ss := false, path := [1] }, r := .tirael (.confirm) 129 0 0 [], task := 16641, stage := 3 }, [], by
      decide +kernel⟩,
    ⟨0, 1, { t := 0, h := 1, rekey := false, step := .confirm }, flow 1 inEp, asked dv.id (.tirael .confirm 0x81 0 0 [])
      { withFlows [flow 1 inEp] with seals := { hs := [{ t := 0, h := 1, rekey := false, step := .confirm }] }, peat := up.peat },
      { d := { port := 0, ss := false, path := [1] }, r := .tirael (.confirm) 129 0 0 [], task := 16641, stage := 3 }, .stall, by
      decide +kernel⟩,
    ⟨0, 1, { t := 0, h := 1, rekey := true, step := .finish }, flow 1 inEp, asked dv.id (.tirael .finish 0x81 0 0 [])
      { withFlows [flow 1 inEp] with seals := { hs := [{ t := 0, h := 1, rekey := true, step := .finish }] }, peat := { mounted.peat with pins := [(1, dv.identity, 5)] } },
      { d := { port := 0, ss := false, path := [1] }, r := .tirael (.finish) 129 0 0 [], task := 16641, stage := 3 },
      { id := { port := 0, ss := false, path := [1] }, speed := .high, addr := 2, st := .granted, step := .done, desc := some { vid := 1, pid := 2, bcd := 0, bcdUsb := 512, cls := 0, sub := 0, proto := 0, numConfigs := 1, iSerial := 0 }, tenant := some 0, vp := 1, config := 1 },
      0, by decide +kernel⟩,
    ⟨0, 1, { t := 0, h := 1, rekey := true, step := .finish }, flow 1 inEp, asked dv.id (.tirael .finish 0x81 0 0 [])
      { withFlows [flow 1 inEp] with seals := { hs := [{ t := 0, h := 1, rekey := true, step := .finish }] }, peat := mounted.peat },
      { d := { port := 0, ss := false, path := [1] }, r := .tirael (.finish) 129 0 0 [], task := 16641, stage := 3 },
      { id := { port := 0, ss := false, path := [1] }, speed := .high, addr := 2, st := .granted, step := .done, desc := some { vid := 1, pid := 2, bcd := 0, bcdUsb := 512, cls := 0, sub := 0, proto := 0, numConfigs := 1, iSerial := 0 }, tenant := some 0, vp := 1, config := 1 },
      by decide +kernel⟩,
    ⟨0, 1, { t := 0, h := 1, rekey := true, step := .finish }, flow 1 inEp, asked dv.id (.tirael .finish 0x81 0 0 [])
      { withFlows [flow 1 inEp] with seals := { hs := [{ t := 0, h := 1, rekey := true, step := .finish }] }, peat := up.peat },
      { d := { port := 0, ss := false, path := [1] }, r := .tirael (.finish) 129 0 0 [], task := 16641, stage := 3 },
      { id := { port := 0, ss := false, path := [1] }, speed := .high, addr := 2, st := .granted, step := .done, desc := some { vid := 1, pid := 2, bcd := 0, bcdUsb := 512, cls := 0, sub := 0, proto := 0, numConfigs := 1, iSerial := 0 }, tenant := some 0, vp := 1, config := 1 },
      by decide +kernel⟩,
    ⟨0, 1,
      { t := 0, h := 1, rekey := true, step := .arith, hello := some { type := 1, version := 1, length := 109, epAddr := 129, unitLog2 := 9, chainLength := 1, received := 109, nonceP := 0, ephP := [], certs := [[7]] } },
      flow 1 inEp, item .sealArith 1
      { withFlows [flow 1 inEp] with seals := { hs := [{ t := 0, h := 1, rekey := true, step := .arith, hello := some { type := 1, version := 1, length := 109, epAddr := 0x81, unitLog2 := 9, chainLength := 1, received := 109, nonceP := 0, ephP := [], certs := [[7]] } }] }, peat := mounted.peat },
      0,
      { type := 1, version := 1, length := 109, epAddr := 129, unitLog2 := 9, chainLength := 1, received := 109, nonceP := 0, ephP := [], certs := [[7]] },
      { id := { port := 0, ss := false, path := [1] }, speed := .high, addr := 2, st := .granted, step := .done, desc := some { vid := 1, pid := 2, bcd := 0, bcdUsb := 512, cls := 0, sub := 0, proto := 0, numConfigs := 1, iSerial := 0 }, tenant := some 0, vp := 1, config := 1 },
      by decide +kernel⟩,
    ⟨0, 1,
      { t := 0, h := 1, rekey := true, step := .verify, hello := some { type := 1, version := 1, length := 109, epAddr := 129, unitLog2 := 9, chainLength := 1, received := 109, nonceP := 0, ephP := [], certs := [[7]] } },
      flow 1 inEp, item .sealArith 1
      { withFlows [flow 1 inEp] with seals := { hs := [{ t := 0, h := 1, rekey := true, step := .verify, hello := some { type := 1, version := 1, length := 109, epAddr := 0x81, unitLog2 := 9, chainLength := 1, received := 109, nonceP := 0, ephP := [], certs := [[7]] } }] }, peat := mounted.peat },
      0,
      { type := 1, version := 1, length := 109, epAddr := 129, unitLog2 := 9, chainLength := 1, received := 109, nonceP := 0, ephP := [], certs := [[7]] },
      by decide +kernel⟩,
    ⟨0, 1, { t := 0, h := 1, rekey := false }, flow 1 inEp,
      { withFlows [flow 1 inEp] with seals := { hs := [{ t := 0, h := 1, rekey := false, step := .pipe }] } }, 0, 1, flow 1 inEp, by
      decide +kernel⟩⟩

theorem witness_RekeyAndTeardown :
    (∃ (t : TenantId) (h : Fin 1024) (s : State) (f : Flow) (k : KeyCtx) (w : WorkerId) (o : Op), s.flow? t h = some f ∧ f.key = some k ∧ Due
      s (DelayFor.rekey t h) w o ∧ ¬k.epoch = 255) ∧
    (∃ (t : TenantId) (h : Fin 1024) (s : State) (f : Flow) (k : KeyCtx) (w : WorkerId) (o : Op), s.flow? t h = some f ∧ f.key = some k ∧ Due
      s (DelayFor.rekey t h) w o ∧ k.epoch = 255 ∧ s.hs? t h = none ∧ s.sealStep1 t true = none) ∧
    (∃ (t : TenantId) (h : Fin 1024) (s : State), s.delayUnit (DelayFor.rekey t h) = none) ∧
    (∃ (t : TenantId) (h : Fin 1024) (s : State) (f : Flow) (q : Req) (r : ReqEnd), s.flow? t h = some f ∧ (s.reqOf f.dev fun a =>
      UsbReq.isTirael SealReq.rekey a && UsbReq.handshakes f.ep.addr a) = some q ∧ (r = ReqEnd.ok → q.stage = 3 ∧ q.failed = false)) ∧
    (∃ (s : State) (d : DevId) (q : Req) (r : ReqEnd), s.reqOf d (UsbReq.isTirael SealReq.teardown) = some q ∧ (r = ReqEnd.ok → q.stage = 3 ∧
      q.failed = false)) ∧
    (∃ (s : State) (d : DevId), s.reqOf d (UsbReq.isTirael SealReq.teardown) = none) :=
  ⟨⟨0, 1, due (.rekey 0 1) 16660 { withFlows [{ flow 1 inEp with key := some key0, ep := inEp }] with peat := mounted.peat },
      { flow 1 inEp with key := some { entry := 9, epoch := 0, seq := 0, deadline := some 100, unitLog2 := 9, prk := 0 } },
      { entry := 9, epoch := 0, seq := 0, deadline := some 100, unitLog2 := 9, prk := 0 }, 0,
      { task := 16660, node := .check, pl := 3, why := some (.rekey 0 1) }, by decide +kernel⟩,
    ⟨0, 1, due (.rekey 0 1) 16660
      { withFlows [{ flow 1 inEp with key := some { key0 with epoch := 255 }, ep := inEp }] with peat := mounted.peat },
      { flow 1 inEp with key := some { entry := 9, epoch := 255, seq := 0, deadline := some 100, unitLog2 := 9, prk := 0 } },
      { entry := 9, epoch := 255, seq := 0, deadline := some 100, unitLog2 := 9, prk := 0 }, 0,
      { task := 16660, node := .check, pl := 3, why := some (.rekey 0 1) }, by decide +kernel⟩,
    ⟨0, 0, up, by decide +kernel⟩,
    ⟨0, 1, asked dv.id (.tirael .rekey 0x81 0 0 []) (withFlows [{ flow 1 inEp with key := some { key0 with rekeyDue := true } }]),
      { flow 1 inEp with key := some { entry := 9, epoch := 0, seq := 0, deadline := some 100, unitLog2 := 9, prk := 0, rekeyDue := true } },
      { d := { port := 0, ss := false, path := [1] }, r := .tirael (.rekey) 129 0 0 [], task := 16641, stage := 3 }, .ok, by
      decide +kernel⟩,
    ⟨asked dv.id (.tirael .teardown 0x81 0 0 []) devs, { port := 0, ss := false, path := [1] },
      { d := { port := 0, ss := false, path := [1] }, r := .tirael (.teardown) 129 0 0 [], task := 16641, stage := 3 }, .ok, by
      decide +kernel⟩,
    ⟨up, { port := 0, ss := true, path := [] }, by decide +kernel⟩⟩

theorem witness_SourceLevelsAndCores :
    (∃ (s : State) (x : Src), x.listed = true ∧ s.levelOf x = true ∧ (s.irqSrc x).level = false ∧ s.mgmtRuns = true) ∧
    (∃ (s : State) (x : Src), x.listed = true ∧ s.levelOf x = true ∧ (s.irqSrc x).level = false ∧ s.mgmtRuns = false) ∧
    (∃ (s : State) (x : Src), (∀ (c : CoreId) (n : Fin 16), x ≠ Src.core c n) ∧ s.levelOf x = false ∧ (s.irqSrc x).level = true ∧ s.mgmtRuns =
      true) ∧
    (∃ (s : State) (c : Fin 4), ((vget s.sched.cores c).op.isSome = true ∨ (vget s.sched.cores c).fenced = true ∨ s.mgmtRuns = false)) ∧
    (∃ (s : State) (c : Fin 4), s.mgmtRuns = true ∧ (vget s.sched.cores c).op = none ∧ (vget s.sched.cores c).fenced = false ∧ s.claimable
      (Target.core c) = none) ∧
    (∃ (s : State) (c : Fin 4) (x : Src), s.mgmtRuns = true ∧ (vget s.sched.cores c).op = none ∧ (vget s.sched.cores c).fenced = false ∧
      s.claimable (Target.core c) = some x) ∧
    (∃ (s : State) (c : Fin 4), s.mgmtRuns = true ∧ (vget s.sched.cores c).claimed = []) ∧
    (∃ (s : State) (c : CoreId) (n : Fin 96) (cnt at_ : Nat), s.mgmtRuns = true ∧ (vget s.sched.cores c).claimed = [(n.val, cnt, at_)] ∧ (vget
      s.shared n).level = false) :=
  ⟨⟨{ up with mgr := { up.mgr with notices := [{ key := .time }], pi := 3, ci := 0 } }, .pf 0, by decide +kernel⟩,
    ⟨pow (fun p => { p with lp := .lp2, islands := p.islands.map (fun _ => { state := .retention }) })
      { up with mgr := { up.mgr with notices := [{ key := .time }], pi := 3, ci := 0 } }, .pf 0, by decide +kernel⟩,
    ⟨{ up with pfIrq := up.pfIrq.set 2 { level := true } }, .pf 2, by decide +kernel⟩,
    ⟨item .enumerate 0 up, 0, by decide +kernel⟩,
    ⟨up, 0, by decide +kernel⟩,
    ⟨up.modCore 0 (fun x => { x with bank := x.bank.set 3 { en := true, level := true, count := 1 } }), 0, .core 0 3, by decide +kernel⟩,
    ⟨up, 0, by decide +kernel⟩,
    ⟨{ up with shared := up.shared.set 0 { en := true, level := false, target := 1, inService := true }, sched := { up.sched with cores := up.sched.cores.set 0 { claimed := [(0, 1, 5)] } } },
      0, 0, 1, 5, by decide +kernel⟩⟩

theorem witness_PowerStatesAndSleep :
    (∃ (s : State), (s.power.entering = true ∨ s.power.exiting = true ∨ s.power.lp = LpState.lp3)) ∧
    (∃ (s : State), s.power.entering = false ∧ s.power.exiting = false ∧ s.power.lp = LpState.lp0 ∧ s.permitted LpState.lp1 = false ∧
      s.permitted LpState.lp2 = false ∧ s.permitted LpState.lp3 = false) ∧
    (∃ (s : State), s.power.entering = false ∧ s.power.exiting = false ∧ s.power.lp = LpState.lp0 ∧ s.permitted LpState.lp1 = true ∧
      s.permitted LpState.lp2 = false ∧ s.permitted LpState.lp3 = false) ∧
    (∃ (s : State), s.power.entering = false ∧ s.power.exiting = false ∧ s.power.lp = LpState.lp0 ∧ s.permitted LpState.lp2 = true ∧
      s.permitted LpState.lp3 = false) ∧
    (∃ (s : State), s.power.entering = false ∧ s.power.exiting = false ∧ s.power.lp = LpState.lp0 ∧ s.permitted LpState.lp3 = true) ∧
    (∃ (s : State), s.power.entering = true) ∧
    (∃ (s : State) (w : Fin 12), ¬w.val = 5 ∧ (s.power.lp ≠ LpState.lp0 ∨ s.power.entering = true ∨ s.power.exiting = true)) ∧
    (∃ (s : State) (w : Fin 12), ¬w.val = 5 ∧ s.power.lp = LpState.lp1 ∧ s.power.entering = false ∧ s.power.exiting = false) ∧
    (∃ (s : State) (w : Fin 12), ¬w.val = 5 ∧ AtWork s) ∧
    (∃ (s : State), s.power.lp = LpState.lp3 ∧ ¬s.power.wakeTimer = none ∧ s.power.exiting = false) ∧
    (∃ (s : State), ¬s.power.lp = LpState.lp3) ∧
    (∃ (s : State), s.link = LinkState.l0 ∧ s.pf.bit 96 1 = true) ∧
    (∃ (s : State), (s.link ≠ LinkState.l0 ∨ s.pf.bit 96 1 = false)) ∧
    (∃ (s : State), s.link = LinkState.l1 ∧ s.pf.bit 632 2 = true) ∧
    (∃ (s : State), s.link = LinkState.l1 ∧ s.pf.bit 632 3 = true) ∧
    (∃ (s : State), s.power.saved = none) ∧
    (∃ (t0 : Nat) (s : State), s.power.saved = some t0 ∧ s.power.exiting = true ∧ (∀ (i : Fin 14), (vget s.power.islands i).ready = true)) ∧
    (∃ (t0 : Nat) (s : State), s.power.saved = some t0 ∧ s.power.exiting = false) :=
  ⟨⟨pow (fun p => { p with lp := .lp3 }) up, by decide +kernel⟩,
    ⟨up, by decide +kernel⟩,
    ⟨inW (op 1 .issue)
      { withFlows [flow 1 inEp] with tenants := (withFlows []).tenants.set 0 { up.tenants[0] with st := .fenced, vf := false } }, by
      decide +kernel⟩,
    ⟨(up.modTenant 0 (fun x => { x with latTol := 0xFFFFFFFF })) |> (fun s =>
      { s with link := .l12, pins := { up.pins with xtal32 := false }, power := { up.power with latFloor := 0xFFFFFFFF } }), by
      decide +kernel⟩,
    ⟨(up.modTenant 0 (fun x => { x with latTol := 0xFFFFFFFF })) |> (fun s =>
      { s with link := .l12, pins := { up.pins with xtal32 := true }, power := { up.power with latFloor := 0xFFFFFFFF } }), by
      decide +kernel⟩,
    ⟨pow (fun p => { p with entering := true, lp := .lp0 }) up, by decide +kernel⟩,
    ⟨pow (fun p => { p with saved := some 500, lp := .lp3 }) up, 0, by decide +kernel⟩,
    ⟨pow (fun p => { p with lp := .lp1 }) up, 0, by decide +kernel⟩,
    ⟨up, 0, by decide +kernel⟩,
    ⟨pow (fun p => { p with lp := .lp3 }) up, by decide +kernel⟩,
    ⟨up, by decide +kernel⟩,
    ⟨up, by decide +kernel⟩,
    ⟨State.reset, by decide +kernel⟩,
    ⟨{ up with link := .l1 }, by decide +kernel⟩,
    ⟨{ up with link := .l1 }, by decide +kernel⟩,
    ⟨up, by decide +kernel⟩,
    ⟨500, pow (fun p => { p with saved := some 500, lp := .lp3, exiting := true }) up, by decide +kernel⟩,
    ⟨500, pow (fun p => { p with saved := some 500, lp := .lp3 }) up, by decide +kernel⟩⟩

theorem witness_IslandsAndRetention :
    (∃ (s : State) (i : Island), (vget s.power.islands i.idx).state = IslandState.running ∧ s.power.entering = false ∧ s.power.exiting = false
      ∧ s.islandIdle i = true ∧ Island.sleep s.power.lp i = some IslandState.gated) ∧
    (∃ (s : State) (i : Island), (vget s.power.islands i.idx).state = IslandState.running ∧ s.power.entering = false ∧ s.power.exiting = false
      ∧ s.islandIdle i = true ∧ Island.sleep s.power.lp i = some IslandState.retention) ∧
    (∃ (s : State) (i : Island), (vget s.power.islands i.idx).state = IslandState.running ∧ s.power.entering = false ∧ s.power.exiting = false
      ∧ s.islandIdle i = true ∧ Island.sleep s.power.lp i = none) ∧
    (∃ (s : State) (i : Island), s.islandIdle i = false) ∧
    (∃ (i : Island) (j : Fin 14), ¬j = i.idx) ∧
    (∃ (s : State) (i : Island), s.running i = true) ∧
    (∃ (s : State) (i : Island), ((s.island i).state = IslandState.gated ∨ (s.island i).state = IslandState.retention) ∧ (s.power.lp =
      LpState.lp1 ∨ s.power.lp = LpState.lp2) ∧ s.power.entering = false) ∧
    (∃ (s : State) (i : Island), ((s.island i).state = IslandState.waking ∨ (s.island i).state = IslandState.restarting)) ∧
    (∃ (s : State) (i : Island), (s.island i).state = IslandState.waking ∧ s.power.exiting = false ∧ ¬i = Island.mgmt) ∧
    (∃ (s : State), s.running Island.mgmt = false ∧ (s.island Island.mgmt).state = IslandState.waking ∧ s.power.exiting = false ∧ (s.island
      Island.mgmt).held = []) ∧
    (∃ (s : State) (i : Island), ¬(vget s.power.islands i.idx).state = IslandState.waking) ∧
    (∃ (s : State) (b : Fin 20), (s.power.lp = LpState.lp2 ∨ s.power.lp = LpState.lp3 ∨ ((bankIslands b.val).any fun i => decide ((s.island
      i).state = IslandState.waking)) = true)) ∧
    (∃ (s : State) (b : Fin 20), (s.power.lp = LpState.lp2 ∨ s.power.lp = LpState.lp3) ∧ (b.val = 16 → s.power.zeroDue = false)) ∧
    (∃ (s : State), s.power.zeroDue = true) :=
  ⟨⟨pow (fun p => { p with lp := .lp1 }) up, .svc, by decide +kernel⟩,
    ⟨pow (fun p => { p with lp := .lp2 }) up, .svc, by decide +kernel⟩,
    ⟨up, .aon, by decide +kernel⟩,
    ⟨inW (op 16640 .fetch 0 2) up, .func, by decide +kernel⟩,
    ⟨.aon, 1, by decide +kernel⟩,
    ⟨up, .aon, by decide +kernel⟩,
    ⟨pow (fun p => { p with lp := .lp1, islands := p.islands.set 7 { state := .gated, held := [⟨.hostlink, .other 1⟩] } }) up, .seal, by
      decide +kernel⟩,
    ⟨pow (fun p => { p with islands := p.islands.set 3 { state := .restarting } }) up, .sched, by decide +kernel⟩,
    ⟨pow (fun p => { p with lp := .lp1, islands := p.islands.set 12 { state := .waking } }) up, .nvm, by decide +kernel⟩,
    ⟨pow (fun p => { p with islands := p.islands.set 11 { state := .waking } }) up, by decide +kernel⟩,
    ⟨up, .aon, by decide +kernel⟩,
    ⟨pow (fun p => { p with saved := some 500, lp := .lp3 }) up, 0, by decide +kernel⟩,
    ⟨pow (fun p => { p with saved := some 500, lp := .lp3 }) up, 0, by decide +kernel⟩,
    ⟨pow (fun p => { p with lp := .lp3, zeroDue := true }) up, by decide +kernel⟩⟩

theorem witness_OperatingPoints :
    (∃ (s : State), (s.power.change ≠ none ∨ s.power.oppFault = true ∨ s.oppWanted = s.power.opp)) ∧
    (∃ (s : State), s.power.change = none ∧ s.power.oppFault = false ∧ s.img.locked = true ∧ s.power.entering = false ∧ s.power.exiting =
      false ∧ ¬s.power.lp = LpState.lp3 ∧ s.power.opp < s.oppWanted) ∧
    (∃ (s : State), s.power.change = none ∧ s.power.oppFault = false ∧ s.img.locked = true ∧ s.power.entering = false ∧ s.power.exiting =
      false ∧ ¬s.power.lp = LpState.lp3 ∧ s.oppWanted < s.power.opp) ∧
    (∃ (s : State) (n : Nat), s.power.change = some (n, OppPhase.waitPg)) ∧
    (∃ (s : State) (n : Nat), s.power.change = some (n, OppPhase.settle)) ∧
    (∃ (s : State) (n : Nat), s.power.change = some (n, OppPhase.relock)) ∧
    (∃ (n : Nat), n < 1000) ∧
    (∃ (s : State) (n : Nat), 1000 ≤ n ∧ ¬s.power.oppMode = 3) ∧
    (∃ (s : State) (n : Nat), 1000 ≤ n ∧ s.power.oppMode = 3 ∧ s.img.locked = true ∧ 100 * s.power.busy < 35 * s.power.slots ∧ s.power.lowRun
      < 7) ∧
    (∃ (s : State) (n : Nat), 1000 ≤ n ∧ s.power.oppMode = 3 ∧ s.img.locked = true ∧ 35 * s.power.slots ≤ 100 * s.power.busy ∧ 100 *
      s.power.busy ≤ 80 * s.power.slots) ∧
    (∃ (s : State) (n : Nat), 1000 ≤ n ∧ s.power.oppMode = 3 ∧ s.img.locked = true ∧ 80 * s.power.slots < 100 * s.power.busy) :=
  ⟨⟨up, by decide +kernel⟩,
    ⟨pow (fun p => { p with oppMode := 2, opp := 0 }) up, by decide +kernel⟩,
    ⟨pow (fun p => { p with oppMode := 0, opp := 2 }) up, by decide +kernel⟩,
    ⟨pow (fun p => { p with change := some (1, .waitPg) }) up, 1, by decide +kernel⟩,
    ⟨pow (fun p => { p with change := some (1, .settle) }) up, 1, by decide +kernel⟩,
    ⟨pow (fun p => { p with change := some (1, .relock) }) up, 1, by decide +kernel⟩,
    ⟨0, by decide +kernel⟩,
    ⟨pow (fun p => { p with oppMode := 0, opp := 2 }) up, 2000, by decide +kernel⟩,
    ⟨pow (fun p => { p with busy := 1, slots := 100, lowRun := 0 }) up, 2000, by decide +kernel⟩,
    ⟨up, 2000, by decide +kernel⟩,
    ⟨pow (fun p => { p with busy := 95, slots := 100, lowRun := 0 }) up, 2000, by decide +kernel⟩⟩

theorem witness_JournalRecords :
    (∃ (s : State), (s.nextRec = none ∨ s.peat.openHead s.fuses.epoch = none)) ∧
    (∃ (s : State) (q : QRec) (i : Nat) (b : Bool) (h : PeatSt), s.nextRec = some q ∧ s.peat.openHead s.fuses.epoch = some (i, b, h) ∧
      s.peat.formatting = false) ∧
    (∃ (s : State) (q : QRec) (i : Nat) (b : Bool) (h : PeatSt) (r : ProgramEnd), s.nextRec = some q ∧ s.peat.openHead s.fuses.epoch = some
      (i, b, h) ∧ (r = ProgramEnd.mismatch ∨ r = ProgramEnd.failed)) ∧
    (∃ (s : State) (q : QRec) (i : Nat) (b : Bool) (h : PeatSt), s.nextRec = some q ∧ s.peat.openHead s.fuses.epoch = some (i, b, h) ∧ b =
      true) ∧
    (∃ (s : State), (s.peatUp = false ∨ s.peat.ckptBusy = true ∨ ¬s.peat.ckptTime + 720 * 3600 * 10 ^ 9 ≤ s.time.now)) ∧
    (∃ (s : State), s.peatUp = true ∧ s.peat.ckptBusy = false ∧ s.peat.ckptTime + 720 * 3600 * 10 ^ 9 ≤ s.time.now) ∧
    (∃ (s : State), (s.peat.waiting = [] ∨ s.peatWrites = false)) ∧
    (∃ (s : State) (t : TenantId) (c : Fin 4) (u : CoreId), s.itemCore ItemCode.leaseCommit (4 * t.val + c.val) = some u ∧ s.peatWrites =
      true) ∧
    (∃ (s : State) (u : CoreId), s.itemCore ItemCode.logWrite = some u ∧ s.peatWrites = true ∧ ¬s.peat.waiting = []) ∧
    (∃ (s : State) (u : CoreId) (y : Sector), s.itemCore ItemCode.compactStep = some u ∧ s.peatUp = true ∧ s.peat.powerFail = false ∧
      s.peat.tail = some y ∧ s.peat.erasing = none ∧ (∀ (z : Sector), s.peat.head = some z → z.idx ≠ y.idx) ∧ ¬s.peat.head = none ∧
      s.holdsLive y = false ∧ s.peat.copied = some y.idx ∧ s.copiesWait y = false ∧ y.retired = false ∧ y.slots.any Slot.decayed = false) ∧
    (∃ (s : State) (i : Nat) (y : Sector), s.peat.erasing = some i ∧ s.peat.sector? i = some y) :=
  ⟨⟨up, by decide +kernel⟩,
    ⟨peat (fun p => { p with queue := [{ body := .log [] }] }) mounted, { body := .log [] }, 0, true,
      { state := .mounted, reason := .none, sectorLog2 := 12, copies := #v[some sb0, some sb0], usable := 4, sectors := [{ idx := 0, seq := some 1 }], horizonOk := true, queue := [{ body := .log [] }] },
      by decide +kernel⟩,
    ⟨peat (fun p => { p with queue := [{ body := .log [] }] }) mounted, { body := .log [] }, 0, true,
      { state := .mounted, reason := .none, sectorLog2 := 12, copies := #v[some sb0, some sb0], usable := 4, sectors := [{ idx := 0, seq := some 1 }], horizonOk := true, queue := [{ body := .log [] }] },
      .failed, by decide +kernel⟩,
    ⟨peat (fun p => { p with queue := [{ body := .log [] }] }) mounted, { body := .log [] }, 0, true,
      { state := .mounted, reason := .none, sectorLog2 := 12, copies := #v[some sb0, some sb0], usable := 4, sectors := [{ idx := 0, seq := some 1 }], horizonOk := true, queue := [{ body := .log [] }] },
      by decide +kernel⟩,
    ⟨up, by decide +kernel⟩,
    ⟨{ mounted with time := { now := 3000000000000000 } }, by decide +kernel⟩,
    ⟨up, by decide +kernel⟩,
    ⟨item .leaseCommit 0 mounted, 0, 0, 0, by decide +kernel⟩,
    ⟨item .logWrite 0 (peat (fun p => { p with waiting := [{ index := 0, time := 1, mount := 0, code := 3 }], logNext := 1 }) mounted), 0, by
      decide +kernel⟩,
    ⟨item .compactStep 0 (peat (fun p => { p with sectors := [{ idx := 0, seq := some 1 }, { idx := 1, seq := some 2 }], copied := some 0 })
      mounted), 0, { idx := 0, seq := some 1 }, by decide +kernel⟩,
    ⟨peat (fun p => { p with erasing := some 0, sectors := [{ idx := 0, seq := some 1, erases := 99999 }] }) up, 0,
      { idx := 0, seq := some 1, erases := 99999 }, by decide +kernel⟩⟩

theorem witness_JournalStates :
    (∃ (s : State), s.peatUp = false) ∧
    (∃ (s : State), s.peatUp = true) ∧
    (∃ (s : State), (s.peat.formatting = false ∨ s.peat.powerFail = true)) ∧
    (∃ (s : State), s.peat.formatting = true ∧ s.peat.powerFail = false ∧ ¬s.fuses.epoch = 255) ∧
    (∃ (s : State), s.itemCore ItemCode.peatMount = none) ∧
    (∃ (s : State) (c : CoreId), s.itemCore ItemCode.peatMount = some c) :=
  ⟨⟨up, by decide +kernel⟩,
    ⟨mounted, by decide +kernel⟩,
    ⟨up, by decide +kernel⟩,
    ⟨peat (fun p => { p with formatting := true, state := .absent, queue := [{ body := .log [] }] }) mounted, by decide +kernel⟩,
    ⟨up, by decide +kernel⟩,
    ⟨item .peatMount 0 (up), 0, by decide +kernel⟩⟩

theorem witness_ItemsRunInTheirSlot :
    (∃ (s : State) (c : Instr) (i : ItemCode) (arg : Nat), itemRow c = some (i, arg) ∧ s.itemCore i arg = none) ∧
    (∃ (s : State) (c : Instr) (i : ItemCode) (arg : Nat) (u : CoreId), itemRow c = some (i, arg) ∧ s.itemCore i arg = some u) ∧
    (∃ (s : State) (u : CoreId), s.itemCore ItemCode.imageSelect = some u) ∧
    (∃ (s : State) (u : CoreId) (i : Image), s.itemCore ItemCode.tableBuild = some u ∧ s.img.image = some i) ∧
    (∃ (s : State) (u : CoreId) (i : Image), s.itemCore ItemCode.portPower = some u ∧ s.img.image = some i) ∧
    (∃ (s : State) (u : CoreId), s.itemCore ItemCode.selfTestMbist = some u) ∧
    (∃ (s : State) (u : CoreId), s.itemCore ItemCode.wake = some u) ∧
    (∃ (s : State) (u : CoreId), s.itemCore ItemCode.selfTestLoopback = some u) :=
  ⟨⟨up, .wake, .wake, 0, by decide +kernel⟩,
    ⟨item .wake 0 (up), .wake, .wake, 0, 0, by decide +kernel⟩,
    ⟨item .imageSelect 0 (up), 0, by decide +kernel⟩,
    ⟨item .tableBuild 0 (up), 0, img0, by decide +kernel⟩,
    ⟨item .portPower 0 (up), 0, img0, by decide +kernel⟩,
    ⟨item .selfTestMbist 0 (up), 0, by decide +kernel⟩,
    ⟨item .wake 0 (up), 0, by decide +kernel⟩,
    ⟨item .selfTestLoopback 0 (up), 0, by decide +kernel⟩⟩

theorem witness_DrainsAndFaults :
    (∃ (s : State) (t : TenantId), ¬(s.tenant t).st = TenantState.quiescing) ∧
    (∃ (s : State) (t : TenantId), (s.tenant t).st = TenantState.quiescing ∧ s.tenantInSlots t = false ∧ (∀ (f : Flow), f ∈ s.flows → f.t = t
      → f.tds = [] ∧ f.done = []) ∧ (s.tenant t).rings.orders = [] ∧ (s.tenant t).rings.buf = [] ∧ (s.tenant t).rings.again = [] ∧
      (s.tenant t).rings.notify = [] ∧ (s.tenant t).pci.held = []) ∧
    (∃ (s : State) (t : TenantId), ((s.tenant t).st ≠ TenantState.fenced ∨ s.tenantInSlots t = true)) ∧
    (∃ (s : State) (t : TenantId), (s.tenant t).st = TenantState.fenced ∧ s.tenantInSlots t = false ∧ (s.tenant t).vf = false) ∧
    (∃ (s : State), (s.power.lp = LpState.lp0 ∨ s.power.lp = LpState.lp1)) ∧
    (∃ (s : State), (s.power.lp = LpState.lp2 ∨ s.power.lp = LpState.lp3)) ∧
    (∃ (s : State) (w : Fin 32), ((vget s.sched.workers w).cur = none ∨ (vget s.sched.workers w).fenced = true)) ∧
    (∃ (s : State) (w : Fin 32) (o : Op), (vget s.sched.workers w).cur = some o ∧ (vget s.sched.workers w).fenced = false) ∧
    (∃ (s : State) (i : Island), ¬i = Island.aon ∧ s.restarting i = false) ∧
    (∃ (s : State) (i : Island), s.restarting i = true ∧ (s.island i).held = []) ∧
    (∃ (s : State), s.restarting Island.lode = true) ∧
    (∃ (s : State), s.restarting Island.lode = false) ∧
    (∃ (s : State) (c : Fin 4) (o : Op) (i : ItemCode), (vget s.sched.cores c).op = some o ∧ o.item = some i ∧ i.exempt = true) ∧
    (∃ (s : State) (c : Fin 4) (o : Op) (i : ItemCode), (vget s.sched.cores c).op = some o ∧ o.item = some i ∧ i.exempt = false) ∧
    (∃ (s : State) (u : CoreId) (j : FaultJob) (l : List FaultJob), s.itemCore ItemCode.faultRecover = some u ∧ s.faults.jobs = j :: l) :=
  ⟨⟨up, 0, by decide +kernel⟩,
    ⟨up, 3, by decide +kernel⟩,
    ⟨up, 0, by decide +kernel⟩,
    ⟨up.modTenant 4 (fun x => { x with vf := false }), 4, by decide +kernel⟩,
    ⟨up, by decide +kernel⟩,
    ⟨pow (fun p => { p with saved := some 500, lp := .lp3 }) up, by decide +kernel⟩,
    ⟨up, 0, by decide +kernel⟩,
    ⟨inW (op 16640 .fetch 0 2) up, 0, { task := 16640, node := .fetch, pl := 0, arg := 2 }, by decide +kernel⟩,
    ⟨up, .svc, by decide +kernel⟩,
    ⟨pow (fun p => { p with islands := p.islands.set 4 { state := .restarting } }) up, .lode, by decide +kernel⟩,
    ⟨pow (fun p => { p with islands := p.islands.set 4 { state := .restarting } }) up, by decide +kernel⟩,
    ⟨up, by decide +kernel⟩,
    ⟨item .enumerate 0 up, 0, { task := 16661, node := .check, pl := 0, item := some (.enumerate) }, .enumerate, by decide +kernel⟩,
    ⟨item .wake 0 (up), 0, { task := 16661, node := .check, pl := 0, item := some (.wake) }, .wake, by decide +kernel⟩,
    ⟨item .faultRecover 0
      { up.modWorker 3 (fun x => { x with fenced := true }) with faults := { jobs := [{ cls := 2, unit := 3, time := 5, worker := some 3 }] } },
      0, { cls := 2, unit := 3, time := 5, worker := some 3 }, [], by decide +kernel⟩⟩

theorem witness_ServicePortBusEvents :
    (∃ (s : State), s.mayAttach = true ∧ s.svc.attached = false) ∧
    (∃ (s : State), (s.mayAttach = false ∨ s.svc.attached = true)) ∧
    (∃ (s : State), (s.mayAttach = true ∨ s.svc.attached = false)) ∧
    (∃ (s : State), s.mayAttach = false ∧ s.svc.attached = true) ∧
    (∃ (s : State) (b : Bool), ¬b = s.svc.vbus ∧ (b = true ∨ s.svc.suspended = false)) ∧
    (∃ (s : State), s.svc.vbus = true ∧ s.svc.suspended = true) ∧
    (∃ (s : State), (s.svc.attached = false ∨ s.svc.suspended = true)) ∧
    (∃ (s : State), s.svc.attached = true ∧ s.svc.suspended = false) ∧
    (∃ (s : State), s.svc.suspended = true ∧ s.svc.remoteWake = true ∧ ¬s.svc.ep1 = 0 ∧ s.svc.driveK = none) ∧
    (∃ (s : State), (s.svc.suspended = false ∨ s.svc.remoteWake = false ∨ s.svc.ep1 = 0 ∨ s.svc.driveK ≠ none)) :=
  ⟨⟨svc (fun v => { v with attached := false, resets := 3 }) att, by decide +kernel⟩,
    ⟨up, by decide +kernel⟩,
    ⟨up, by decide +kernel⟩,
    ⟨svc (fun v => { v with vbus := false, resets := 3 }) att, by decide +kernel⟩,
    ⟨up, true, by decide +kernel⟩,
    ⟨svc (fun v => { v with suspended := true, resets := 3 }) att, by decide +kernel⟩,
    ⟨up, by decide +kernel⟩,
    ⟨att, by decide +kernel⟩,
    ⟨svc (fun v => { v with suspended := true, remoteWake := true, ep1 := 3, resets := 3 }) att, by decide +kernel⟩,
    ⟨up, by decide +kernel⟩⟩

theorem witness_ServicePortRequests :
    (∃ (s : State) (x : Setup) (c : Instr) (r : Nat), svcRow c = some (x, r) ∧ (s.svcOn = false ∨ reqCode x ≠ r ∨ reqType x / 32 % 4 = 0)) ∧
    (∃ (s : State) (x : Setup) (c : Instr) (r : Nat), svcRow c = some (x, r) ∧ s.svcOn = true ∧ reqCode x = r ∧ ¬reqType x / 32 % 4 = 0 ∧
      ((reqType x ≠ if r = 2 ∨ r = 17 ∨ 32 ≤ r then 64 else 192) ∨ reqIndex x ≠ 0)) ∧
    (∃ (s : State) (x : Setup) (c : Instr) (r : Nat), svcRow c = some (x, r) ∧ s.svcOn = true ∧ reqCode x = r ∧ ¬reqType x / 32 % 4 = 0 ∧ 32 ≤
      r ∧ s.svc.session = false) ∧
    (∃ (s : State), s.svcOn = false) ∧
    (∃ (s : State) (x : Setup), s.svcOn = true ∧ reqType x / 32 % 4 = 0 ∧ (reqCode x = 2 ∨ reqCode x = 4 ∨ reqCode x = 7 ∨ 12 ≤ reqCode x)) ∧
    (∃ (s : State) (x : Setup), s.svcOn = true ∧ reqType x / 32 % 4 = 0 ∧ reqCode x = 9 ∧ 1 < reqValue x) ∧
    (∃ (s : State) (x : Setup), s.svcOn = true ∧ reqType x / 32 % 4 = 0 ∧ reqCode x = 5 ∧ reqType x = 0 ∧ reqValue x < 128 ∧ reqIndex x = 0 ∧
      reqLength x = 0 ∧ s.svc.dropVerify.configured = false) ∧
    (∃ (s : State) (x : Setup), s.svcOn = true ∧ reqType x / 32 % 4 = 0 ∧ reqCode x = 9 ∧ reqType x = 0 ∧ reqValue x = 1 ∧ reqIndex x = 0 ∧
      reqLength x = 0 ∧ ¬s.svc.dropVerify.address = 0) ∧
    (∃ (s : State) (x : Setup), s.svcOn = true ∧ reqType x / 32 % 4 = 0 ∧ reqCode x = 6 ∧ reqType x = 128 ∧ reqIndex x = 0 ∧ reqValue x = 1536
      ∧ ¬s.svcSec = none) ∧
    (∃ (s : State) (x : Setup), s.svcOn = true ∧ reqCode x = 1 ∧ reqType x = 192 ∧ reqIndex x = 0 ∧ reqValue x ≤ 129 ∧ 1 ≤ reqLength x ∧
      reqLength x ≤ 4096) ∧
    (∃ (s : State) (x : Setup), s.svcOn = true ∧ reqCode x = 2 ∧ reqType x = 64 ∧ reqIndex x = 0 ∧ reqLength x = 32 ∧ reqValue x = 0 ∧
      s.fuses.revoked = true) ∧
    (∃ (s : State) (x : Setup), s.svcOn = true ∧ reqCode x = 2 ∧ reqType x = 64 ∧ reqIndex x = 0 ∧ reqLength x = 32 ∧ reqValue x = 0 ∧
      s.fuses.revoked = false) ∧
    (∃ (s : State) (x : Setup), s.svcOn = true ∧ reqCode x = 3 ∧ reqType x = 192 ∧ reqIndex x = 0 ∧ reqLength x = 72 ∧ reqValue x = 0) ∧
    (∃ (s : State) (x : Setup), s.svcOn = true ∧ reqCode x = 16 ∧ reqType x = 192 ∧ reqIndex x = 0 ∧ reqLength x = 40 ∧ reqValue x = 0 ∧
      ¬s.svc.lockout = none) ∧
    (∃ (s : State) (x : Setup), s.svcOn = true ∧ reqCode x = 16 ∧ reqType x = 192 ∧ reqIndex x = 0 ∧ reqLength x = 40 ∧ reqValue x = 0 ∧
      s.svc.lockout = none) ∧
    (∃ (s : State) (x : Setup) (c : BitVec 256), s.svcOn = true ∧ reqCode x = 17 ∧ reqType x = 64 ∧ reqIndex x = 0 ∧ reqLength x = 64 ∧
      reqValue x = 0 ∧ s.svc.challenge = some c) ∧
    (∃ (s : State) (x : Setup), s.svcOn = true ∧ reqCode x = 17 ∧ reqType x = 64 ∧ reqIndex x = 0 ∧ reqLength x = 64 ∧ reqValue x = 0 ∧
      s.svc.challenge = none) ∧
    (∃ (s : State) (x : Setup), s.svcOn = true ∧ s.svc.session = true ∧ reqCode x = 32 ∧ reqType x = 64 ∧ reqIndex x = 0 ∧ reqLength x = 0 ∧ 1
      ≤ reqValue x ∧ reqValue x ≤ 256 ∧ s.peat.state = PeatState.absent) ∧
    (∃ (s : State) (x : Setup), s.svcOn = true ∧ s.svc.session = true ∧ reqCode x = 32 ∧ reqType x = 64 ∧ reqIndex x = 0 ∧ reqLength x = 0 ∧ 1
      ≤ reqValue x ∧ reqValue x ≤ 256 ∧ ¬s.peat.state = PeatState.absent) ∧
    (∃ (s : State) (x : Setup), s.svcOn = true ∧ s.svc.session = true ∧ reqCode x = 33 ∧ reqType x = 64 ∧ reqIndex x = 0 ∧ reqLength x = 0 ∧ 1
      ≤ reqValue x ∧ reqValue x ≤ 4096 ∧ s.svc.dropVerify.traceOk = false) ∧
    (∃ (s : State) (x : Setup), s.svcOn = true ∧ s.svc.session = true ∧ reqCode x = 33 ∧ reqType x = 64 ∧ reqIndex x = 0 ∧ reqLength x = 0 ∧ 1
      ≤ reqValue x ∧ reqValue x ≤ 4096 ∧ s.svc.dropVerify.traceOk = true) ∧
    (∃ (s : State) (x : Setup), s.svcOn = true ∧ s.svc.session = true ∧ reqCode x = 34 ∧ reqType x = 64 ∧ reqIndex x = 0 ∧ reqLength x = 8 ∧
      reqValue x = 0 ∧ s.peat.state = PeatState.absent) ∧
    (∃ (s : State) (x : Setup), s.svcOn = true ∧ s.svc.session = true ∧ reqCode x = 34 ∧ reqType x = 64 ∧ reqIndex x = 0 ∧ reqLength x = 8 ∧
      reqValue x = 0 ∧ ¬s.peat.state = PeatState.absent) :=
  ⟨⟨up, 0, .getLog 0, 32, by decide +kernel⟩,
    ⟨att, 0x100002040, .getLog 0x100002040, 32, by decide +kernel⟩,
    ⟨att, 8256, .getLog 8256, 32, by decide +kernel⟩,
    ⟨up, by decide +kernel⟩,
    ⟨att, 0x40000000000200, by decide +kernel⟩,
    ⟨att, 0x20900, by decide +kernel⟩,
    ⟨att, 0x90500, by decide +kernel⟩,
    ⟨svc (fun v => { v with configured := true, address := 3, ep1 := 3, resets := 3 }) att, 67840, by decide +kernel⟩,
    ⟨att, 0xa000006000680, by decide +kernel⟩,
    ⟨att, 0x280000000001c0, by decide +kernel⟩,
    ⟨svc (fun v => { v with vbus := false, resets := 3 })
      ({ att with trace := { buf := [1, 2] }, fuses := { revoked := true }, time := { now := 100 } }), 0x20000000000240, by
      decide +kernel⟩,
    ⟨att, 0x20000000000240, by decide +kernel⟩,
    ⟨att, 0x480000000003c0, by decide +kernel⟩,
    ⟨svc (fun v => { v with lockout := some 50, resets := 3 }) att, 0x280000000010c0, by decide +kernel⟩,
    ⟨att, 0x280000000010c0, by decide +kernel⟩,
    ⟨svc (fun v => { v with challenge := some 5, resets := 3 }) att, 0x40000000001140, 5, by decide +kernel⟩,
    ⟨att, 0x40000000001140, by decide +kernel⟩,
    ⟨svc (fun v => { v with attach := false, session := true, resets := 3 }) att, 73792, by decide +kernel⟩,
    ⟨svc (fun v => { v with attach := false, session := true, resets := 3 }) (svc (fun v => { v with vbus := true, attached := true })
      mounted), 73792, by decide +kernel⟩,
    ⟨svc (fun v => { v with attach := false, session := true, resets := 3 }) att, 74048, by decide +kernel⟩,
    ⟨svc (fun v => { v with session := true, traceOk := true, resets := 3 }) att, 74048, by decide +kernel⟩,
    ⟨svc (fun v => { v with session := true, address := 5, configured := true, resets := 3 }) att, 0x8000000002240, by decide +kernel⟩,
    ⟨svc (fun v => { v with attach := false, session := true, resets := 3 }) (svc (fun v => { v with vbus := true, attached := true })
      mounted), 0x8000000002240, by decide +kernel⟩⟩

theorem witness_ServicePortEndpoints :
    (∃ (s : State) (u : CoreId) (n : BitVec 256), s.itemCore ItemCode.sealArith svcAttestArg = some u ∧ s.svc.nonce = some n) ∧
    (∃ (s : State) (u : CoreId) (y : SvcSec) (c : BitVec 256) (sig : List Byte), s.itemCore ItemCode.sealArith svcAuthArg = some u ∧ s.svcSec
      = some y ∧ s.svc.verify = some (c, sig)) ∧
    (∃ (s : State), s.svc.verified = none) ∧
    (∃ (s : State), s.svc.verified = some true) ∧
    (∃ (s : State), s.svc.verified = some false) ∧
    (∃ (s : State) (t : Nat), s.svc.lockout = some t ∧ t ≤ s.time.now) ∧
    (∃ (s : State) (t : Nat), s.svc.lockout = some t ∧ s.time.now < t) ∧
    (∃ (s : State), s.svc.lockout = none) ∧
    (∃ (s : State), (s.svcOn = false ∨ s.svc.configured = false)) ∧
    (∃ (s : State) (r : SvcResp) (p : List Byte × Option Nat) (l : List (List Byte × Option Nat)), s.svcOn = true ∧ s.svc.configured = true ∧
      s.svc.resp = some r ∧ r.packets = p :: l ∧ s.svc.halts.getLsbD 1 = false) ∧
    (∃ (s : State), s.svcOn = true ∧ s.svc.configured = true ∧ (s.svc.resp = none ∨ s.svc.halts.getLsbD 1 = true)) ∧
    (∃ (s : State), s.svcOn = true ∧ s.svc.configured = true ∧ ¬s.svc.ep1 = 0 ∧ s.svc.halts.getLsbD 0 = false) ∧
    (∃ (s : State), s.svcOn = true ∧ s.svc.configured = true ∧ (s.svc.ep1 = 0 ∨ s.svc.halts.getLsbD 0 = true)) ∧
    (∃ (s : State), s.svcOn = true ∧ s.svc.configured = true ∧ s.svc.halts.getLsbD 2 = false) ∧
    (∃ (s : State), s.svcOn = true ∧ s.svc.configured = true ∧ s.svc.halts.getLsbD 2 = true) :=
  ⟨⟨item .sealArith svcAttestArg (svc (fun v => { v with nonce := some 5 }) att), 0, 5, by decide +kernel⟩,
    ⟨item .sealArith svcAuthArg (svc (fun v => { v with verify := some (3, []) }) att), 0,
      { vid := 1, pid := 2, bcd := 3, key := [], manufacturer := [], product := [], serial := [] }, 3, [], by decide +kernel⟩,
    ⟨up, by decide +kernel⟩,
    ⟨svc (fun v => { v with verified := some true, resets := 3 }) att, by decide +kernel⟩,
    ⟨svc (fun v => { v with verified := some false, session := true, resets := 3 }) att, by decide +kernel⟩,
    ⟨svc (fun v => { v with lockout := some 0, attachFails := 3, resets := 3 }) att, 0, by decide +kernel⟩,
    ⟨svc (fun v => { v with lockout := some 50, resets := 3 }) att, 50, by decide +kernel⟩,
    ⟨up, by decide +kernel⟩,
    ⟨up, by decide +kernel⟩,
    ⟨svc (fun v => { v with configured := true, resp := some ⟨0x20, [([1, 2], some 7)]⟩, cursor := 3, resets := 3 }) att,
      { req := 32, packets := [([1, 2], some 7)] }, ([1, 2], some 7), [], by decide +kernel⟩,
    ⟨svc (fun v => { v with configured := true, address := 3, ep1 := 3, resets := 3 }) att, by decide +kernel⟩,
    ⟨svc (fun v => { v with configured := true, address := 3, ep1 := 3, resets := 3 }) att, by decide +kernel⟩,
    ⟨svc (fun v => { v with session := true, address := 5, configured := true, resets := 3 }) att, by decide +kernel⟩,
    ⟨svc (fun v => { v with configured := true, address := 3, ep1 := 3, resets := 3 }) att, by decide +kernel⟩,
    ⟨svc (fun v => { v with configured := true, address := 3, halts := 7, ep1 := 1, resets := 3 }) att, by decide +kernel⟩⟩

theorem witness_TapAndCustody :
    (∃ (s : State) (c : Instr) (i : TapInstr), tapRow c = some i ∧ s.pins.porN = false) ∧
    (∃ (s : State) (l : List Bool), s.pins.porN = true ∧ l.length = 412) ∧
    (∃ (s : State), s.pins.porN = true ∧ s.tap.custody = true) ∧
    (∃ (s : State), s.pins.porN = true ∧ s.tap.custody = false) :=
  ⟨⟨State.reset, .clamp, .clamp, by decide +kernel⟩,
    ⟨up, (List.replicate 412 true), by decide +kernel⟩,
    ⟨{ up with tap := { up.tap with custody := true } }, by decide +kernel⟩,
    ⟨up, by decide +kernel⟩⟩

theorem witness_SessionsAndLockout :
    (∃ (s : State), s.mayAttach = true ∧ s.svc.attached = false) ∧
    (∃ (s : State), s.svc.verified = some false) ∧
    (∃ (s : State) (q : Setup), s.svcOn = true ∧ reqCode q = 17 ∧ reqType q = 64 ∧ reqIndex q = 0 ∧ reqValue q = 0 ∧ reqLength q = 64 ∧
      s.svc.challenge = none) ∧
    (∃ (s : State) (t : Nat), s.svc.lockout = some t ∧ s.time.now < t) ∧
    (∃ (s : State) (t : Nat), s.svc.lockout = some t ∧ t ≤ s.time.now) ∧
    (∃ (s : State) (q : Setup), s.svcOn = true ∧ reqCode q = 16 ∧ reqType q = 192 ∧ reqIndex q = 0 ∧ reqValue q = 0 ∧ reqLength q = 40 ∧
      ¬s.svc.lockout = none) ∧
    (∃ (s : State) (q : Setup), s.svcOn = true ∧ reqCode q = 16 ∧ reqType q = 192 ∧ reqIndex q = 0 ∧ reqValue q = 0 ∧ reqLength q = 40 ∧
      s.svc.lockout = none) ∧
    (∃ (s : State), s.svc.attached = true ∧ s.mayAttach = false) ∧
    (∃ (s : State) (w : Word), Reaches Fn.pf0 s ∧ w &&& bits 63 2 = 0 ∧ BitVec.getLsbD w 0 = false ∧ s.svc.attached = true) ∧
    (∃ (s : State) (q : Setup), s.svcOn = true ∧ reqCode q = 9 ∧ reqType q = 0 ∧ reqValue q = 0 ∧ reqIndex q = 0 ∧ reqLength q = 0 ∧
      ¬s.svc.address = 0) ∧
    (∃ (s : State), s.svc.attached = true ∧ s.svc.suspended = false) ∧
    (∃ (s : State), s.svc.verified = some true) :=
  ⟨⟨svc (fun v => { v with attached := false, resets := 3 }) att, by decide +kernel⟩,
    ⟨svc (fun v => { v with verified := some false, session := true, resets := 3 }) att, by decide +kernel⟩,
    ⟨att, 0x40000000001140, by decide +kernel⟩,
    ⟨svc (fun v => { v with lockout := some 50, resets := 3 }) att, 50, by decide +kernel⟩,
    ⟨svc (fun v => { v with lockout := some 0, attachFails := 3, resets := 3 }) att, 0, by decide +kernel⟩,
    ⟨svc (fun v => { v with lockout := some 50, resets := 3 }) att, 0x280000000010c0, by decide +kernel⟩,
    ⟨att, 0x280000000010c0, by decide +kernel⟩,
    ⟨svc (fun v => { v with vbus := false, resets := 3 }) att, by decide +kernel⟩,
    ⟨att, 0, by decide +kernel⟩,
    ⟨svc (fun v => { v with configured := true, address := 3, ep1 := 3, resets := 3 }) att, 2304, by decide +kernel⟩,
    ⟨att, by decide +kernel⟩,
    ⟨svc (fun v => { v with verified := some true, resets := 3 }) att, by decide +kernel⟩⟩

theorem witness_ServicePortBusReset :
    (∃ (s : State), s.svc.attached = true) :=
  ⟨att, by decide +kernel⟩

theorem witness_EnergySectionAbsent :
    (∃ (s : State) (u : CoreId) (i : Image), s.itemCore ItemCode.tableBuild = some u ∧ s.img.image = some i ∧ i.energy = none) ∧
    (∃ (s : State) (e : Energy), s.energy.enabled = false ∧ e.enabled = false) ∧
    (∃ (s : State) (r : List (BitVec 8)), s.energy.enabled = false ∧ s.pins.porN = true ∧ (∃ b, b ∈ r ∧ (s.energy.limits.getD 2 0).cast ≤
      b.toInt)) :=
  ⟨⟨item .tableBuild 0 (up), 0, img0, by decide +kernel⟩,
    ⟨up, { stage := .hard, defWait := true }, by decide +kernel⟩,
    ⟨{ up with energy := { tCrit := 80 } }, [100, 1, 2, 3], by decide +kernel⟩⟩

theorem witness_RegisterResetValues :
    (∃ (e : Nat × Nat), e ∈ pfResets) ∧
    (∃ (e : Nat × Nat) (t : TenantId), e ∈ vfResets ∧ (t = 0 ∨ t = 255)) ∧
    (∃ (o : Nat), o ∈ pfZeros) ∧
    (∃ (o : Nat), o ∈ vfZeros) ∧
    (∃ (t : TenantId), (t = 0 ∨ t = 5 ∨ t = 255)) :=
  ⟨⟨(8, 256), by decide +kernel⟩,
    ⟨(8, 16), 0, by decide +kernel⟩,
    ⟨16, by decide +kernel⟩,
    ⟨24, by decide +kernel⟩,
    ⟨0, by decide +kernel⟩⟩

theorem witness_FusesOnlyGrowAtEveryStep :
    (∃ (r : Fuses) (s t : State), Permanent r s ∧ step s = Host.Outcome.next t) :=
  ⟨{}, { State.reset with pending := [.vddioNRise] }, _, by decide +kernel, rfl⟩

theorem witness_CustodyAndLockLast :
    (∃ (s t : State), step s = Host.Outcome.next t ∧ s.tap.custody = true ∧ (∀ (src : FullResetSrc) (b : Bool) (l : List Instr), s.pending ≠
      Instr.fullReset src b :: l)) ∧
    (∃ (s t : State), step s = Host.Outcome.next t ∧ s.img.locked = true ∧ (∀ (src : FullResetSrc) (b : Bool) (l : List Instr), s.pending ≠
      Instr.fullReset src b :: l) ∧ (∀ (l : List Instr), s.pending ≠ Instr.watchdogReset :: l)) :=
  ⟨⟨{ State.reset with tap := { State.reset.tap with custody := true }, pending := [.vddioNRise] }, _, rfl, rfl, nofun⟩,
    ⟨{ up with pending := [.idcode] }, _, rfl, rfl, nofun, nofun⟩⟩

end Sys2Proof.Tests
end

/-! The energy account while no ENERGY section is loaded (09 R257): what TABLE_BUILD loads, what the registers and the operating
point show, and what a thermal sample at T_CRIT still does. -/
namespace Sys2Proof.Machine

/-! ### Low-power states leave a disabled account alone -/

theorem State.enterLp_energy_of_disabled {s : State} (h : s.energy.enabled = false) (l : LpState) :
    (s.enterLp l).energy = s.energy := by
  have refill : ∀ ns, s.sleepRefill ns = s := fun ns => by simp [State.sleepRefill, h]
  simp only [State.enterLp, refill, ite_self]

/-- The last steps of an exit: what was left to its end, levels sampled again, the WAKE item and the replayed events. -/
theorem State.exitTail_energy (s : State) (l : List (Nat × PortId)) :
    (l.foldl (fun (a : State) e => a.portWake e.1 e.2) (s.dueEffects.resample.wantItem powerTask .wake)).energy = s.energy :=
  have tail : Only 0x96E0319F0 s (s.dueEffects.resample.wantItem powerTask .wake) :=
    State.wantItem_only.step (State.resample_only.step (State.dueEffects_only.mono rfl) rfl) rfl
  (Only.foldl (tail.mono (n := 0x96E0719F0) rfl) fun _ _ => State.portWake_only.mono rfl).energy rfl

theorem State.endExit_energy_of_disabled {s : State} (h : s.energy.enabled = false) : s.endExit.energy = s.energy := by
  unfold State.endExit
  split
  · dsimp only
    rw [State.exitTail_energy]
    split
    · rfl
    · exact State.enterLp_energy_of_disabled h .lp0
  · rfl

theorem State.beginExit_energy_of_disabled {s : State} (h : s.energy.enabled = false) (first : Nat) :
    (s.beginExit first).energy = s.energy := by
  unfold State.beginExit
  dsimp only
  split
  · rfl
  split
  · rw [State.resample_only.energy rfl]
    have moved : ∀ (t : State) (l : List Island), (l.foldl (fun (a : State) i => a.moveIsland i .running) t).energy = t.energy :=
      fun t l => (Only.foldl (Only.refl 0x20000000 t) fun _ _ => State.moveIsland_only).energy rfl
    rw [State.enterLp_energy_of_disabled (by rw [moved]; exact h), moved]
  · have started : (s.startExit first).energy = s.energy := State.startExit_only.energy rfl
    rw [State.endExit_energy_of_disabled (by rw [started]; exact h), started]

/-- What a wake source does before any exit: a host request brings the link to L0, and the port watcher and the
port's device answer. -/
def State.heard (s : State) (w : Nat) (p : PortId) : State :=
  let s := if w = 5 && s.link ≠ .down then ({ s with link := .l0 } : State) else s
  let asleep : Bool := !(vget s.power.islands (if w = 1 then Island.ssport else Island.hsport).idx).active
  let s := s.portWatch w p
  if asleep && !s.power.entering then s.portWake w p else s

theorem State.heard_energy (s : State) (w : Nat) (p : PortId) : (s.heard w p).energy = s.energy := by
  simp only [State.heard, apply_ite State.energy, State.portWake_only.energy rfl, State.portWatch_only.energy rfl, ite_self]

/-- The controller is in LP0, neither on its way into nor out of a low-power state: a wake begins no exit. -/
def State.staysLp0 (s : State) : Bool := s.power.lp = .lp0 && !s.power.entering && !s.power.exiting

/-- A wake source's own effects are all of it, or an exit begins from them with the source latched. -/
theorem State.wake_cases (s : State) (w : Nat) (p : PortId) :
    s.wake w p = s.heard w p ∨ ∃ pw : Power, s.wake w p = ({ s.heard w p with power := pw } : State).beginExit w := by
  by_cases stays : (s.heard w p).staysLp0 = true
  · exact .inl (if_pos stays)
  · exact .inr ⟨_, if_neg stays⟩

theorem State.wake_energy_of_disabled {s : State} (h : s.energy.enabled = false) (w : Nat) (p : PortId) :
    (s.wake w p).energy = s.energy := by
  obtain own | ⟨pw, exits⟩ := s.wake_cases w p
  · rw [own, State.heard_energy]
  · rw [exits, State.beginExit_energy_of_disabled (by simpa only [State.heard_energy] using h)]
    exact s.heard_energy w p

/-- In LP0, neither entering nor exiting, the CRIT wake source changes nothing. -/
theorem State.wake_crit_of_lp0 {s : State} (lp : s.power.lp = .lp0) (en : s.power.entering = false) (ex : s.power.exiting = false) :
    s.wake 10 0 = s := by
  have watch : s.portWatch 10 0 = s := by simp [State.portWatch]
  have port : s.portWake 10 0 = s := by
    unfold State.portWake
    dsimp only
    split
    · exact if_pos rfl
    · rfl
  simp [State.wake, watch, port, lp, en, ex]

/-! ### What the account shows -/

/-- The operating point that is chosen depends on the account only through the stage of an enabled one. -/
theorem State.chosenPoint_of_disabled {s : State} (h : s.energy.enabled = false) :
    s.chosenPoint = if s.power.oppMode < 3 then s.power.oppMode else s.power.atMost (Nat.min s.power.chosen 2) := by
  simp [State.chosenPoint, h]

theorem State.oppWanted_of_disabled {s : State} (h : s.energy.enabled = false) {e : Energy} (he : e.enabled = false) :
    ({ s with energy := e } : State).oppWanted = s.oppWanted := by
  have chosen : ({ s with energy := e } : State).chosenPoint = s.chosenPoint := by
    rw [State.chosenPoint_of_disabled h, State.chosenPoint_of_disabled he]
  unfold State.oppWanted
  rw [chosen]
  rfl

theorem State.budget_of_disabled {s : State} (h : s.energy.enabled = false) (t : TenantId) : s.budget t = true := by
  simp [State.budget, h]

theorem execEnergyTick_of_disabled {s : State} (h : s.energy.enabled = false) : execEnergyTick s = .next s := by
  simp [execEnergyTick, h]

theorem State.regAt_nrgStatus (s : State) : s.regAt .pf0 0x320C8 = s.energyStatusReg := rfl

theorem b2n_le_one (b : Bool) : b2n b ≤ 1 := by cases b <;> decide

/-- NRG_STATUS.ENABLED is the account's own flag: the two waits below it and the counts above it do not reach bit 2. -/
theorem State.nrgStatus_enabled (s : State) : s.energyStatusReg.val.getLsbD 2 = s.energy.enabled := by
  have flag : ∀ m f e d w : Nat, e ≤ 1 → d ≤ 1 → w ≤ 1 →
      (0 + m * 2 ^ 40 + f * 2 ^ 16 + e * 2 ^ 2 + d * 2 ^ 1 + w * 2 ^ 0) / 2 ^ 2 % 2 = e := by omega
  simp only [State.energyStatusReg, pack, List.foldl, BitVec.getLsbD_ofNat, Nat.testBit_eq_decide_div_mod_eq,
    flag _ _ _ _ _ (b2n_le_one _) (b2n_le_one _) (b2n_le_one _)]
  cases s.energy.enabled <;> rfl

/-! ### Thermal samples -/

/-- The higher of a reading so far and a sensor's. -/
def higher (a : Int) (x : BitVec 8) : Int := if a < x.toInt then x.toInt else a

theorem le_higher (a : Int) (x : BitVec 8) : a ≤ higher a x ∧ x.toInt ≤ higher a x := by
  unfold higher
  split <;> omega

theorem le_foldl_higher (r : List (BitVec 8)) (a : Int) : a ≤ r.foldl higher a := by
  induction r generalizing a with
  | nil => exact Int.le_refl a
  | cons x r ih => exact Int.le_trans (le_higher a x).1 (ih (higher a x))

/-- The reading that decides a sample: the highest of the sensors (R259). -/
def hottest (r : List (BitVec 8)) : Int := r.foldl higher (-128)

theorem toInt_le_foldl_higher {r : List (BitVec 8)} {b : BitVec 8} (hb : b ∈ r) (a : Int) : b.toInt ≤ r.foldl higher a := by
  induction hb generalizing a with
  | head r => exact Int.le_trans (le_higher a b).2 (le_foldl_higher r (higher a b))
  | tail x _ ih => exact ih (higher a x)

theorem toInt_le_hottest {r : List (BitVec 8)} {b : BitVec 8} (hb : b ∈ r) : b.toInt ≤ hottest r := toInt_le_foldl_higher hb (-128)

theorem Energy.stageAt_crit {e : Energy} {r : Int} (h : (e.limits.getD 2 0 : Int) ≤ r) : e.stageAt r = .crit := by
  have holds : stageHolds r (e.limits.getD 2 0) (decide (2 < e.stage.code)) = true := by
    simp only [stageHolds, h, decide_true, Bool.true_or]
  simp only [Energy.stageAt, holds, if_true]

/-- What a sample itself sets: the readings, the stage, and THERM_N while POR_N is high. -/
def State.sampled (s : State) (r : List (BitVec 8)) : State :=
  { s with
    energy := { s.energy with sensors := Vector.ofFn (fun (i : Fin 4) => r.getD i.val 0), stage := s.energy.stageAt (hottest r) },
    pins := { s.pins with thermN := s.pins.porN && decide (s.energy.stageAt (hottest r) = .crit) } }

theorem execThermalSample_eq (r : List (BitVec 8)) (s : State) : execThermalSample r s =
    .next (if s.energy.stageAt (hottest r) = .crit && s.energy.stage ≠ .crit then (s.sampled r).wake 10 0 else s.sampled r) := rfl

/-- A sample of a disabled account: THERM_N and the stage are the sample's own, and only a wake from a low-power state goes further. -/
theorem execThermalSample_of_disabled {s : State} (h : s.energy.enabled = false) (r : List (BitVec 8)) :
    ∃ x, execThermalSample r s = .next x ∧ x.pins = (s.sampled r).pins ∧ x.energy = (s.sampled r).energy ∧
      (AtWork s → x = s.sampled r) := by
  refine ⟨_, execThermalSample_eq r s, ?_⟩
  split
  · exact ⟨State.wake_only.pins rfl, State.wake_energy_of_disabled (s := s.sampled r) h 10 0,
      fun ⟨_, lp, entering, exiting⟩ => State.wake_crit_of_lp0 lp entering exiting⟩
  · exact ⟨rfl, rfl, fun _ => rfl⟩

/-! ### TABLE_BUILD -/

theorem Energy.load_none_enabled (e : Energy) : (e.load none).enabled = false := rfl

/-- Past loading the image, TABLE_BUILD leaves the account alone. -/
theorem execTableBuild_energy {s : State} {u : CoreId} {i : Image} (core : s.itemCore .tableBuild = some u) (img : s.img.image = some i)
    (n : Nat) : ∃ x, execTableBuild n s = .next x ∧ x.energy = s.energy.load i.energy := by
  refine ⟨_, rfl, ?_⟩
  simp only [core, img]
  rw [State.settle_only.energy rfl, State.addItem_only.energy rfl, State.imageLock_only.energy rfl]
  exact State.endItem_only.energy rfl

/-! ### R257 -/

/-- Settles O55: the account's flag gates BUDGET, the tick and the stages; THERM_N hangs on the stage alone, and a wake from a low-power
state neither touches the pins nor refills a disabled account. -/
theorem energySectionAbsent : Obligations.EnergySectionAbsent := by
  intro s
  refine ⟨fun n u i core img absent => ?build, fun off => ⟨State.budget_of_disabled off, execEnergyTick_of_disabled off, ?flag,
    fun e he => State.oppWanted_of_disabled off he, fun r porN ⟨b, hb, crit⟩ => ?sample⟩⟩
  case build =>
    obtain ⟨x, hx, loaded⟩ := execTableBuild_energy core img n
    exact ⟨x, hx, by rw [loaded, absent, Energy.load_none_enabled]⟩
  case flag => rw [State.regValue, State.regAt_nrgStatus, State.nrgStatus_enabled, off]
  case sample =>
    obtain ⟨x, hx, pins, energy, work⟩ := execThermalSample_of_disabled off r
    have stage : s.energy.stageAt (hottest r) = .crit := Energy.stageAt_crit (Int.le_trans crit (toInt_le_hottest hb))
    refine ⟨x, hx, ?_, ?_, ?_, fun w => by rw [work w]; rfl⟩
    · simp [pins, State.sampled, porN, stage]
    · rw [energy]; exact stage
    · rw [energy]; exact off

end Sys2Proof.Machine

/-! The service port's sessions, its authentication lockout and its bus reset (16 R401, R402, R411). A bus reset that wakes a sleeping
controller goes through the exit from a low-power state, which reaches the port only by the event bits of EP1. -/
namespace Sys2Proof.Machine

/-! ### The end of a session -/

/-- Ending a session changes SESSION and its change bit alone. -/
theorem Svc.endSession_eq (v : Svc) :
    ∃ c, v.endSession = { v with session := false, change := c } ∧ (v.session = true → c.getLsbD 5 = true) := by
  unfold Svc.endSession
  split
  · exact ⟨_, rfl, fun _ => by simp⟩
  next closed => exact ⟨v.change, by rw [← Bool.eq_false_iff.mpr closed], fun opened => absurd opened closed⟩

/-- No session is open in w, and the end of one that was open in v is reported (R402). -/
def Svc.Ended (v w : Svc) : Prop := w.session = false ∧ (v.session = true → w.change.getLsbD 5 = true)

theorem Svc.Ended.of_endSession {v w : Svc} (ses : w.session = v.endSession.session)
    (chg : ∃ m, w.change = v.endSession.change ||| m) : v.Ended w := by
  obtain ⟨c, ended, reported⟩ := v.endSession_eq
  obtain ⟨m, chg⟩ := chg
  rw [ended] at ses chg
  exact ⟨ses, fun opened => by simp [chg, reported opened]⟩

theorem Svc.ended_endSession (v : Svc) : v.Ended v.endSession := .of_endSession rfl ⟨0, by simp⟩

theorem Svc.ended_detach {v : Svc} (on : v.attached = true) : v.Ended v.detach := by
  rw [Svc.detach, if_pos on]
  exact .of_endSession rfl ⟨2, rfl⟩

theorem Svc.ended_setConfig_zero (v : Svc) : v.Ended (v.setConfig 0) := v.ended_endSession

/-! ### The bus reset of the port alone -/

/-- What a bus reset makes of the port, before any wake (R411). -/
def Svc.busReset (v : Svc) (midXfer highSpeed : Bool) : Svc :=
  { v.endSession.dropVerify with
    resp := none, nonce := none, toggles := 0, halts := 0, address := 0, configured := false, remoteWake := false,
    testMode := 0, suspended := false, driveK := none, highSpeed := highSpeed, resets := satAdd v.endSession.resets 1 65535,
    resetMid := if midXfer || v.inXfer then satAdd v.endSession.resetMid 1 65535 else v.endSession.resetMid,
    change := v.endSession.change ||| 4 }

theorem Svc.busReset_eq (v : Svc) (m h : Bool) : ∃ c, v.busReset m h =
    { v.dropVerify with
      session := false, resp := none, nonce := none, toggles := 0, halts := 0, address := 0, configured := false, remoteWake := false,
      testMode := 0, suspended := false, driveK := none, highSpeed := h, resets := satAdd v.resets 1 65535,
      resetMid := if m || v.inXfer then satAdd v.resetMid 1 65535 else v.resetMid, change := c ||| 4 } := by
  obtain ⟨c, ended, -⟩ := v.endSession_eq
  exact ⟨c, by rw [Svc.busReset, ended]; rfl⟩

theorem Svc.ended_busReset (v : Svc) (m h : Bool) : v.Ended (v.busReset m h) := .of_endSession rfl ⟨4, rfl⟩

theorem execSvcBusReset_of_attached {s : State} (on : s.svc.attached = true) (m h : Bool) : execSvcBusReset m h s =
    .next (if s.svc.suspended then ({ s with svc := s.svc.busReset m h } : State).wake 4 0 else { s with svc := s.svc.busReset m h }) :=
  congrArg Host.Outcome.next (if_pos on)

/-! ### A wake reaches the port only by EP1's event bits -/

/-- The service port is the same but for EP1's event bits. -/
def SvcButEp1 (s x : State) : Prop := ∃ e, x.svc = { s.svc with ep1 := e }

theorem SvcButEp1.of_eq {s x : State} (h : x.svc = s.svc) : SvcButEp1 s x := ⟨s.svc.ep1, h⟩

theorem SvcButEp1.trans {s x y : State} (a : SvcButEp1 s x) (b : SvcButEp1 x y) : SvcButEp1 s y := by
  obtain ⟨d, hx⟩ := a
  obtain ⟨e, hy⟩ := b
  exact ⟨e, by rw [hy, hx]⟩

/-- An operation whose frame leaves the port out, after something that keeps it but for EP1. -/
theorem SvcButEp1.frame {m : Nat} {s x y : State} (a : SvcButEp1 s x) (b : Only m x y) (k : m.testBit 32 = false) : SvcButEp1 s y :=
  a.trans (.of_eq (b.svc k))

theorem Only.svcButEp1 {m : Nat} {s x : State} (h : Only m s x) (k : m.testBit 32 = false) : SvcButEp1 s x := .of_eq (h.svc k)

theorem SvcButEp1.ite_frame {m : Nat} {s x y : State} {c : Prop} [Decidable c] (a : SvcButEp1 s x) (b : Only m x y)
    (k : m.testBit 32 = false) : SvcButEp1 s (if c then y else x) := by
  split
  · exact a.frame b k
  · exact a

theorem SvcButEp1.withSeals {s x : State} (a : SvcButEp1 s x) (q : SealSt) : SvcButEp1 s { x with seals := q } := a

theorem SvcButEp1.foldl {α : Type} {f : State → α → State} (h : ∀ y x, SvcButEp1 y (f y x)) (l : List α) (s : State) :
    SvcButEp1 s (l.foldl f s) := by
  induction l generalizing s with
  | nil => exact .of_eq rfl
  | cons x l ih => exact (h s x).trans (ih (f s x))

theorem State.logEvent_svcButEp1 (s : State) (code : Nat) (t : Option TenantId) (d : Option Nat) (data : BitVec 256) :
    SvcButEp1 s (s.logEvent code t d data) := by
  unfold State.logEvent
  split
  · have queued : ∀ p : PeatSt, SvcButEp1 s { s with
        peat := p, svc := if s.svc.cursor ≤ s.peat.logNext then { s.svc with ep1 := s.svc.ep1 ||| 2 } else s.svc } := fun p => by
      by_cases passes : s.svc.cursor ≤ s.peat.logNext
      · exact ⟨_, if_pos passes⟩
      · exact .of_eq (if_neg passes)
    dsimp only
    split
    · exact (queued _).frame State.wantItem_only rfl
    · exact queued _
  · exact .of_eq rfl

theorem State.tearDown_svcButEp1 (s : State) (t : TenantId) (h : Fin 1024) (cause : BitVec 32) (send notify : Bool) :
    SvcButEp1 s (s.tearDown t h cause send notify) := by
  unfold State.tearDown
  split
  · split
    · exact .of_eq rfl
    · refine SvcButEp1.frame (SvcButEp1.trans ?told (State.logEvent_svcButEp1 ..)) State.takePipes_only rfl
      refine SvcButEp1.ite_frame (SvcButEp1.ite_frame ?freed State.request_only rfl) State.notice_only rfl
      refine SvcButEp1.frame (SvcButEp1.frame ?_ State.dropDelays_only rfl) State.dropReqs_only rfl
      exact (State.dropHs_only.svcButEp1 rfl).frame State.modFlow_only rfl
  · exact .of_eq rfl

theorem State.tearDownAll_svcButEp1 (s : State) (p : Flow → Bool) (cause : BitVec 32) (send notify : Bool) :
    SvcButEp1 s (s.tearDownAll p cause send notify) :=
  SvcButEp1.foldl (fun _ _ => State.tearDown_svcButEp1 ..) _ s

theorem State.failSeal_svcButEp1 (s : State) (t : TenantId) (h : Fin 1024) (detail : Nat) : SvcButEp1 s (s.failSeal t h detail) := by
  have counted : SvcButEp1 s (s.countFail t h detail) := State.countFail_only.svcButEp1 rfl
  have ended : ∀ rekey : Bool, SvcButEp1 s (if rekey then (s.countFail t h detail).tearDown t h 0 true true
      else (s.countFail t h detail).endSeal t h .sealFailed detail) := fun rekey => by
    cases rekey
    · exact counted.frame State.endSeal_only rfl
    · exact counted.trans (State.tearDown_svcButEp1 ..)
  refine SvcButEp1.frame ?_ State.takePipes_only rfl
  split
  · exact (ended _).ite_frame State.noteFailure_only rfl
  · exact ended _

theorem State.zeroise_svcButEp1 (s : State) : SvcButEp1 s s.zeroise := by
  have failed : ∀ (a : State) (x : Handshake), SvcButEp1 a (if x.rekey then a.countFail x.t x.h 10 else a.failSeal x.t x.h 10) :=
    fun a x => by
      split
      · exact State.countFail_only.svcButEp1 rfl
      · exact State.failSeal_svcButEp1 ..
  have waited : ∀ (a : State) (x : TenantId × Fin 1024), SvcButEp1 a (a.failSeal x.1 x.2 10) := fun _ _ => State.failSeal_svcButEp1 ..
  refine SvcButEp1.withSeals (SvcButEp1.trans (SvcButEp1.trans ?handshakes (SvcButEp1.foldl waited _ _))
    (State.tearDownAll_svcButEp1 ..)) _
  refine SvcButEp1.trans ?cut (SvcButEp1.foldl failed _ _)
  exact .of_eq rfl

theorem State.dueEffects_svcButEp1 (s : State) : SvcButEp1 s s.dueEffects := by
  have restarted : SvcButEp1 s (if s.power.perstDue then
      ({ s with power := { s.power with perstDue := false, zeroDue := false } } : State).perst
      else { s with power := { s.power with perstDue := false, zeroDue := false } }) := SvcButEp1.ite_frame (.of_eq rfl) State.perst_only rfl
  unfold State.dueEffects
  dsimp only
  split
  · exact restarted.trans (State.zeroise_svcButEp1 _)
  · exact restarted

theorem State.endExit_svcButEp1 (s : State) : SvcButEp1 s s.endExit := by
  have up : SvcButEp1 s (if s.power.lp = .lp0 then s else s.enterLp .lp0) := by
    split
    · exact .of_eq rfl
    · exact State.enterLp_only.svcButEp1 rfl
  unfold State.endExit
  split
  · refine SvcButEp1.trans ?_ (SvcButEp1.foldl (fun _ _ => State.portWake_only.svcButEp1 rfl) _ _)
    refine SvcButEp1.frame (SvcButEp1.frame ?due State.resample_only rfl) State.wantItem_only rfl
    refine SvcButEp1.trans (SvcButEp1.trans up ?_) (State.dueEffects_svcButEp1 _)
    exact .of_eq rfl
  · exact .of_eq rfl

theorem State.beginExit_svcButEp1 (s : State) (first : Nat) : SvcButEp1 s (s.beginExit first) := by
  unfold State.beginExit
  dsimp only
  split
  · exact .of_eq rfl
  split
  · refine SvcButEp1.frame (SvcButEp1.frame ?moved State.enterLp_only rfl) State.resample_only rfl
    refine SvcButEp1.trans ?_ (SvcButEp1.foldl (fun _ _ => State.moveIsland_only.svcButEp1 rfl) _ _)
    exact .of_eq rfl
  · exact (State.startExit_only.svcButEp1 rfl).trans (State.endExit_svcButEp1 _)

theorem State.heard_svc (s : State) (w : Nat) (p : PortId) : (s.heard w p).svc = s.svc := by
  simp only [State.heard, apply_ite State.svc, State.portWake_only.svc rfl, State.portWatch_only.svc rfl, ite_self]

theorem State.wake_svcButEp1 (s : State) (w : Nat) (p : PortId) : SvcButEp1 s (s.wake w p) := by
  have heard : SvcButEp1 s (s.heard w p) := .of_eq (s.heard_svc w p)
  obtain own | ⟨pw, exits⟩ := s.wake_cases w p
  · rw [own]; exact heard
  · rw [exits]; exact heard.trans (State.beginExit_svcButEp1 _ w)

theorem State.active_of_awake {s : State} (h : Awake s) (i : Island) : (s.island i).active = true := by
  have runs : (s.island i).state = .running := by simpa [State.running] using State.running_all h i
  simp [IslandSt.active, runs]

/-- At work, wake source 4 finds its island running and begins no exit. -/
theorem State.wake_source4_of_atWork {s : State} (h : AtWork s) : s.wake 4 0 = s := by
  obtain ⟨awake, lp, entering, exiting⟩ := h
  have hs : (vget s.power.islands Island.hsport.idx).active = true := State.active_of_awake awake .hsport
  have watch : s.portWatch 4 0 = s := by simp [State.portWatch, State.active_of_awake awake .svc]
  simp [State.wake, watch, hs, lp, entering, exiting]

/-! ### The bus reset (R411) -/

/-- On a suspended port a wake follows, which may add event bits of EP1; at work, and on any other port, the port's own reset is all of
it. -/
theorem execSvcBusReset_effect {s : State} (on : s.svc.attached = true) (m h : Bool) :
    ∃ x e, execSvcBusReset m h s = .next x ∧ x.svc = { s.svc.busReset m h with ep1 := e } ∧ x.fuses = s.fuses ∧
      ((s.svc.suspended = true → AtWork s) → x = { s with svc := s.svc.busReset m h }) := by
  rw [execSvcBusReset_of_attached on]
  by_cases asleep : s.svc.suspended = true
  · rw [if_pos asleep]
    obtain ⟨e, port⟩ := State.wake_svcButEp1 { s with svc := s.svc.busReset m h } 4 0
    exact ⟨_, e, rfl, port, State.wake_only.fuses rfl, fun work => State.wake_source4_of_atWork (work asleep)⟩
  · rw [if_neg asleep]
    exact ⟨_, _, rfl, rfl, rfl, fun _ => rfl⟩

/-- Settles O54: the reset's own effect field by field; a wake that follows changes the port in EP1's event bits alone, and nothing at
work. -/
theorem servicePortBusReset : Obligations.ServicePortBusReset := by
  intro m h s on
  obtain ⟨x, e, hx, port, fuses, work⟩ := execSvcBusReset_effect on m h
  obtain ⟨c, reset⟩ := s.svc.busReset_eq m h
  rw [reset] at port work
  refine ⟨x, hx, ?_⟩
  have rest : (s.svc.suspended = true → AtWork s) → x.flows = s.flows ∧ x.peat = s.peat ∧ x.svc.ep1 = s.svc.ep1 := fun w => by
    rw [work w]
    exact ⟨rfl, rfl, rfl⟩
  have reported : (c ||| 4).getLsbD 2 = true := by simp
  rw [port] at rest ⊢
  exact ⟨rfl, rfl, rfl, rfl, rfl, rfl, rfl, rfl, reported, rfl, rfl, rfl, rfl, rfl, rfl, rfl, rfl, rfl, rfl, fuses, rest⟩

/-! ### Authentication and its lockout (R401, R402) -/

/-- The lockout after a failure: the third within one attach begins one of 60 s. -/
def State.lockoutAfter (s : State) : Option Nat := if s.svc.attachFails = 2 then some (s.time.now + 60000000000) else s.svc.lockout

theorem State.authFailed_svc (s : State) :
    s.authFailed.svc.attachFails = s.svc.attachFails + 1 ∧ s.authFailed.svc.lockout = s.lockoutAfter := by
  have third : s.svc.attachFails + 1 = 3 ↔ s.svc.attachFails = 2 := by omega
  exact ⟨rfl, ite_congr (propext third) (fun _ => rfl) (fun _ => rfl)⟩

/-- A vendor request as its row of Table 16.2 has it, of a row that needs no session, is served, after the control transfer before it
has ended. -/
theorem State.vendor_served {s : State} {x : Setup} {code type : Nat} {ok : Bool} (act : State → State) (on : s.svcOn = true)
    (hc : reqCode x = code) (ht : reqType x = type) (vendor : type / 32 % 4 ≠ 0) (hi : reqIndex x = 0) (hok : ok = true) :
    s.vendor x code type ok false act = act { s with svc := s.svc.dropVerify } := by
  simp [State.vendor, on, hc, ht, vendor, hi, hok]

theorem execAuthResponse_without_challenge {s : State} {q : Setup} (sig : List Byte) (on : s.svcOn = true) (hc : reqCode q = 0x11)
    (ht : reqType q = 0x40) (hi : reqIndex q = 0) (hv : reqValue q = 0) (hl : reqLength q = 64) (unasked : s.svc.challenge = none) :
    execAuthResponse q sig s = .next (State.authFailed { s with svc := s.svc.dropVerify }) := by
  unfold execAuthResponse
  rw [State.vendor_served (ok := reqValue q = 0 && reqLength q = 64) _ on hc ht (by decide) hi (by simp [hv, hl])]
  simp only [Svc.dropVerify, unasked]

theorem execAuthVerifyDone_of_verified {s : State} {ok : Bool} (h : s.svc.verified = some ok) : execAuthVerifyDone s =
    .next (if ok then ({ s with svc := { s.svc.dropVerify with session := true, change := s.svc.change ||| 0x20 } } : State).svcReply []
      else State.authFailed { s with svc := s.svc.dropVerify }) := by
  simp only [execAuthVerifyDone, h] <;> rfl

theorem execAuthLockoutEnd_of_lockout {s : State} {t : Nat} (h : s.svc.lockout = some t) : execAuthLockoutEnd s =
    .next (if t ≤ s.time.now then { s with svc := { s.svc with lockout := none, attachFails := 0 } } else s) := by
  simp only [execAuthLockoutEnd, h]

/-- AUTH_CHALLENGE is stalled during a lockout; otherwise it ends any session. -/
theorem execAuthChallenge_served {s : State} {q : Setup} (on : s.svcOn = true) (hc : reqCode q = 0x10) (ht : reqType q = 0xC0)
    (hi : reqIndex q = 0) (hv : reqValue q = 0) (hl : reqLength q = 40) :
    (s.svc.lockout ≠ none → execAuthChallenge q s = .next { s with svc := s.svc.dropVerify, out := .svcStall :: s.out }) ∧
    (s.svc.lockout = none → ∃ x, execAuthChallenge q s = .next x ∧ s.svc.Ended x.svc) := by
  unfold execAuthChallenge
  rw [State.vendor_served (ok := reqValue q = 0 && reqLength q = 40) _ on hc ht (by decide) hi (by simp [hv, hl])]
  constructor
  · intro locked
    exact congrArg Host.Outcome.next (if_pos (Option.isSome_iff_ne_none.mpr locked))
  · intro free
    have served : ¬ s.svc.dropVerify.lockout.isSome = true := by simp [Svc.dropVerify, free]
    exact ⟨_, congrArg Host.Outcome.next (if_neg served), s.svc.dropVerify.ended_endSession⟩

/-! ### What else ends a session (R402) -/

theorem execSvcBusReset_ends {s : State} (on : s.svc.attached = true) (m h : Bool) :
    ∃ x, execSvcBusReset m h s = .next x ∧ s.svc.Ended x.svc := by
  obtain ⟨x, e, hx, port, -⟩ := execSvcBusReset_effect on m h
  exact ⟨x, hx, by rw [port]; exact s.svc.ended_busReset m h⟩

theorem execSvcDetach_ends {s : State} (on : s.svc.attached = true) (off : s.mayAttach = false) :
    ∃ x, execSvcDetach s = .next x ∧ s.svc.Ended x.svc :=
  ⟨_, congrArg Host.Outcome.next (if_neg (by simp [off])), Svc.ended_detach on⟩

theorem State.writeSvcCtl_clear {w : Word} (clear : w.getLsbD 0 = false) (s : State) : (State.writeSvcCtl w s).svc =
    { ({ s.svc with attach := w.getLsbD 0, traceOk := w.getLsbD 1 } : Svc).detach with testMode := 0 } :=
  if_neg (Bool.eq_false_iff.mp clear)

/-- Clearing SVC_CTL.ATTACH removes the pull-up at the write (notes/assumptions/89.md). -/
theorem execSvcCtlWrite_ends {s : State} {w : Word} (reaches : Reaches .pf0 s) (rsv : w &&& bits 63 2 = 0) (clear : w.getLsbD 0 = false)
    (on : s.svc.attached = true) : ∃ x, execSvcCtlWrite .full w s = .next x ∧ s.svc.Ended x.svc := by
  obtain ⟨awake, sup, fence⟩ := reaches
  have kept : (s.dropLatch .pf0).svc = s.svc := State.dropLatch_only.svc rfl
  refine ⟨_, congrArg Host.Outcome.next (State.regWrite_taken awake sup fence (.inl rfl) rsv), ?_⟩
  rw [State.answer_svc, State.writeSvcCtl_clear clear, kept]
  exact Svc.ended_detach (v := { s.svc with attach := w.getLsbD 0, traceOk := w.getLsbD 1 }) on

theorem execSvcStandardRequest_setConfig_zero_ends {s : State} {q : Setup} (on : s.svcOn = true) (hc : reqCode q = 9) (ht : reqType q = 0)
    (hv : reqValue q = 0) (hi : reqIndex q = 0) (hl : reqLength q = 0) (addressed : s.svc.address ≠ 0) :
    ∃ x, execSvcStandardRequest q s = .next x ∧ s.svc.Ended x.svc := by
  have set : execSvcStandardRequest q s = .next (State.svcReply { s with svc := s.svc.dropVerify.setConfig 0 } []) := by
    have addr : s.svc.dropVerify.address ≠ 0#7 := addressed
    simp [execSvcStandardRequest, State.svcStandard, on, hc, ht, hv, hi, hl, addr, State.changeSvc]
  exact ⟨_, set, s.svc.dropVerify.ended_setConfig_zero⟩

theorem execSvcSuspend_ends {s : State} (on : s.svc.attached = true) (awake : s.svc.suspended = false) :
    ∃ x, execSvcSuspend s = .next x ∧ s.svc.Ended x.svc :=
  ⟨_, congrArg Host.Outcome.next (if_pos (by simp [on, awake])), .of_endSession rfl ⟨8, rfl⟩⟩

/-- SVC_STATUS.SESSION, whatever the fields around it hold. -/
theorem State.svcStatus_session (s : State) : (s.regValue .pf0 0xA0008).getLsbD 8 = s.svc.session := by
  have shown : s.regValue .pf0 0xA0008 = s.svcStatusView := rfl
  have flag : ∀ a w e t r u c h d v i : Nat, w ≤ 1 → e ≤ 1 → t ≤ 1 → r ≤ 1 → u ≤ 1 → c ≤ 1 → h ≤ 1 → d ≤ 1 → v ≤ 1 → i ≤ 1 →
      (0 + a * 2 ^ 16 + w * 2 ^ 9 + e * 2 ^ 8 + t * 2 ^ 7 + r * 2 ^ 6 + u * 2 ^ 5 + c * 2 ^ 4 + h * 2 ^ 3 + d * 2 ^ 2 + v * 2 ^ 1 +
        i * 2 ^ 0) / 2 ^ 8 % 2 = e := by omega
  simp only [shown, State.svcStatusView, pack, List.foldl, BitVec.getLsbD_ofNat, Nat.testBit_eq_decide_div_mod_eq,
    flag _ _ _ _ _ _ _ _ _ _ _ (b2n_le_one _) (b2n_le_one _) (b2n_le_one _) (b2n_le_one _) (b2n_le_one _) (b2n_le_one _)
      (b2n_le_one _) (b2n_le_one _) (b2n_le_one _) (b2n_le_one _)]
  cases s.svc.session <;> rfl

/-- Settles O53: a failure counts and locks out by `State.authFailed_svc`; every command that closes a session does so through
`Svc.endSession`. -/
theorem sessionsAndLockout : Obligations.SessionsAndLockout := by
  intro s
  refine ⟨fun h may off => ?attach, fun failed => ?verify, fun q sig on hc ht hi hv hl chal => ?response, fun t lock => ?lockout,
    fun q on hc ht hi hv hl => execAuthChallenge_served on hc ht hi hv hl, fun m h on => execSvcBusReset_ends on m h, execSvcDetach_ends,
    fun w => execSvcCtlWrite_ends, fun q => execSvcStandardRequest_setConfig_zero_ends, execSvcSuspend_ends, fun passed => ?opens,
    s.svcStatus_session⟩
  case attach => exact ⟨_, congrArg Host.Outcome.next (if_pos (by simp [may, off])), rfl⟩
  case verify => exact ⟨_, execAuthVerifyDone_of_verified failed, State.authFailed_svc _⟩
  case response => exact ⟨_, execAuthResponse_without_challenge sig on hc ht hi hv hl chal, State.authFailed_svc _⟩
  case lockout =>
    have ends := execAuthLockoutEnd_of_lockout lock
    exact ⟨fun early => ends.trans (congrArg Host.Outcome.next (if_neg (Nat.not_le.mpr early))),
      fun due => ⟨_, ends.trans (congrArg Host.Outcome.next (if_pos due)), rfl⟩⟩
  case opens => exact ⟨_, execAuthVerifyDone_of_verified passed, rfl, by simp [State.svcReply]⟩

end Sys2Proof.Machine
